-- ==== Sys2Proof/Word.lean ====
section
/-! DEFINITION. The plainest types of the model: bytes, words and sparse tables. -/
namespace Sys2Proof

/-- A byte. -/
abbrev Byte := BitVec 8

/-- A 32-bit word, the unit of registers, messages and command operands (00_scope R8). -/
abbrev Word := BitVec 32

/-- A sparse table: (key, value) pairs with rising keys, no entry equal to the table's default.
The named operations on it stand in `Machine/Ops.lean`. -/
abbrev Tab (α : Type) := List (Nat × α)

end Sys2Proof
end

