-- ==== Sys2Proof/Syntax/Codes.lean ====
section
/-! DEFINITION. The return codes of 14_command_catalogue R420, by name. Their numbers stand in
`Machine/Codes.lean`. -/
namespace Sys2Proof

/-- A return code of 14_command_catalogue R420. -/
inductive Rc where
  /-- 0x0000 SUCCESS -/
  | success
  /-- 0x0001 ACCEPTED_ASYNC -/
  | acceptedAsync
  /-- 0x0002 ZERO_LENGTH -/
  | zeroLength
  /-- 0x0003 TXN_STAGED -/
  | txnStaged
  /-- 0x0101 UNKNOWN_OPCODE -/
  | unknownOpcode
  /-- 0x0102 MSG_LENGTH -/
  | msgLength
  /-- 0x0103 RESERVED_VALUE -/
  | reservedValue
  /-- 0x0104 LENGTH_SHORT -/
  | lengthShort
  /-- 0x0105 LANE_FMT -/
  | laneFmt
  /-- 0x0106 SCHED_DUP -/
  | schedDup
  /-- 0x0107 SCHED_RATE -/
  | schedRate
  /-- 0x0108 ORC_HORIZON -/
  | orcHorizon
  /-- 0x0109 ORC_TOO_LONG -/
  | orcTooLong
  /-- 0x010A PRF_RANGE -/
  | prfRange
  /-- 0x010B RAD_SCRIPT -/
  | radScript
  /-- 0x010C RAD_NO_FIT -/
  | radNoFit
  /-- 0x010D ISB_TOO_LONG -/
  | isbTooLong
  /-- 0x010E SMB_PEC -/
  | smbPec
  /-- 0x010F TRK_FORMAT -/
  | trkFormat
  /-- 0x0201 NO_AUTHORITY -/
  | noAuthority
  /-- 0x0202 NOT_SEC_CHANNEL -/
  | notSecChannel
  /-- 0x0203 SEC_ONLY_CHANNEL -/
  | secOnlyChannel
  /-- 0x0301 NOT_HALTED -/
  | notHalted
  /-- 0x0302 NO_DMA_PATH -/
  | noDmaPath
  /-- 0x0303 TXN_NONE -/
  | txnNone
  /-- 0x0304 TXN_OPEN -/
  | txnOpen
  /-- 0x0305 TXN_CLASS -/
  | txnClass
  /-- 0x0306 TXN_EPOCH_RANGE -/
  | txnEpochRange
  /-- 0x0307 TXN_EXPIRED -/
  | txnExpired
  /-- 0x0308 TXN_CONFLICT -/
  | txnConflict
  /-- 0x0309 TXN_SKIPPED -/
  | txnSkipped
  /-- 0x030A TXN_DISCARDED -/
  | txnDiscarded
  /-- 0x030B NO_MEAS -/
  | noMeas
  /-- 0x030C SIG_OUT_OF_BAND -/
  | sigOutOfBand
  /-- 0x030D CHAN_DUP -/
  | chanDup
  /-- 0x030E CHAN_UNALLOC -/
  | chanUnalloc
  /-- 0x030F LANE_OFF -/
  | laneOff
  /-- 0x0310 ORC_FROZEN -/
  | orcFrozen
  /-- 0x0311 ORC_NO_GRANT -/
  | orcNoGrant
  /-- 0x0312 ORC_OUT_OF_GRID -/
  | orcOutOfGrid
  /-- 0x0313 PRF_OFF -/
  | prfOff
  /-- 0x0314 PRF_NO_TRACK -/
  | prfNoTrack
  /-- 0x0315 PRF_JOINT -/
  | prfJoint
  /-- 0x0316 PRF_EMPTY -/
  | prfEmpty
  /-- 0x0317 TRK_IN_USE -/
  | trkInUse
  /-- 0x0318 BGL_NO_STOP -/
  | bglNoStop
  /-- 0x0319 BGL_NO_CHAIN -/
  | bglNoChain
  /-- 0x031A RAD_NO_REGION -/
  | radNoRegion
  /-- 0x031B RAD_NOT_ACTIVE -/
  | radNotActive
  /-- 0x031C RAD_NOT_PRESENT -/
  | radNotPresent
  /-- 0x031D SW_WALK_CLOSED -/
  | swWalkClosed
  /-- 0x031E L2_ABSENT -/
  | l2Absent
  /-- 0x031F ROUTE_ABSENT -/
  | routeAbsent
  /-- 0x0320 NH_UNSET -/
  | nhUnset
  /-- 0x0321 PWR_EPOCH_RANGE -/
  | pwrEpochRange
  /-- 0x0322 PWR_PENDING -/
  | pwrPending
  /-- 0x0323 CAN_BUS_OFF -/
  | canBusOff
  /-- 0x0324 ISB_NO_ADDRESS -/
  | isbNoAddress
  /-- 0x0325 SMB_NACK -/
  | smbNack
  /-- 0x0326 GPIO_IN_USE -/
  | gpioInUse
  /-- 0x0401 NOT_FITTED -/
  | notFitted
  /-- 0x0402 RESOURCE_BUSY -/
  | resourceBusy
  /-- 0x0403 TXN_FULL -/
  | txnFull
  /-- 0x0404 TAG_BUSY -/
  | tagBusy
  /-- 0x0405 READ_QUEUE_FULL -/
  | readQueueFull
  /-- 0x0406 NO_CHANNEL -/
  | noChannel
  /-- 0x0407 ZFL_ROOM -/
  | zflRoom
  /-- 0x0408 SEARCH_BUDGET -/
  | searchBudget
  /-- 0x0409 ORC_TOO_BIG -/
  | orcTooBig
  /-- 0x040A ORC_STORE_FULL -/
  | orcStoreFull
  /-- 0x040B ORC_GRANTS_FULL -/
  | orcGrantsFull
  /-- 0x040C PRF_QUEUE_FULL -/
  | prfQueueFull
  /-- 0x040D TRK_STORE_FULL -/
  | trkStoreFull
  /-- 0x040E RAD_PHASE -/
  | radPhase
  /-- 0x040F RAD_NO_ACK -/
  | radNoAck
  /-- 0x0410 L2_FULL -/
  | l2Full
  /-- 0x0411 L2_DEFERRED -/
  | l2Deferred
  /-- 0x0412 TCAM_FULL -/
  | tcamFull
  /-- 0x0413 SW_BUFFER -/
  | swBuffer
  /-- 0x0414 CAN_QUEUE_FULL -/
  | canQueueFull
  /-- 0x0415 SMB_TIMEOUT -/
  | smbTimeout
  /-- 0x0501 SLOT_MOVING -/
  | slotMoving
  /-- 0x0502 ARP_IN_USE -/
  | arpInUse
  /-- 0x0503 TXN_INVARIANT -/
  | txnInvariant
  /-- 0x0504 ORC_DENIED -/
  | orcDenied
  /-- 0x0505 ORC_MARGIN -/
  | orcMargin
  /-- 0x0506 ORC_INVARIANT -/
  | orcInvariant
  /-- 0x0507 PRF_NO_REVERSE -/
  | prfNoReverse
  /-- 0x0508 BGL_CAUSE_PRESENT -/
  | bglCausePresent
  /-- 0x0509 BGL_RESET_ONLY -/
  | bglResetOnly
  /-- 0x050A BGL_STOP_IN_FORCE -/
  | bglStopInForce
  /-- 0x050B PWR_FLEET_ACTIVE -/
  | pwrFleetActive
  /-- 0x0601 BGL_LIFECYCLE -/
  | bglLifecycle
  /-- 0x0602 KEY_DEST -/
  | keyDest
  /-- 0x0603 KEY_EMPTY -/
  | keyEmpty
  /-- 0x0604 KEY_USAGE -/
  | keyUsage
  /-- 0x0605 KEY_NO_EXPORT -/
  | keyNoExport
  /-- 0x0606 LC_ILLEGAL -/
  | lcIllegal
  /-- 0x0607 TAMPER -/
  | tamper
  /-- 0x0608 DEBUG_LOCKED -/
  | debugLocked
  /-- 0x0609 SELFTEST_FAIL -/
  | selftestFail
  /-- 0x060A AUTH_FAIL -/
  | authFail
  /-- 0x0701 UPDATE_BUSY -/
  | updateBusy
  /-- 0x0702 UPD_HEADER -/
  | updHeader
  /-- 0x0703 UPD_PART -/
  | updPart
  /-- 0x0704 UPD_FROM_HASH -/
  | updFromHash
  /-- 0x0705 UPD_SIGNATURE -/
  | updSignature
  /-- 0x0706 UPD_TO_HASH -/
  | updToHash
  /-- 0x0707 UPD_NO_SESSION -/
  | updNoSession
  /-- 0x0708 UPD_OFFSET -/
  | updOffset
  /-- 0x0709 UPD_NOT_TRIAL -/
  | updNotTrial
  /-- 0x070A UPD_NO_ROLLBACK -/
  | updNoRollback
  /-- 0x070B UPD_IDLE -/
  | updIdle
  /-- 0x0F01 CMD_TIMEOUT -/
  | cmdTimeout
  /-- 0x0F02 INTERNAL -/
  | internal
  /-- 0x0F03 SERVICE_RESTART -/
  | serviceRestart
deriving DecidableEq, Repr

end Sys2Proof
end

