-- ==== Sys2Proof/Syntax/Op.lean ====
section
/-! DEFINITION. The commands of the catalogue (14_command_catalogue R407), by name. Their opcodes and
attributes stand in `Machine/OpTable.lean`. -/
namespace Sys2Proof

/-- A command of the catalogue: a row of one of the attribute tables that R407 names. -/
inductive Op where
  /-- NOP, 0x0000 (13_mailboxes_authority) -/
  | nop
  /-- GEN_INFO, 0x0002 (14_command_catalogue) -/
  | genInfo
  /-- TXN_BEGIN, 0x0100 (14_command_catalogue) -/
  | txnBegin
  /-- TXN_COMMIT, 0x0101 (14_command_catalogue) -/
  | txnCommit
  /-- TXN_ROLLBACK, 0x0102 (14_command_catalogue) -/
  | txnRollback
  /-- TXN_STATUS, 0x0103 (14_command_catalogue) -/
  | txnStatus
  /-- GNS_LANE_CFG, 0x0300 (03_gnss_tracking) -/
  | gnsLaneCfg
  /-- GNS_LANE_EN, 0x0301 (03_gnss_tracking) -/
  | gnsLaneEn
  /-- GNS_MON_CFG, 0x0302 (03_gnss_tracking) -/
  | gnsMonCfg
  /-- GNS_MEAS_CFG, 0x0303 (03_gnss_tracking) -/
  | gnsMeasCfg
  /-- GNS_CHAN_ALLOC, 0x0304 (03_gnss_tracking) -/
  | gnsChanAlloc
  /-- GNS_CHAN_FREE, 0x0305 (03_gnss_tracking) -/
  | gnsChanFree
  /-- GNS_PLAN, 0x0306 (03_gnss_tracking) -/
  | gnsPlan
  /-- GNS_ACQ, 0x0307 (03_gnss_tracking) -/
  | gnsAcq
  /-- GNS_LANE_STATUS, 0x0308 (03_gnss_tracking) -/
  | gnsLaneStatus
  /-- GNS_CHAN_STATUS, 0x0309 (03_gnss_tracking) -/
  | gnsChanStatus
  /-- GNS_MEAS_READ, 0x030A (03_gnss_tracking) -/
  | gnsMeasRead
  /-- REF_ARP_SURVEY, 0x0400 (04_reference_corrections) -/
  | refArpSurvey
  /-- REF_ARP_SET, 0x0401 (04_reference_corrections) -/
  | refArpSet
  /-- REF_ANT_CFG, 0x0402 (04_reference_corrections) -/
  | refAntCfg
  /-- REF_STEER_CFG, 0x0403 (04_reference_corrections) -/
  | refSteerCfg
  /-- REF_OUT_CFG, 0x0404 (04_reference_corrections) -/
  | refOutCfg
  /-- REF_SCHED_SET, 0x0405 (04_reference_corrections) -/
  | refSchedSet
  /-- REF_ZFL_CFG, 0x0406 (04_reference_corrections) -/
  | refZflCfg
  /-- REF_NTRIP_CFG, 0x0407 (04_reference_corrections) -/
  | refNtripCfg
  /-- REF_NTRIP_USER, 0x0408 (04_reference_corrections) -/
  | refNtripUser
  /-- REF_INTEG_CFG, 0x0409 (04_reference_corrections) -/
  | refIntegCfg
  /-- REF_STATUS, 0x040A (04_reference_corrections) -/
  | refStatus
  /-- REF_CORR_READ, 0x040B (04_reference_corrections) -/
  | refCorrRead
  /-- FIX_CFG, 0x0500 (05_fleet_positioning) -/
  | fixCfg
  /-- FIX_GLOBAL_CFG, 0x0501 (05_fleet_positioning) -/
  | fixGlobalCfg
  /-- FIX_RESET, 0x0502 (05_fleet_positioning) -/
  | fixReset
  /-- FIX_STATUS, 0x0503 (05_fleet_positioning) -/
  | fixStatus
  /-- FIX_READ, 0x0504 (05_fleet_positioning) -/
  | fixRead
  /-- BRM_STATUS, 0x0505 (05_fleet_positioning) -/
  | brmStatus
  /-- ORC_GRID_CFG, 0x0600 (06_orchard_reservations) -/
  | orcGridCfg
  /-- ORC_GLOBAL_CFG, 0x0601 (06_orchard_reservations) -/
  | orcGlobalCfg
  /-- ORC_SLOT_CFG, 0x0602 (06_orchard_reservations) -/
  | orcSlotCfg
  /-- ORC_ZONE_CFG, 0x0603 (06_orchard_reservations) -/
  | orcZoneCfg
  /-- ORC_REQUEST, 0x0604 (06_orchard_reservations) -/
  | orcRequest
  /-- ORC_RELEASE, 0x0605 (06_orchard_reservations) -/
  | orcRelease
  /-- ORC_RELEASE_FROZEN, 0x0606 (06_orchard_reservations) -/
  | orcReleaseFrozen
  /-- ORC_TILE_READ, 0x0607 (06_orchard_reservations) -/
  | orcTileRead
  /-- ORC_STATUS, 0x0608 (06_orchard_reservations) -/
  | orcStatus
  /-- PRF_CHAN_CFG, 0x0700 (07_profile_engine) -/
  | prfChanCfg
  /-- PRF_LAG_CFG, 0x0701 (07_profile_engine) -/
  | prfLagCfg
  /-- PRF_SEG_PUSH, 0x0702 (07_profile_engine) -/
  | prfSegPush
  /-- PRF_FLUSH, 0x0703 (07_profile_engine) -/
  | prfFlush
  /-- PRF_RETARGET, 0x0704 (07_profile_engine) -/
  | prfRetarget
  /-- PRF_DECEL, 0x0705 (07_profile_engine) -/
  | prfDecel
  /-- PRF_CLEAR, 0x0706 (07_profile_engine) -/
  | prfClear
  /-- PRF_STATUS, 0x0707 (07_profile_engine) -/
  | prfStatus
  /-- TRK_LOAD, 0x0708 (14_command_catalogue) -/
  | trkLoad
  /-- TRK_DELETE, 0x0709 (14_command_catalogue) -/
  | trkDelete
  /-- TRK_INFO, 0x070A (14_command_catalogue) -/
  | trkInfo
  /-- BGL_STOP, 0x0800 (08_bugle_permission_stop) -/
  | bglStop
  /-- BGL_RELEASE, 0x0801 (08_bugle_permission_stop) -/
  | bglRelease
  /-- BGL_ENABLE, 0x0802 (08_bugle_permission_stop) -/
  | bglEnable
  /-- BGL_DISABLE, 0x0803 (08_bugle_permission_stop) -/
  | bglDisable
  /-- BGL_ANCHOR_READ, 0x0804 (08_bugle_permission_stop) -/
  | bglAnchorRead
  /-- RAD_GLOBAL_CFG, 0x0900 (09_zfl_radio) -/
  | radGlobalCfg
  /-- RAD_PORT_CFG, 0x0901 (09_zfl_radio) -/
  | radPortCfg
  /-- RAD_SCRIPT_LOAD, 0x0902 (09_zfl_radio) -/
  | radScriptLoad
  /-- RAD_PORT_EN, 0x0903 (09_zfl_radio) -/
  | radPortEn
  /-- RAD_SLOT_CFG, 0x0904 (09_zfl_radio) -/
  | radSlotCfg
  /-- RAD_DEREGISTER, 0x0905 (09_zfl_radio) -/
  | radDeregister
  /-- RAD_PARTNER_CFG, 0x0906 (09_zfl_radio) -/
  | radPartnerCfg
  /-- RAD_ROLE_CFG, 0x0907 (09_zfl_radio) -/
  | radRoleCfg
  /-- RAD_APP_SEND, 0x0908 (09_zfl_radio) -/
  | radAppSend
  /-- RAD_RAW_SEL, 0x0909 (09_zfl_radio) -/
  | radRawSel
  /-- RAD_STATUS, 0x090A (09_zfl_radio) -/
  | radStatus
  /-- RAD_SLOT_STATUS, 0x090B (09_zfl_radio) -/
  | radSlotStatus
  /-- RAD_PARTNER_STATUS, 0x090C (09_zfl_radio) -/
  | radPartnerStatus
  /-- SW_PORT_CFG, 0x0A00 (10_switching_forwarding) -/
  | swPortCfg
  /-- SW_PORT_EN, 0x0A01 (10_switching_forwarding) -/
  | swPortEn
  /-- SW_GLOBAL_CFG, 0x0A02 (10_switching_forwarding) -/
  | swGlobalCfg
  /-- SW_VLAN_CFG, 0x0A03 (10_switching_forwarding) -/
  | swVlanCfg
  /-- SW_QOS_CFG, 0x0A04 (10_switching_forwarding) -/
  | swQosCfg
  /-- SW_L2_ADD, 0x0A05 (10_switching_forwarding) -/
  | swL2Add
  /-- SW_L2_DEL, 0x0A06 (10_switching_forwarding) -/
  | swL2Del
  /-- SW_L2_SEARCH, 0x0A07 (10_switching_forwarding) -/
  | swL2Search
  /-- SW_L2_NEXT, 0x0A08 (10_switching_forwarding) -/
  | swL2Next
  /-- SW_FLUSH_BY_PORT, 0x0A09 (10_switching_forwarding) -/
  | swFlushByPort
  /-- SW_RIF_CFG, 0x0A0A (10_switching_forwarding) -/
  | swRifCfg
  /-- SW_NH_SET, 0x0A0B (10_switching_forwarding) -/
  | swNhSet
  /-- SW_ROUTE_ADD, 0x0A0C (10_switching_forwarding) -/
  | swRouteAdd
  /-- SW_ROUTE_DEL, 0x0A0D (10_switching_forwarding) -/
  | swRouteDel
  /-- SW_MACSEC_SA, 0x0A0E (10_switching_forwarding) -/
  | swMacsecSa
  /-- SW_DIGEST_READ, 0x0A0F (10_switching_forwarding) -/
  | swDigestRead
  /-- SW_BLOCK_READ, 0x0A10 (10_switching_forwarding) -/
  | swBlockRead
  /-- SW_STATUS, 0x0A11 (10_switching_forwarding) -/
  | swStatus
  /-- PWR_CFG, 0x0B00 (11_scheduler_bellows) -/
  | pwrCfg
  /-- PWR_SET, 0x0B01 (11_scheduler_bellows) -/
  | pwrSet
  /-- PWR_WAKE_CFG, 0x0B02 (11_scheduler_bellows) -/
  | pwrWakeCfg
  /-- SCH_CLASS_CFG, 0x0B03 (11_scheduler_bellows) -/
  | schClassCfg
  /-- SCH_STATUS, 0x0B04 (11_scheduler_bellows) -/
  | schStatus
  /-- PWR_STATUS, 0x0B05 (11_scheduler_bellows) -/
  | pwrStatus
  /-- CAN_PORT_CFG, 0x0C00 (12_host_local_interfaces) -/
  | canPortCfg
  /-- CAN_FILTER, 0x0C01 (12_host_local_interfaces) -/
  | canFilter
  /-- CAN_SEND, 0x0C02 (12_host_local_interfaces) -/
  | canSend
  /-- CAN_READ, 0x0C03 (12_host_local_interfaces) -/
  | canRead
  /-- ISB_CFG, 0x0C04 (12_host_local_interfaces) -/
  | isbCfg
  /-- ISB_SEND, 0x0C05 (12_host_local_interfaces) -/
  | isbSend
  /-- ISB_READ, 0x0C06 (12_host_local_interfaces) -/
  | isbRead
  /-- SMB_XFER, 0x0C07 (12_host_local_interfaces) -/
  | smbXfer
  /-- GPIO_CFG, 0x0C08 (12_host_local_interfaces) -/
  | gpioCfg
  /-- GPIO_WRITE, 0x0C09 (12_host_local_interfaces) -/
  | gpioWrite
  /-- GPIO_READ, 0x0C0A (12_host_local_interfaces) -/
  | gpioRead
  /-- ADC_CFG, 0x0C0B (12_host_local_interfaces) -/
  | adcCfg
  /-- ADC_READ, 0x0C0C (12_host_local_interfaces) -/
  | adcRead
  /-- UART_CFG, 0x0C0D (12_host_local_interfaces) -/
  | uartCfg
  /-- IF_STATUS, 0x0C0E (12_host_local_interfaces) -/
  | ifStatus
  /-- MBX_BIND_SET, 0x0D00 (13_mailboxes_authority) -/
  | mbxBindSet
  /-- CMD_PATH_STATUS, 0x0D01 (13_mailboxes_authority) -/
  | cmdPathStatus
  /-- KEY_GENERATE, 0x0E00 (14_command_catalogue) -/
  | keyGenerate
  /-- KEY_IMPORT, 0x0E01 (14_command_catalogue) -/
  | keyImport
  /-- KEY_EXPORT, 0x0E02 (14_command_catalogue) -/
  | keyExport
  /-- KEY_DERIVE, 0x0E03 (14_command_catalogue) -/
  | keyDerive
  /-- KEY_ZEROIZE, 0x0E04 (14_command_catalogue) -/
  | keyZeroize
  /-- KEY_INFO, 0x0E05 (14_command_catalogue) -/
  | keyInfo
  /-- KEY_PUBLIC, 0x0E06 (14_command_catalogue) -/
  | keyPublic
  /-- LC_ADVANCE, 0x0F00 (14_command_catalogue) -/
  | lcAdvance
  /-- LC_STATUS, 0x0F01 (14_command_catalogue) -/
  | lcStatus
  /-- DBG_UNLOCK, 0x0F02 (14_command_catalogue) -/
  | dbgUnlock
  /-- SELFTEST_RUN, 0x0F03 (14_command_catalogue) -/
  | selftestRun
  /-- TAMPER_CFG, 0x0F04 (14_command_catalogue) -/
  | tamperCfg
  /-- TAMPER_STATUS, 0x0F05 (14_command_catalogue) -/
  | tamperStatus
  /-- REC_CFG, 0x1000 (14_command_catalogue) -/
  | recCfg
  /-- REC_HIST_CFG, 0x1001 (14_command_catalogue) -/
  | recHistCfg
  /-- REC_HIST_READ, 0x1002 (14_command_catalogue) -/
  | recHistRead
  /-- REC_FLUSH, 0x1003 (14_command_catalogue) -/
  | recFlush
  /-- REC_CLEAR, 0x1004 (14_command_catalogue) -/
  | recClear
  /-- REC_CLEAR_CONFIRM, 0x1005 (14_command_catalogue) -/
  | recClearConfirm
  /-- UPD_BEGIN, 0x1100 (14_command_catalogue) -/
  | updBegin
  /-- UPD_DATA, 0x1101 (14_command_catalogue) -/
  | updData
  /-- UPD_COMMIT, 0x1102 (14_command_catalogue) -/
  | updCommit
  /-- UPD_ABORT, 0x1103 (14_command_catalogue) -/
  | updAbort
  /-- UPD_CONFIRM, 0x1104 (14_command_catalogue) -/
  | updConfirm
  /-- UPD_ROLLBACK, 0x1105 (14_command_catalogue) -/
  | updRollback
  /-- UPD_STATUS, 0x1106 (14_command_catalogue) -/
  | updStatus
  /-- BOOT_RESET, 0x1107 (14_command_catalogue) -/
  | bootReset
deriving DecidableEq, Repr

end Sys2Proof
end

