-- ==== Sys2Proof/Syntax/Types.lean ====
section
/-! DEFINITION. The operands of the steps: who sends, by which path, and what an event brings from outside the
modelled block (frames, sensor readings, engine results). -/
namespace Sys2Proof

/-- A master identity (13_mailboxes R382); codes 0x9 to 0xF are never carried. -/
inductive Master where
  | sec | safe | sup | clu | hpf0 | hpf1 | spih | uart | dbg
deriving DecidableEq, Repr

/-- The arrival path of a command (13_mailboxes R396). -/
inductive Path where
  /-- A mailbox channel. -/
  | mbx (ch : Fin 32)
  /-- A command ring. -/
  | ring (r : Fin 16)
  /-- A management frame from switch port 6, HPF1. -/
  | mgmt
  /-- A management frame on E0 or E1 under a validated MACsec SA. -/
  | site
  /-- A STOP_REQ container of a machine slot (R262). -/
  | field
deriving DecidableEq, Repr

/-- An arriving catalogue command: its path, the tag of its header, its request words, and the bytes the device reads
from the host buffer, transfer area or attachment that the words name (R409, R469). -/
structure Cmd where
  path : Path
  tag : BitVec 8
  words : List Word
  data : List Byte := []
  /-- The cryptographic check that the command's data needs succeeds: a GCM tag (R430), a debug token (R440) or the
  signature set of a header (R466). -/
  sigOk : Bool := true
deriving DecidableEq, Repr

/-- The instance of the common queue whose registers are accessed (01_architecture, common queue rules). -/
inductive QId where
  | cap (n : Fin 16)
  | rxq (p : Fin 8)
  | txts (p : Fin 8)
  | trc
  | nq (r : Fin 16)
  | cr (r : Fin 16)
deriving DecidableEq, Repr

/-- A launch gate: LG0 to LG15, or the TX-on gate of a radio port (R64, R68). -/
inductive GateId where
  | lg (n : Fin 16)
  | radio (p : Fin 8)
deriving DecidableEq, Repr

/-- A ring in host memory that a DMA error can stop (R366, R405). -/
inductive DmaRing where
  | nq (r : Fin 16)
  | cr (r : Fin 16)
deriving DecidableEq, Repr

/-- The reads that wait for data under R108. -/
inductive ReadKind where
  | meas | corr (out : Fin 4) | fix | can (p : Fin 4) | isb (p : Fin 4) | adc
deriving DecidableEq, Repr

/-- What the monitors of a lane measured over an interval (R98 to R100). (DESIGN CHOICE: log entry 11.) -/
structure LaneMon where
  /-- MAG in 2^-8 on a 2-bit lane, RMS in 2^-8 LSB on a 4-bit lane. -/
  level : Nat
  /-- Blanked fraction in 2^-16. -/
  blanked : Nat
  /-- Bins that exceed the median by NB_DB or more, strongest first. -/
  peaks : List Nat
deriving DecidableEq, Repr

/-- One record of a measurement block as the tracking firmware produces it (R106), with what the reference engine
judges it by (R115). (DESIGN CHOICE: log entry 11.) -/
structure MeasRec where
  chan : Nat
  cn0 : Nat
  prValid : Bool
  cpValid : Bool
  halfRes : Bool
  slipDetected : Bool
  pilot : Bool
  /-- Pseudorange in 2^-12 m. -/
  pr : Nat
  /-- Carrier phase in 2^-16 cycle. -/
  cp : Int
  /-- Doppler in mHz. -/
  dop : Int
  /-- A notch lies within the main lobe (R101). -/
  notch : Bool
  /-- Elevation at the ARP, degrees. -/
  elev : Int
  /-- Code residual against the ARP solution, mm (R115). -/
  residual : Nat
  /-- ROUGH_INT, ROUGH_MOD, FINE_PR and FINE_PH of R131 after the reduction of R133. -/
  roughInt : Nat
  roughMod : Nat
  finePr : Int
  finePh : Int
deriving DecidableEq, Repr

/-- What the measurement block of an instant brings (R105 to R118). (DESIGN CHOICE: log entry 11.) -/
structure MeasIn where
  recs : List MeasRec
  /-- Time from the instant to the block being ready, µs. -/
  readyUs : Nat
  /-- Clock bias and drift estimate, ps and ps/s, with at least 5 satellites (R116). -/
  clock : Option (Int × Int)
  /-- Standard deviation of the bias, ns (R116). -/
  biasSigmaNs : Nat
  /-- Single-point solution of antenna A, ECEF mm (R113). -/
  spp : Option (Int × Int × Int)
  /-- Standard error of the survey mean after this instant, mm (R113). -/
  meanErrMm : Nat
  /-- Deviation of the 10 s mean of the single-point solutions from the ARP, mm (R118). -/
  posDevMm : Nat
  /-- A to B baseline, ENU mm, when fixed at this instant. -/
  baseline : Option (Int × Int × Int)
deriving DecidableEq, Repr

/-- An HTTP request to the NTRIP caster (R138). -/
structure NtripReq where
  /-- The request is GET / for the sourcetable. -/
  root : Bool
  /-- The header "Ntrip-Version: Ntrip/2.0" is present. -/
  v2 : Bool
  /-- The mountpoint named, 32 bytes NUL-padded. -/
  mount : List Byte
  user : List Byte
  password : List Byte
deriving DecidableEq, Repr

/-- A radio frame as a port's transceiver delivers it (R260). (DESIGN CHOICE: log entry 12.) -/
structure RxFrame where
  fcsOk : Bool
  /-- Frame version 0b10 and frame type Data. -/
  dataV2 : Bool
  /-- A beacon frame of source 0x0000 (R286). -/
  beacon : Bool
  pan : BitVec 16
  dst : BitVec 16
  src : BitVec 16
  /-- Signed offset of the timestamp point from the slot boundary, ns. -/
  tsNs : Int
  /-- CCM* authentication verifies under the source's link key. -/
  authOk : Bool
  /-- CCM* frame counter. -/
  counter : Nat
  seq : Byte
  /-- An acknowledgement of a base frame that arrived in time (R266). -/
  isAck : Bool
  rssi : Int
  lqi : Nat
  /-- MAC payload after the ZHDR, up to the MIC; ZHDR first. -/
  payload : List Byte
  /-- A burst strobe fell within the reception (R253). -/
  aborted : Bool
  /-- The MPDU as received, for the raw queue (R288). -/
  mpdu : List Byte := []
deriving DecidableEq, Repr

/-- A primary beacon as a follower hears it (R283). (DESIGN CHOICE: log entry 12.) -/
structure BeaconIn where
  pan : BitVec 16
  src : BitVec 16
  fcsOk : Bool
  epoch : Word
  /-- The beacon's timestamp minus TX_OFS_NS and the local boundary, ns, and the uncertainty of the measurement. -/
  offsetNs : Int
  uncNs : Nat
deriving DecidableEq, Repr

/-- Result of a float filter update (R148 to R152). (DESIGN CHOICE: log entry 11.) -/
structure FilterIn where
  /-- Field-frame position, mm. -/
  e : Int
  n : Int
  u : Int
  /-- Velocity, mm/s. -/
  ve : Int
  vn : Int
  vu : Int
  /-- √λmax of the east-north covariance and the up standard deviation, scaled as R158 says, 10^-3 mm. -/
  sdH : Nat
  sdV : Nat
  /-- Standard deviations, 0.1 mm, and the east-north correlation times 127. -/
  sigE : Nat
  sigN : Nat
  sigU : Nat
  rhoEn : Int
  nsat : Nat
  /-- Satellites with a DD code and with a DD phase (R156). -/
  ddCode : Nat
  ddPhase : Nat
  /-- The antenna lies within 10 km of the ARP (R157). -/
  inRange : Bool
  /-- Searchable ambiguities after R152. -/
  namb : Nat
  /-- Time from the instant, µs. -/
  readyUs : Nat
deriving DecidableEq, Repr

/-- Result of a Bramble search and of the solution it fixes (R153, R157, R158). (DESIGN CHOICE: log entry 11.) -/
structure SearchIn where
  /-- COMPLETE; otherwise CAPPED. -/
  complete : Bool
  /-- Best integer vector: (ambiguity key, integer). -/
  best : List (Nat × Int)
  /-- Squared norms q1 ≤ q2. -/
  q1 : Nat
  q2 : Nat
  nodes : Nat
  /-- 1 − Ps in 2^-64 units (R153). -/
  failProb : Nat
  /-- Satellites covered by the searched ambiguities. -/
  sats : Nat
  /-- Every fixed DD phase residual lies within 4 standard deviations. -/
  residualOk : Bool
  /-- Keys of ambiguities that survived R149. -/
  survived : List Nat
  /-- Fixed solution: position, velocity and standard deviations, in the units of the float solution. -/
  e : Int
  n : Int
  u : Int
  ve : Int
  vn : Int
  vu : Int
  sdH : Nat
  sdV : Nat
  sigE : Nat
  sigN : Nat
  sigU : Nat
  rhoEn : Int
  readyUs : Nat
deriving DecidableEq, Repr

/-- The IPv4 fields the switch reads (R294, R306, R312, R324). -/
structure IpHdr where
  dst : Word
  src : Word
  ttl : Nat
  dscp : Nat
  proto : Nat
  sport : Nat
  dport : Nat
deriving DecidableEq, Repr

/-- The SecTAG of a frame: SCI, association number, PN, and whether the ICV verifies under that SA's key (R315). -/
structure SecTag where
  sci : BitVec 64
  an : Nat
  pn : Nat
  icvOk : Bool
deriving DecidableEq, Repr

/-- An Ethernet frame as its port delivers it (R294). -/
structure EthFrame where
  /-- Frame bytes, SecTAG and ICV not counted. -/
  len : Nat
  fcsOk : Bool
  da : BitVec 48
  sa : BitVec 48
  /-- VLAN tag: VID and PCP, when tagged. -/
  tag : Option (Nat × Nat)
  etherType : Nat
  ip : Option IpHdr
  macsec : Option SecTag
  /-- PTP message type 0 Sync, 1 Delay_Req, 2 Pdelay_Req, 3 Pdelay_Resp, when a PTP event message (R316). -/
  ptp : Option Nat
  /-- A received PAUSE (all priorities) or PFC frame: (priority mask, quanta) (R314). -/
  pause : Option (Nat × Nat)
  /-- Sender's descriptor sets ONE_STEP or TS_REQ (frames from SUP and HPF1). -/
  oneStep : Bool
  tsReq : Bool
  /-- Egress queue that the sender's descriptor overrides (PRIO_OVR, R363). -/
  prioOvr : Option Nat := none
  /-- NET frames that wait in the port's lookup FIFO as the frame arrives (R317). -/
  lane : Nat := 0
  /-- The bytes after the EtherType, the FCS among them. -/
  body : List Byte := []
deriving DecidableEq, Repr

/-- A management frame that reached the supervisor (R411). -/
structure MgmtIn where
  /-- From switch port 6; otherwise from E0 or E1. -/
  hpf1 : Bool
  /-- Under a validated MACsec SA, on the management VID (R396). -/
  validated : Bool
  onMgmtVid : Bool
  version : Nat
  seq : Nat
  /-- Payload bytes after the 4-byte header. -/
  len : Nat
  header : Word
  words : List Word
  data : List Byte
  fwFault : Option Word
deriving DecidableEq, Repr

/-- An event offered to the scheduler (R322, R324, R327). -/
structure EventIn where
  /-- Class code 0 to 4. -/
  cls : Fin 5
  domain : Fin 4096
  /-- SOURCE of the trace item: 0 radio to 9 update (R332). -/
  source : Fin 10
deriving DecidableEq, Repr

/-- What a 1 ms tick brings from the domains (R319, R334, R347): for each quad, and as number 4 the FLEET domain, the busy
percent and whether an event waited more than 50 µs; the lookup drops or lookup XOFF of the NET domain, and its lookups in
the last 100 ms; the energy spent in the present window, mJ. -/
structure TickIn where
  busy : List Nat := []
  waited : List Bool := []
  netHeld : Bool := false
  lookups : Nat := 0
  spent : Nat := 0
deriving DecidableEq, Repr

/-- What a 1 s budget window brings (R343, R349, R457). -/
structure WindowIn where
  /-- Energy of each domain, mJ, in the order of GEN_RATEn. -/
  energy : List Nat
  /-- Die sensors 0 to 15, °C. -/
  temps : List Int
  /-- Core time of each class in the window, in 10 core-ms (SCH_STATUS). -/
  coreTime : List Nat
deriving DecidableEq, Repr

/-- A CAN frame received on a port (R371). -/
structure CanFrame where
  id : Nat
  ide : Bool
  rtr : Bool
  fd : Bool
  brs : Bool
  esi : Bool
  dlc : Nat
  data : List Byte
  /-- The ISOBUS message that this frame completes, alone or as the last of a transport session of ISO 11783-3 (R373): source,
  destination, PGN, priority and data. -/
  isb : Option (Nat × Nat × Nat × Nat × List Byte) := none
deriving DecidableEq, Repr

/-- What the ROM and the supervisor find in a bank (R466, R476): the checks of its header and components, and the image.
(DEDUCED: log entry 126.) -/
structure BankIn where
  headerOk : Bool := true
  componentsOk : Bool := true
  version : Word := 0
  sfn : Nat := 0
  /-- Bytes of the image and its hash. -/
  len : Nat := 0
  hash : List Byte := []
deriving DecidableEq, Repr

/-- What a boot brings from outside (R461). -/
structure BootIn where
  fuseOk : Bool := true
  /-- Bit n: start-up test n of R433 failed. -/
  failedTests : BitVec 16 := 0
  /-- Tamper sources that read set (R436). -/
  tamperLive : BitVec 12 := 0
  /-- Backup RAM kept its contents (R229, R443). -/
  backupValid : Bool := true
  bankA : BankIn := {}
  bankB : BankIn := {}
  /-- The CRC-32C of the binding record verifies (R385). -/
  bindingCrcOk : Bool := true
deriving DecidableEq, Repr

/-- A record offered to the recorder (R442). -/
structure RecIn where
  code : BitVec 16
  slot : Byte := 0xFF
  payload : List Byte := []
deriving DecidableEq, Repr

/-- How a flush ended (R449, R452). -/
inductive FlushEnd where
  | ok | program | readback | timeout
deriving DecidableEq, Repr

/-- How an SMBus transfer ended (R375). -/
inductive SmbEnd where
  | ok (read : List Byte) | nack | timeout | pec
deriving DecidableEq, Repr

/-- Outcome of the final checks of an update session (R471). -/
structure CommitIn where
  /-- The DATA_LEN bytes match DATA_HASH. -/
  dataHashOk : Bool
  /-- The output is TO_LEN bytes whose hash equals TO_HASH. -/
  toHashOk : Bool
  /-- The result verifies as a bank under R466. -/
  bankOk : Bool
deriving DecidableEq, Repr

end Sys2Proof
end

