-- ==== Sys2Proof/Syntax.lean ====
section
/-! DEFINITION. The steps of the device: one constructor for each row of the table of operations and events. A
catalogue command carries the arriving command; every other step carries what its event brings. -/
namespace Sys2Proof

/-- A step of the device: a command, a register access, a fired compare unit or timer, or an event from outside. -/
inductive Instr where
    /-- NOP (R395). A doorbell-only message that the receiver acknowledges with SUCCESS and otherwise ignores. -/
  | nop (c : Cmd)
    /-- GEN_INFO (R407). Returns part, stepping, boot bank state, running version, SFN and DEVICE_ID. -/
  | genInfo (c : Cmd)
    /-- ASYNC_DONE (R395). When an operation accepted with ACCEPTED_ASYNC finishes, SUP or SEC posts one ASYNC_DONE
  carrying the original tag, code and response words. -/
  | asyncDone
    /-- TXN_BEGIN (R40). Opens a transaction on the arrival port, or fails with TXN_OPEN when one is already open;
  also ends the EXPIRED state. -/
  | txnBegin (c : Cmd)
    /-- TXN_COMMIT (R415). Runs the lock test, the own checks and the Orchard checks in order and, if all pass,
  schedules the transaction for a target epoch and locks its fields. -/
  | txnCommit (c : Cmd)
    /-- TXN_ROLLBACK (R44). Discards every staged change of the port's open transaction. -/
  | txnRollback (c : Cmd)
    /-- TXN_STATUS (R40). Reports the state, count, target, age and ID of the transaction on a named port. -/
  | txnStatus (c : Cmd)
    /-- TXN_EXPIRY (R44). A transaction still open 10 s after its TXN_BEGIN is rolled back and recorded, and its
  port becomes EXPIRED. -/
  | txnExpiry (port : Fin 5)
    /-- TXN_RECHECK (R48). At 2.0 ms before a boundary, committed transactions for that epoch are checked again
  against stop-inside-reservation, and those that fail are aborted. -/
  | txnRecheck
    /-- BEACON_FREEZE (R25). At 1.0 ms before a boundary, Bugle samples its conditions and the beacon content of the
  coming epoch is frozen. -/
  | beaconFreeze
    /-- EPOCH_CUTOFF (R39). At 250 µs before a boundary, EPOCH-class writes received after this point are deferred
  to the following boundary. -/
  | epochCutoff
    /-- EPOCH_BOUNDARY (R25). CMP0 fires at the epoch start: GEN_EPOCH increments and shadowed fields and surviving
  transactions apply as one snapshot. -/
  | epochBoundary (mon : List LaneMon)
    /-- SLOT_START (R256). CMP2 fires at each radio slot boundary: any due stop burst is strobed, and slot
  bookkeeping runs. -/
  | slotStart
    /-- STOP_WINDOW_END (R256). CMP3 fires 200 µs after the slot start, and the slot's frame is strobed. -/
  | stopWindowEnd
    /-- PROFILE_TICK (R205). CMP4 fires every 1 ms, and each profile channel advances its commanded speed,
  acceleration and position. -/
  | profileTick (u : TickIn)
    /-- MEASUREMENT_INSTANT (R102). CMP5 fires at a measurement instant, and measurements for that instant are
  taken. -/
  | measurementInstant
    /-- ADC_SEQUENCE (R377). CMP6 starts a conversion sequence, which yields one block for the ADC queue. -/
  | adcSequence (codes : List (Fin 4096))
    /-- PPS_OUT_PULSE (R66). A PPS output drives its pulse at each TAI second plus its offset. -/
  | ppsOutPulse (n : Fin 2)
    /-- LAUNCH_GATE_FIRE (R57). An armed launch gate or radio TX-on gate reaches its instant and drives its edge. -/
  | launchGateFire (g : GateId)
    /-- PARTNER_WAKE_WINDOW (R279). CMP17–CMP24 open a sleeping partner's wake window, and the base listens for its
  POLL. -/
  | partnerWakeWindow (p : Fin 8) (i : Fin 64)
    /-- PARTNER_MISS (R281). A wake window ends without a POLL: the guard doubles, and after 4 consecutive misses
  the partner becomes LOST. -/
  | partnerMiss (p : Fin 8) (i : Fin 64)
    /-- BUDGET_WINDOW (R343). CMP25 ends a 1 s Bellows window: energy, budget, heat cap and throttle level are
  updated. -/
  | budgetWindow (w : WindowIn)
    /-- CRIT_GRACE_EXPIRY (R348). Once CRITICAL has held for CRIT_GRACE_S, Bellows clears the fleet-enable latch in
  each window. -/
  | critGraceExpiry
    /-- SMBUS_READ_DONE (R345). A Bellows SMBus read of the charger or battery completes, or fails on NACK or
  timeout. -/
  | smbusReadDone (battery : Bool) (word : Option (BitVec 16))
    /-- REC_FLUSH_TIMER (R449). CMP26 fires every 10 minutes, starting a flush and any STORE_FAIL retry. -/
  | recFlushTimer
    /-- FIRMWARE_TIMER (R64). One of the supervisor compare units CMP27–CMP31 fires. -/
  | firmwareTimer (n : Fin 5)
    /-- TBS_EN (R498). Writing TBS_CTRL.EN starts the timebase from the held time, handled as a large step. -/
  | tbsEn (m : Master) (v : Word)
    /-- TBS_REFSEL (R52). A TBS_CTRL write that changes REFSEL while EN = 0 selects the REFCLK frequency and loads
  the nominal increment. -/
  | tbsRefsel (m : Master) (v : Word)
    /-- TBS_STEER (R53). A TBS_CTRL write of STEER names the steering agent, taking effect at a boundary or, with EN
  = 0, at once. -/
  | tbsSteer (m : Master) (v : Word)
    /-- TBS_INCR_WRITE (R52). The steering agent writes the per-period increment, which the device refuses when it
  lies more than 200 ppm from nominal. -/
  | tbsIncrWrite (m : Master) (v : BitVec 64)
    /-- TBS_ADJ_WRITE (R55). A write of the high word of TBS_ADJ requests a time step, subject to the GO_ACTIVE and
  backward limits. -/
  | tbsAdjWrite (m : Master) (v : BitVec 64)
    /-- TBS_SYNC_WRITE (R62). The steering agent reports its uncertainty and restarts the holdover timer. -/
  | tbsSyncWrite (m : Master) (v : Word)
    /-- HOLDOVER_ENTRY (R62). HOLDOVER is set when 1.5 s pass without a TBS_SYNC write. -/
  | holdoverEntry
    /-- TIME_VALID_LOSS (R62). TIME_VALID clears when the growing error bound exceeds LIMIT_US. -/
  | timeValidLoss
    /-- TBS_TIME_READ (R54). A read of TBS_TIME word 0 latches all four words from one instant. -/
  | tbsTimeRead (m : Master) (w : Fin 5)
    /-- TBS_PPSI_READ (R54). A read of TBS_PPSIn word 0 latches the edge record for the same master. -/
  | tbsPpsiRead (m : Master) (n : Fin 2) (w : Fin 5)
    /-- GEN_EPOCH_READ (R24). A 32-bit read of the low word of GEN_EPOCH latches the high word for the same master.
  -/
  | genEpochRead (m : Master) (w : Fin 3)
    /-- PPS_IN_EDGE (R67). A rising edge on a PPS input is timestamped and counted. -/
  | ppsInEdge (n : Fin 2) (dt : Nat)
    /-- PPS_MISSING (R67). MISSING is set when 1.1 s pass without an edge on a PPS input. -/
  | ppsMissing (n : Fin 2)
    /-- CAP_EDGE (R71). A qualified edge on a capture input enqueues a timestamp item, or a GAP marker when full,
  and may wake the device. -/
  | capEdge (n : Fin 16) (falling : Bool) (dt : Nat)
    /-- CAP_DATA_READ (R71). A read of CAP_DATA word 0 dequeues the capture item and latches it. -/
  | capDataRead (m : Master) (n : Fin 16) (w : Fin 5)
    /-- LG_ARM (R68). Writing ARM arms a launch gate, with late-start handling and configuration checks. -/
  | lgArm (m : Master) (n : Fin 16) (v : Word)
    /-- LG_DISARM (R69). Writing DISARM disarms a launch gate and ends any pulse at once. -/
  | lgDisarm (m : Master) (n : Fin 16) (v : Word)
    /-- REFCLK_LOSS (R63). Loss of REFCLK moves the timebase to XO32K and is a safety-island fault. -/
  | refclkLoss
    /-- OSC_CHECK (R15). Every 1 ms the safety island compares its oscillator with REFCLK, and a deviation above 5 %
  stops the fleet. -/
  | oscCheck (devPpm : Nat)
    /-- ISLAND_FAULT (R244). A lockstep or island fault drives STOP_OUT low within 10 µs and stops the fleet with
  cause ISLAND. -/
  | islandFault
    /-- RATE_MONITOR_WINDOW (R18). Each 1 ms window, a domain's rate monitor updates RATIO and MINRATIO. -/
  | rateMonitorWindow (d : Fin 12) (ratio : BitVec 16)
    /-- GEN_RATEMIN_RESTART (R18). Writing RESTART sets MINRATIO to 0xFFFF. -/
  | genRateminRestart (m : Master) (d : Fin 12) (v : Word)
    /-- SCRUB_PASS (R12). The patrol scrubber reads and corrects SRAM words and counts single-bit errors. -/
  | scrubPass (region : Fin 10) (errors : Nat)
    /-- MEMORY_UE (R13). A double-bit error sets UE, is recorded, and either stops the fleet or restarts the owning
  service. -/
  | memoryUe (region : Fin 10) (offset : Word)
    /-- LEDGER_CHECK (R31). At least every 50 µs the ledger checks every pool against its total. -/
  | ledgerCheck (found : Vector Nat 8)
    /-- QWM_WRITE (R38). A watermark write is applied, or refused with WM_ERR when HI = 0, HI > D or LO ≥ HI. -/
  | qwmWrite (m : Master) (q : QId) (v : Word)
    /-- QCTL_DROP_PACKET (R36). Discards queue items up to and including the next end-of-packet item. -/
  | qctlDropPacket (m : Master) (q : QId)
    /-- QCTL_CLR_COUNT (R37). Sets CROSSINGS and QDROP to 0. -/
  | qctlClrCount (m : Master) (q : QId)
    /-- REGISTER_WRITE (R497). A write to a register that has no row of its own applies its fields by class, or is
  ignored with CFG_REJECT on a reserved or out-of-range value. -/
  | registerWrite (m : Master) (off : BitVec 20) (v : Word)
    /-- SAMPLE_BLOCK (R81). A 64-sample block from a lane enters the lane's FIFO, or is dropped and counted in a GAP
  marker. -/
  | sampleBlock (lane : Fin 8)
    /-- SURGE_HOLD_END (R95). After every FIFO has stayed at LO or below for 100 ms, the governor releases the 0.88
  V hold. -/
  | surgeHoldEnd
    /-- COHERENT_LATCH (R79). Every DEN REFCLK periods a coherent lane's sample count is latched and checked. -/
  | coherentLatch (lane : Fin 8) (growth : Nat)
    /-- LANE_CLOCK_LOST (R109). 10 µs without a sample clock edge sets CLK_LOST and puts the lane's channels into
  COAST. -/
  | laneClockLost (lane : Fin 8)
    /-- LANE_CLOCK_RETURN (R109). Returning clock edges re-align the lane and clear CLK_LOST. -/
  | laneClockReturn (lane : Fin 8)
    /-- COAST_LIMIT (R82). A channel whose coasting exceeds 1 s in total goes to ACQ in warm mode. -/
  | coastLimit (ch : Fin 1536)
    /-- CORRELATOR_DUMP (R85). At the end of an integration period a channel dumps its correlation sums to the
  tracking firmware. -/
  | correlatorDump (ch : Fin 1536)
    /-- ACQ_COMPLETE (R90). An acquisition search finishes, with or without a detection. -/
  | acqComplete (found : Bool) (cn0 : Nat) (dop : Int)
    /-- ACQ_RETRY (R91). A channel that found no signal repeats its search after 1 s. -/
  | acqRetry (ch : Fin 1536)
    /-- MEAS_BLOCK_READY (R108). The measurement block for an instant becomes ready and goes to a pending read and
  to the reference engine. -/
  | measBlockReady (b : MeasIn)
    /-- READ_TIMEOUT (R108). A per-instant read still pending 1 s after submission completes with NO_MEAS. -/
  | readTimeout (k : ReadKind)
    /-- SURVEY_TIMEOUT (R113). MAX_S passes, and the survey ends HELD or NONE with SURVEY_FAIL. -/
  | surveyTimeout
    /-- NTRIP_REQUEST (R138). An HTTP request to the NTRIP caster is answered with the sourcetable, a stream or an
  error status. -/
  | ntripRequest (r : NtripReq)
    /-- GNS_LANE_CFG (R77). Configures a sample lane's format, rate and frequencies. -/
  | gnsLaneCfg (c : Cmd)
    /-- GNS_LANE_EN (R89). Enables or disables a lane from the next tick. -/
  | gnsLaneEn (c : Cmd)
    /-- GNS_MON_CFG (R98). Sets a lane's monitor band, blanking and narrowband threshold. -/
  | gnsMonCfg (c : Cmd)
    /-- GNS_MEAS_CFG (R102). Sets the measurement rate. -/
  | gnsMeasCfg (c : Cmd)
    /-- GNS_CHAN_ALLOC (R87). Allocates a pinned correlator channel, freeing a lower-priority automatic one if
  needed. -/
  | gnsChanAlloc (c : Cmd)
    /-- GNS_CHAN_FREE (R88). Frees a correlator channel. -/
  | gnsChanFree (c : Cmd)
    /-- GNS_PLAN (R86). Sets a lane's automatic signal plan. -/
  | gnsPlan (c : Cmd)
    /-- GNS_ACQ (R90). Queues an acquisition request for a channel. -/
  | gnsAcq (c : Cmd)
    /-- GNS_LANE_STATUS (R111). Returns a lane's status and counters, clearing latched flags. -/
  | gnsLaneStatus (c : Cmd)
    /-- GNS_CHAN_STATUS (R111). Returns a channel's state and tracking values. -/
  | gnsChanStatus (c : Cmd)
    /-- GNS_MEAS_READ (R108). Posts a read for the next measurement block. -/
  | gnsMeasRead (c : Cmd)
    /-- REF_ARP_SURVEY (R113). Starts a self-survey of the antenna reference point. -/
  | refArpSurvey (c : Cmd)
    /-- REF_ARP_SET (R113). Enters the ARP and an optional baseline from an external survey. -/
  | refArpSet (c : Cmd)
    /-- REF_ANT_CFG (R122). Sets the antenna height, phase-centre offsets, descriptors and biases. -/
  | refAntCfg (c : Cmd)
    /-- REF_STEER_CFG (R116). Sets the steering time constant. -/
  | refSteerCfg (c : Cmd)
    /-- REF_OUT_CFG (R122). Binds a correction output and sets its station ID and constellations. -/
  | refOutCfg (c : Cmd)
    /-- REF_SCHED_SET (R124). Sets or clears an RTCM schedule entry. -/
  | refSchedSet (c : Cmd)
    /-- REF_ZFL_CFG (R135). Configures the ZFL compact correction sets. -/
  | refZflCfg (c : Cmd)
    /-- REF_NTRIP_CFG (R138). Configures the NTRIP caster and a mountpoint. -/
  | refNtripCfg (c : Cmd)
    /-- REF_NTRIP_USER (R138). Adds, replaces or removes a mountpoint user. -/
  | refNtripUser (c : Cmd)
    /-- REF_INTEG_CFG (R118). Sets the integrity tolerances and masks. -/
  | refIntegCfg (c : Cmd)
    /-- REF_STATUS (R140). Returns ARP, integrity, steering and output status. -/
  | refStatus (c : Cmd)
    /-- REF_CORR_READ (R128). Posts a read for the next epoch's RTCM frames. -/
  | refCorrRead (c : Cmd)
    /-- FRAME_RECEIVE (R260). A radio frame is read from a transceiver and checked in order before its containers
  are acted on. -/
  | frameReceive (p : Fin 8) (f : RxFrame)
    /-- BASE_ACK_TIMEOUT (R266). No acknowledgement arrives for a base frame by its deadline, and the frame may be
  sent again once. -/
  | baseAckTimeout (p : Fin 8)
    /-- DOWNLINK_PLAN (R270). By 62.0 ms into the epoch, each port's downlink of bundles and containers is planned.
  -/
  | downlinkPlan
    /-- FOLLOWER_BEACON (R283). A follower receives a primary beacon and steers its timebase to it. -/
  | followerBeacon (b : BeaconIn)
    /-- FOLLOWER_HOLDOVER (R284). Three epochs without a beacon put the follower in HOLDOVER and may promote a
  standby. -/
  | followerHoldover
    /-- RAD_GLOBAL_CFG (R290). Sets the PAN ID. -/
  | radGlobalCfg (c : Cmd)
    /-- RAD_PORT_CFG (R255). Sets a port's PHY profile, latencies, downlink slots and channel. -/
  | radPortCfg (c : Cmd)
    /-- RAD_SCRIPT_LOAD (R252). Loads a transceiver script for a port. -/
  | radScriptLoad (c : Cmd)
    /-- RAD_PORT_EN (R290). Enables or disables a port at the boundary, running its scripts. -/
  | radPortEn (c : Cmd)
    /-- RAD_SLOT_CFG (R273). Binds or unbinds a machine slot with its key generation and address. -/
  | radSlotCfg (c : Cmd)
    /-- RAD_DEREGISTER (R273). Returns a slot to BOUND at the boundary. -/
  | radDeregister (c : Cmd)
    /-- RAD_PARTNER_CFG (R278). Configures or removes a sleeping partner. -/
  | radPartnerCfg (c : Cmd)
    /-- RAD_ROLE_CFG (R283). Sets primary, follower or standby role. -/
  | radRoleCfg (c : Cmd)
    /-- RAD_APP_SEND (R289). Queues an APP container for a slot or partner. -/
  | radAppSend (c : Cmd)
    /-- RAD_RAW_SEL (R288). Selects which received frames are copied to the raw queue. -/
  | radRawSel (c : Cmd)
    /-- RAD_STATUS (R290). Returns a port's status and counters. -/
  | radStatus (c : Cmd)
    /-- RAD_SLOT_STATUS (R290). Returns a slot's registration state and counters. -/
  | radSlotStatus (c : Cmd)
    /-- RAD_PARTNER_STATUS (R290). Returns a partner's state, guard and drift. -/
  | radPartnerStatus (c : Cmd)
    /-- RXQ_DATA_READ (R288). A read of RXQ_DATA word 0 dequeues a raw receive item. -/
  | rxqDataRead (m : Master) (p : Fin 8) (w : Fin 9)
    /-- TXTS_DATA_READ (R288). A read of TXTS_DATA word 0 dequeues a transmit timestamp item. -/
  | txtsDataRead (m : Master) (p : Fin 8) (w : Fin 9)
    /-- FILTER_UPDATE (R148). Once the uplink and the reference block are both available, a CENTRAL slot's float
  filter is updated and its search submitted. -/
  | filterUpdate (slot : Fin 192) (f : FilterIn)
    /-- REF_WAIT_TIMEOUT (R151). The reference block is not ready 25 ms after the instant, so fixes get NO_REF. -/
  | refWaitTimeout
    /-- BRAMBLE_SEARCH_DONE (R153). A Bramble search ends COMPLETE or CAPPED, and the fix is validated and queued.
  -/
  | brambleSearchDone (r : SearchIn)
    /-- FIX_CFG (R143). Sets a slot's positioning mode and thresholds. -/
  | fixCfg (c : Cmd)
    /-- FIX_GLOBAL_CFG (R154). Sets the node cap, success-rate exponent and protection factors. -/
  | fixGlobalCfg (c : Cmd)
    /-- FIX_RESET (R164). Discards a slot's filter and held integers. -/
  | fixReset (c : Cmd)
    /-- FIX_STATUS (R164). Returns a slot's mode, status and counts. -/
  | fixStatus (c : Cmd)
    /-- FIX_READ (R163). Posts a read for the next fix block. -/
  | fixRead (c : Cmd)
    /-- BRM_STATUS (R164). Returns Bramble search statistics. -/
  | brmStatus (c : Cmd)
    /-- ORC_GRID_CFG (R166). Configures the Orchard tile grid while the store is empty. -/
  | orcGridCfg (c : Cmd)
    /-- ORC_GLOBAL_CFG (R171). Sets the time guard and the people-zone minimum margin. -/
  | orcGlobalCfg (c : Cmd)
    /-- ORC_SLOT_CFG (R196). Sets a slot's depot admission, footprint, speed and reaction time. -/
  | orcSlotCfg (c : Cmd)
    /-- ORC_ZONE_CFG (R172). Sets a static zone's type. -/
  | orcZoneCfg (c : Cmd)
    /-- ORC_REQUEST (R173). Requests a space-time corridor, which is granted whole or refused. -/
  | orcRequest (c : Cmd)
    /-- ORC_RELEASE (R182). Releases one or all grants of a holder. -/
  | orcRelease (c : Cmd)
    /-- ORC_RELEASE_FROZEN (R191). Releases a frozen holder's grants and disc, granting a standing reservation if
  possible. -/
  | orcReleaseFrozen (c : Cmd)
    /-- ORC_TILE_READ (R195). Copies one tile's intervals to a host buffer. -/
  | orcTileRead (c : Cmd)
    /-- ORC_STATUS (R195). Returns Orchard health and counts. -/
  | orcStatus (c : Cmd)
    /-- SLIM_RECOMPUTE (R207). At least every 10 ms unit, Orchard recomputes each channel's S_LIM. -/
  | slimRecompute
    /-- ORCHARD_AUDIT (R193). The audit sweep checks occupied tiles and faults on a conflict. -/
  | orchardAudit
    /-- ORCHARD_OP_OVERRUN (R193). An operation in progress for more than 20 ms makes Orchard unhealthy. -/
  | orchardOpOverrun
    /-- PRF_CHAN_CFG (R199). Configures a stopped profile channel. -/
  | prfChanCfg (c : Cmd)
    /-- PRF_LAG_CFG (R220). Sets a channel's lag thresholds. -/
  | prfLagCfg (c : Cmd)
    /-- PRF_SEG_PUSH (R201). Appends a segment to a channel's queue. -/
  | prfSegPush (c : Cmd)
    /-- PRF_FLUSH (R208). Empties a channel's queue from the next tick. -/
  | prfFlush (c : Cmd)
    /-- PRF_RETARGET (R214). Gives the head segment a new end station and drops the segments after it. -/
  | prfRetarget (c : Cmd)
    /-- PRF_DECEL (R212). Requests a new deceleration, applied at once if harsher or waiting if gentler. -/
  | prfDecel (c : Cmd)
    /-- PRF_CLEAR (R222). Clears a latched LAG on a slot that is not moving. -/
  | prfClear (c : Cmd)
    /-- PRF_STATUS (R225). Returns a channel's state and clears DECEL_CLAMPED. -/
  | prfStatus (c : Cmd)
    /-- TRK_LOAD (R418). Loads a track image into the library. -/
  | trkLoad (c : Cmd)
    /-- TRK_DELETE (R418). Deletes a track not named by any queued segment. -/
  | trkDelete (c : Cmd)
    /-- TRK_INFO (R418). Returns a track's length, points, spacing and use count. -/
  | trkInfo (c : Cmd)
    /-- BGL_STOP (R234). Raises a fleet or slot stop, revealing a new stop element if the stopped set grows. -/
  | bglStop (c : Cmd)
    /-- BGL_RELEASE (R246). Releases named stops whose release rules are met. -/
  | bglRelease (c : Cmd)
    /-- BGL_ENABLE (R247). Sets the fleet-enable latch when no fleet stop is in force. -/
  | bglEnable (c : Cmd)
    /-- BGL_DISABLE (R251). Clears the fleet-enable latch without a stop. -/
  | bglDisable (c : Cmd)
    /-- BGL_ANCHOR_READ (R251). Writes a chain anchor record to a host buffer. -/
  | bglAnchorRead (c : Cmd)
    /-- HEARTBEAT (R238). The supervisor's heartbeat naming the epoch being frozen reaches the safety island. -/
  | heartbeat (epoch : Word)
    /-- BURST_CONFIRM (R236). A transceiver's transmit-done interrupt confirms a stop burst. -/
  | burstConfirm (p : Fin 8)
    /-- BURST_CONFIRM_TIMEOUT (R236). A burst confirmation missing 1 ms after B is counted, and may make the port
  BURST_FAULT. -/
  | burstConfirmTimeout (p : Fin 8)
    /-- CHAIN_BUILT (R227). The chain generator finishes a go or stop chain and hands its pebbles to the safety
  island. -/
  | chainBuilt (go : Bool)
    /-- GO_GEN_BUILD_START (R237). Seven days before a go generation ends, the next generation is built and
  published. -/
  | goGenBuildStart
    /-- MARK_FLUSH (R229). The Bugle high-water marks are written to flash within 1 s of a reveal. -/
  | markFlush
    /-- ESTOP_STOP (R242). A channel that reads STOP for 64 consecutive samples latches a fleet stop with cause
  ESTOP. -/
  | estopStop (ch : Fin 2)
    /-- ESTOP_RUN (R242). A channel reads RUN after 1 ms of consecutive RUN samples. -/
  | estopRun (ch : Fin 2)
    /-- ESTOP_DISCREPANCY (R242). Channels that disagree for more than 1 ms latch DISCREPANCY. -/
  | estopDiscrepancy
    /-- PIN_CYCLE_DUE (R243). 168 h without a full ESTOP cycle sets PIN_CYCLE_DUE, and a record follows each day. -/
  | pinCycleDue
    /-- ETH_FRAME_RECEIVE (R294). An Ethernet frame is classified, looked up, queued and admitted, or dropped with a
  counted reason. -/
  | ethFrameReceive (p : Fin 8) (f : EthFrame)
    /-- MGMT_FRAME (R411). A management frame carrying a command is decoded and executed at its path's authority. -/
  | mgmtFrame (f : MgmtIn)
    /-- LEARN_NOTICE (R300). On the PQ9096, firmware takes a learn notice from its queue and inserts the entry. -/
  | learnNotice
    /-- LEARN_DEFER_TIMEOUT (R302). A learn or command insertion held back 1 ms by a full carry list is dropped or
  fails. -/
  | learnDeferTimeout
    /-- L2_AGE_TICK (R301). AGE counts advance, and aged dynamic entries are removed. -/
  | l2AgeTick
    /-- WALK_IDLE_CLOSE (R304). A table walk idle for 10 s closes. -/
  | walkIdleClose (h : Fin 4)
    /-- DIGEST_SWEEP (R309). The background sweep rereads table blocks and compares their digests. -/
  | digestSweep (tcam : Bool) (block : Fin 1024) (found : Word)
    /-- LINK_DOWN (R305). An Ethernet link goes down, queued frames are dropped, and its entries are flushed if
  AUTO_FLUSH is set. -/
  | linkDown (p : Fin 8)
    /-- AUTO_FALLBACK (R292). With no 10GBASE-R block lock 500 ms after signal detect, the port falls back to
  1000BASE-X. -/
  | autoFallback (p : Fin 2)
    /-- XOFF_REFRESH (R314). A standing XOFF is refreshed every half quanta period. -/
  | xoffRefresh (p : Fin 8) (prio : Fin 8)
    /-- FLUSH_DONE (R305). A flush by port completes and reports the entries removed. -/
  | flushDone
    /-- SW_PORT_CFG (R292). Configures a disabled Ethernet port. -/
  | swPortCfg (c : Cmd)
    /-- SW_PORT_EN (R321). Enables or disables an Ethernet port. -/
  | swPortEn (c : Cmd)
    /-- SW_GLOBAL_CFG (R301). Sets the management VID and the aging time. -/
  | swGlobalCfg (c : Cmd)
    /-- SW_VLAN_CFG (R294). Configures a VLAN's membership, learning and untagging. -/
  | swVlanCfg (c : Cmd)
    /-- SW_QOS_CFG (R311). Sets priority maps, weights, limits and flow-control thresholds. -/
  | swQosCfg (c : Cmd)
    /-- SW_L2_ADD (R301). Adds or overwrites a static L2 entry. -/
  | swL2Add (c : Cmd)
    /-- SW_L2_DEL (R299). Deletes an L2 entry. -/
  | swL2Del (c : Cmd)
    /-- SW_L2_SEARCH (R302). Opens a table walk with a filter. -/
  | swL2Search (c : Cmd)
    /-- SW_L2_NEXT (R303). Returns the next matching entries of a walk. -/
  | swL2Next (c : Cmd)
    /-- SW_FLUSH_BY_PORT (R305). Starts removing a port's dynamic entries, and optionally its static bits. -/
  | swFlushByPort (c : Cmd)
    /-- SW_RIF_CFG (R306). Configures a router interface. -/
  | swRifCfg (c : Cmd)
    /-- SW_NH_SET (R306). Sets a next hop. -/
  | swNhSet (c : Cmd)
    /-- SW_ROUTE_ADD (R307). Inserts or replaces an IPv4 route in the TCAM. -/
  | swRouteAdd (c : Cmd)
    /-- SW_ROUTE_DEL (R307). Deletes an IPv4 route. -/
  | swRouteDel (c : Cmd)
    /-- SW_MACSEC_SA (R315). Installs or removes a MACsec SA keyed from a vault slot. -/
  | swMacsecSa (c : Cmd)
    /-- SW_DIGEST_READ (R310). Copies block digests and change counts. -/
  | swDigestRead (c : Cmd)
    /-- SW_BLOCK_READ (R310). Copies one table block with its digest. -/
  | swBlockRead (c : Cmd)
    /-- SW_STATUS (R321). Returns port status and drop counters. -/
  | swStatus (c : Cmd)
    /-- EVENT_ADMIT (R326). An event takes a pool-4 entry and waits in its ordering domain. -/
  | eventAdmit (e : EventIn)
    /-- EVENT_COMPLETE (R325). An event finishes on its core and frees its entry and the core. -/
  | eventComplete (entry : Fin 1024) (restarted : Bool)
    /-- AFFINITY_WAIT_EXPIRY (R329). An event's affinity wait expires, and it migrates to the lowest free core. -/
  | affinityWaitExpiry (entry : Fin 1024)
    /-- TRC_DATA_READ (R332). A read of TRC_DATA word 0 dequeues a trace item. -/
  | trcDataRead (m : Master) (w : Fin 5)
    /-- PWR_CFG (R344). Sets the energy source, caps, SoC thresholds and night options. -/
  | pwrCfg (c : Cmd)
    /-- PWR_SET (R336). Schedules a change to RUN, DOZE or NIGHT. -/
  | pwrSet (c : Cmd)
    /-- PWR_WAKE_CFG (R340). Selects the CAP and GPIO wake sources. -/
  | pwrWakeCfg (c : Cmd)
    /-- SCH_CLASS_CFG (R331). Sets a class's core mask, affinity wait and quota. -/
  | schClassCfg (c : Cmd)
    /-- SCH_STATUS (R353). Returns scheduler pool use and timing, clearing latched peaks. -/
  | schStatus (c : Cmd)
    /-- PWR_STATUS (R353). Returns a page of Bellows status and state times. -/
  | pwrStatus (c : Cmd)
    /-- NIGHT_CALIBRATE (R337). One second before NIGHT, TBS_INCR32 is calibrated against REFCLK. -/
  | nightCalibrate (incr32 : BitVec 47)
    /-- NIGHT_WAKE_PREPARE (R337). REFCLK_WARM_MS + 2 ms before the wake boundary, GPIO31 is driven high. -/
  | nightWakePrepare
    /-- NIGHT_DOMAIN_RESTORE (R337). 2 ms before the wake boundary, SAFE, SUP, SEC and MEM are restored. -/
  | nightDomainRestore
    /-- NIGHT_REFCLK_CHECK (R337). 1 ms before the wake boundary, REFCLK is checked and the wake is postponed if it
  is absent. -/
  | nightRefclkCheck (edges : Bool)
    /-- PFW_ASSERT (R341). A qualified PFW_N assertion latches a COMMAND fleet stop, halts lower-class dispatch and
  starts the power-fail flush. -/
  | pfwAssert
    /-- PFW_DEASSERT (R341). PFW_N deasserts with supplies in range, and dispatch resumes. -/
  | pfwDeassert (inRange : Bool)
    /-- POWER_LOSS (R342). VDDC or VDDAON below 0.82 V for 20 µs switches AON to VBAT and enters BACKUP. -/
  | powerLoss
    /-- VBAT_LOW (R484). VBAT below 1.15 V outside BACKUP sets VBAT_LOW and writes a daily record. -/
  | vbatLow (mv : Nat)
    /-- THERMAL_TRIP (R350). Sensor 15 at Tj_max + 10 °C latches a trip, raises a stop and switches off the domains.
  -/
  | thermalTrip (t : Int)
    /-- THERMAL_RECOVER (R350). Sensor 15 falls below Tj_max − 10 °C, and the device performs a power-on reset. -/
  | thermalRecover (t : Int) (b : BootIn)
    /-- THERM_PEAK_READ (R349). A read of BLW_THERMk returns and clears T_PEAK. -/
  | thermPeakRead (m : Master) (k : Fin 16)
    /-- PF0_FUNCTION_RESET (R357). A Function Level Reset of PF0 empties its mailboxes, disables its rings and rolls
  back its open transaction. -/
  | pf0FunctionReset
    /-- PF1_FUNCTION_RESET (R358). A Function Level Reset of PF1 disables its NQ rings and takes port 6 down. -/
  | pf1FunctionReset
    /-- PCIE_LINK_LOSS (R357). A hot reset or link-down acts on both functions as a function reset does. -/
  | pcieLinkLoss
    /-- PERST (R460). PERST_N resets only the PCIe edge and acts as a link loss. -/
  | perst
    /-- MSIX_UNMASK (R360). Unmasking a vector with its PBA bit set sends the pending message. -/
  | msixUnmask (pf1 : Bool) (v : Fin 48)
    /-- NQ_TAIL_WRITE (R361). The host posts TX descriptors or RX buffers by advancing NQ_TAIL. -/
  | nqTailWrite (r : Fin 16) (v : Word)
    /-- NQ_ENABLE (R365). Setting EN starts a PF1 ring, or leaves it stopped with CFG_REJECT for an invalid size. -/
  | nqEnable (r : Fin 16) (v : Word)
    /-- NQ_DISABLE (R365). Clearing EN finishes the frame in progress, flushes the remaining descriptors and sets
  STOPPED. -/
  | nqDisable (r : Fin 16) (v : Word)
    /-- RX_FRAME_DELIVER (R365). A frame queued to HPF1 is written into posted RX buffers with write-backs. -/
  | rxFrameDeliver (q : Fin 8) (bufs : List (Nat × Nat))
    /-- TX_WRITEBACK (R363). A transmitted or admitted TX frame's descriptors are written back. -/
  | txWriteback (r : Fin 8) (bufLens : List Nat) (reservedBad : Bool) (f : EthFrame)
    /-- TX_TS_TIMEOUT (R364). A frame waiting 10 ms for its egress timestamp is written back with TS_TIMEOUT. -/
  | txTsTimeout (r : Fin 8)
    /-- ITR_EXPIRY (R361). A ring's interrupt moderation interval ends, and the held write-back is signalled. -/
  | itrExpiry (r : Fin 16)
    /-- DMA_ERROR (R366). A descriptor or buffer access that errors or times out stops its ring. -/
  | dmaError (r : DmaRing)
    /-- SPIH_WRITE (R367). An SPIH write transfer writes mailbox registers, or is refused. -/
  | spihWrite (addr : BitVec 24) (data : List Byte) (crc : Byte)
    /-- SPIH_READ (R368). An SPIH read transfer returns data, or zeros for a refused offset. -/
  | spihRead (addr : BitVec 24) (len : Fin 65)
    /-- SPIH_STATUS (R368). An SPIH status transfer returns the status byte and clears its error bits. -/
  | spihStatus
    /-- UART_FRAME (R369). A UART frame carrying a channel-12 message is received, or discarded on a bad CRC. -/
  | uartFrame (bytes : List Byte) (crc : BitVec 16)
    /-- UART_CFG (R369). Sets the UART baud rate. -/
  | uartCfg (c : Cmd)
    /-- CAN_FRAME_RECEIVE (R371). A CAN frame that passes a filter enters the port's receive queue. -/
  | canFrameReceive (p : Fin 4) (f : CanFrame)
    /-- CAN_TX_COMPLETE (R372). A queued CAN frame wins arbitration and is sent, completing its CAN_SEND. -/
  | canTxComplete (p : Fin 4) (retries : Nat)
    /-- CAN_BUS_OFF (R370). A CAN port enters bus-off and raises LBUS. -/
  | canBusOff (p : Fin 4)
    /-- CAN_BUS_OFF_RECOVERY (R370). After 128 occurrences of 11 recessive bits, the port recovers from bus-off. -/
  | canBusOffRecovery (p : Fin 4)
    /-- ISB_CLAIM_LOST (R373). A lost ISOBUS address claim moves to the next alternate, or to 254. -/
  | isbClaimLost (p : Fin 4)
    /-- CAN_PORT_CFG (R370). Configures or disables a CAN port. -/
  | canPortCfg (c : Cmd)
    /-- CAN_FILTER (R371). Sets an acceptance filter. -/
  | canFilter (c : Cmd)
    /-- CAN_SEND (R372). Queues a CAN frame for transmission. -/
  | canSend (c : Cmd)
    /-- CAN_READ (R371). Reads received CAN records. -/
  | canRead (c : Cmd)
    /-- ISB_CFG (R373). Sets a port to ISOBUS mode with its NAME and addresses. -/
  | isbCfg (c : Cmd)
    /-- ISB_SEND (R374). Sends an ISOBUS message, using transport if needed. -/
  | isbSend (c : Cmd)
    /-- ISB_READ (R374). Reads reassembled ISOBUS messages. -/
  | isbRead (c : Cmd)
    /-- SMB_XFER (R375). Performs an SMBus write, repeated start and read. -/
  | smbXfer (c : Cmd)
    /-- GPIO_CFG (R380). Configures GPIO direction, pull and edge. -/
  | gpioCfg (c : Cmd)
    /-- GPIO_WRITE (R380). Sets and clears GPIO pins in one step. -/
  | gpioWrite (c : Cmd)
    /-- GPIO_READ (R381). Returns the GPIO pin levels. -/
  | gpioRead (c : Cmd)
    /-- GPIO_EDGE (R380). A selected GPIO edge raises the GPIO interrupt and may wake the device. -/
  | gpioEdge (pin : Fin 32) (rising : Bool)
    /-- ADC_CFG (R377). Configures the ADC sequence, period and limits. -/
  | adcCfg (c : Cmd)
    /-- ADC_READ (R377). Reads ADC blocks. -/
  | adcRead (c : Cmd)
    /-- IF_STATUS (R381). Returns one interface's state and counts. -/
  | ifStatus (c : Cmd)
    /-- MBX_POST (R388). Writing OUT_MSG word 0 posts a mailbox message to the peer. -/
  | mbxPost (m : Master) (ch : Fin 32) (hdr : Word)
    /-- MBX_TAKE (R389). Writing TAKE takes the posted peer message. -/
  | mbxTake (m : Master) (ch : Fin 32) (data : List Byte) (fwFault : Option Word)
    /-- MBX_WAITING (R392). Writing WAITING marks the endpoint as waiting and may raise CROSSED. -/
  | mbxWaiting (m : Master) (ch : Fin 32) (on : Bool)
    /-- MBX_ACK (R390). Writing IN_ACK with DONE acknowledges the held message and returns its response. -/
  | mbxAck (m : Master) (ch : Fin 32) (v : Word)
    /-- MBX_FREE (R390). Clearing OUT_ACK.DONE frees the sender's slot. -/
  | mbxFree (m : Master) (ch : Fin 32)
    /-- MBX_RING (R391). Writing DB_OUT sets software doorbell bits in the peer's DB_IN. -/
  | mbxRing (m : Master) (ch : Fin 32) (v : Word)
    /-- MBX_ACK_TIMEOUT (R394). A message unacknowledged at its timeout is withdrawn, or is flagged TAKEN_LATE. -/
  | mbxAckTimeout (ch : Fin 32) (endB : Bool)
    /-- MBX_BIND_SET (R385). Stores a binding record that applies at the next reset. -/
  | mbxBindSet (c : Cmd)
    /-- CMD_PATH_STATUS (R406). Returns a channel's or ring's counts. -/
  | cmdPathStatus (c : Cmd)
    /-- CR_SQ_TAIL_WRITE (R399). The host posts commands by advancing SQ_TAIL. -/
  | crSqTailWrite (r : Fin 16) (v : Word)
    /-- CR_FETCH (R399). The device fetches the next SQ entry once tag and CQ room allow. -/
  | crFetch (r : Fin 16) (entry : List Word) (data : List Byte) (fwFault : Option Word)
    /-- CR_CQ_HEAD_WRITE (R399). The host consumes completions, freeing CQ room. -/
  | crCqHeadWrite (r : Fin 16) (v : Word)
    /-- CR_ENABLE (R398). Setting EN starts a command ring, or leaves it stopped for invalid sizes. -/
  | crEnable (r : Fin 16) (v : Word)
    /-- CR_DISABLE (R405). Clearing EN stops fetching, and STOPPED is set when the in-flight count reaches 0. -/
  | crDisable (r : Fin 16) (v : Word)
    /-- CMD_TIMEOUT (R403). A command without a completion within TMO_MS receives CMD_TIMEOUT. -/
  | cmdTimeout (r : Fin 16) (tag : BitVec 8)
    /-- COAL_EXPIRY (R401). A ring's completion coalescing interval ends, and its vector is sent. -/
  | coalExpiry (r : Fin 16)
    /-- KEY_GENERATE (R429). Generates a key in a user slot. -/
  | keyGenerate (c : Cmd)
    /-- KEY_IMPORT (R430). Imports a wrapped or plain public key blob. -/
  | keyImport (c : Cmd)
    /-- KEY_EXPORT (R430). Exports a key as a wrapped blob. -/
  | keyExport (c : Cmd)
    /-- KEY_DERIVE (R427). Derives a key by HKDF, ZFL or AGREE. -/
  | keyDerive (c : Cmd)
    /-- KEY_ZEROIZE (R435). Zeroizes one user slot or all of them. -/
  | keyZeroize (c : Cmd)
    /-- KEY_INFO (R429). Returns a slot's attributes and use data. -/
  | keyInfo (c : Cmd)
    /-- KEY_PUBLIC (R430). Writes a slot's public key. -/
  | keyPublic (c : Cmd)
    /-- LC_ADVANCE (R423). Zeroizes the vault and schedules a life-cycle advance for the next reset. -/
  | lcAdvance (c : Cmd)
    /-- LC_STATUS (R440). Returns the life-cycle status and draws a new debug challenge. -/
  | lcStatus (c : Cmd)
    /-- DBG_UNLOCK (R440). Verifies a debug token and switches to the test root with debug open. -/
  | dbgUnlock (c : Cmd)
    /-- SELFTEST_RUN (R434). Repeats the start-up self-tests. -/
  | selftestRun (c : Cmd)
    /-- TAMPER_CFG (R436). Sets the tamper sources for the next reset. -/
  | tamperCfg (c : Cmd)
    /-- TAMPER_STATUS (R436). Returns the latched, first and live tamper sources. -/
  | tamperStatus (c : Cmd)
    /-- TAMPER_LATCH (R436). A tamper source latches in AON and starts the tamper response. -/
  | tamperLatch (src : Fin 12)
    /-- ZEROIZE_PERSISTENT_DONE (R435). Zeroization of the persistent slot area on X0 completes after readback. -/
  | zeroizePersistentDone (ok : Bool)
    /-- RECORD_COMMIT (R447). A record enters the recorder, where it is committed with an RNUM or suppressed. -/
  | recordCommit (r : RecIn)
    /-- REC_BUCKET_REFILL (R446). A code's token bucket gains a token after its refill interval. -/
  | recBucketRefill (code : BitVec 16)
    /-- REC_FLUSH_DONE (R449). A flush finishes its readback and frees staging, or enters STORE_FAIL. -/
  | recFlushDone (e : FlushEnd)
    /-- STAGING_PAGE_FAIL (R453). A failing staging page is retired and NARROWED is set. -/
  | stagingPageFail (page : Fin 32)
    /-- REC_CFG (R446). Sets token buckets and TAI stamping. -/
  | recCfg (c : Cmd)
    /-- REC_HIST_CFG (R457). Configures or clears a histogram or extreme tracker. -/
  | recHistCfg (c : Cmd)
    /-- REC_HIST_READ (R457). Copies histogram or tracker entries. -/
  | recHistRead (c : Cmd)
    /-- REC_FLUSH (R449). Starts a flush. -/
  | recFlush (c : Cmd)
    /-- REC_CLEAR (R456). Returns a challenge and sets CLEAR_PENDING. -/
  | recClear (c : Cmd)
    /-- REC_CLEAR_CONFIRM (R456). Confirms a clear of the circulating area. -/
  | recClearConfirm (c : Cmd)
    /-- REC_CLEAR_EXPIRY (R456). A clear challenge not confirmed within 10 s is abandoned. -/
  | recClearExpiry
    /-- REC_CLEAR_DONE (R456). The clear re-commits retained records and commits CIRC_CLEARED. -/
  | recClearDone
    /-- REC_CURSOR_LOAD (R454). A write to REC_CURSOR loads up to 8 records into the window. -/
  | recCursorLoad (m : Master) (lo : Option Word) (hi : Option Word)
    /-- REC_CURSOR_NEXT (R455). A write with NEXT advances INDEX by COUNT and loads the window again. -/
  | recCursorNext (m : Master) (hi : Word)
    /-- UPD_BEGIN (R468). Checks an update header and opens a session. -/
  | updBegin (c : Cmd)
    /-- UPD_DATA (R470). Delivers update data at the expected offset. -/
  | updData (c : Cmd)
    /-- UPD_COMMIT (R471). Starts the final checks of an update session. -/
  | updCommit (c : Cmd)
    /-- UPD_COMMIT_DONE (R471). The commit checks finish, and the bank becomes PENDING or INVALID. -/
  | updCommitDone (r : CommitIn)
    /-- UPD_ABORT (R470). Closes an update session. -/
  | updAbort (c : Cmd)
    /-- UPD_CONFIRM (R475). Confirms the trial bank. -/
  | updConfirm (c : Cmd)
    /-- UPD_ROLLBACK (R477). Swaps to the other confirmed bank at the next reset. -/
  | updRollback (c : Cmd)
    /-- UPD_STATUS (R481). Returns the update lock and bank status. -/
  | updStatus (c : Cmd)
    /-- UPD_IDLE_TIMEOUT (R470). A session with no data for 120 s closes and releases the lock. -/
  | updIdleTimeout
    /-- BOOT_RESET (R460). Resets the device into a normal or recovery boot. -/
  | bootReset (c : Cmd)
    /-- TRIAL_EXPIRY (R476). When TRIAL_LEFT_S reaches 0, the safety island raises a COMMAND fleet stop. -/
  | trialExpiry
    /-- TRIAL_RESET (R476). Once no slot has moved for 1 s, or 30 s after the stop, AON resets with cause
  TRIAL_EXPIRED. -/
  | trialReset (b : BootIn)
    /-- WATCHDOG_KICK (R459). Supervisor firmware restarts the watchdog. -/
  | watchdogKick
    /-- WATCHDOG_EXPIRY (R459). The watchdog expires after 2 s and raises a COMMAND fleet stop. -/
  | watchdogExpiry
    /-- WATCHDOG_RESET (R458). 10 ms after the watchdog stop, the device resets with cause WATCHDOG. -/
  | watchdogReset (b : BootIn)
    /-- DEBUG_RESET (R458). A reset through the open debug port restarts the device. -/
  | debugReset (b : BootIn)
    /-- POWER_ON_RESET (R461). A power-on or RST_N reset runs the whole boot sequence. -/
  | powerOnReset (b : BootIn)
    /-- LINK_UP (R292). An Ethernet port's link comes up (block lock or SGMII auto-negotiation), and the port
  rejoins forwarding. -/
  | linkUp (p : Fin 8) (speed : Fin 4)
    /-- PCIE_LINK_UP (R354). The PCIe link finishes training, and MEM moves to 0.88 V with host access to the
  functions restored. -/
  | pcieLinkUp (gen : Fin 5) (width : Fin 5)
    /-- ETH_FRAME_TRANSMIT (R316). An egress port sends a queued frame, taking its egress timestamp, applying one-
  step or TC rewrites and MACsec PN counting. -/
  | ethFrameTransmit (p : Fin 8)
    /-- PAUSE_QUANTA_EXPIRY (R314). The quanta of a received PAUSE or PFC frame run out, and the stopped egress
  queues resume. -/
  | pauseQuantaExpiry (p : Fin 8) (prio : Fin 8)
    /-- SMB_XFER_DONE (R375). A host SMBus transfer finishes on the bus, or fails with NACK, timeout or PEC error,
  and SMB_XFER completes. -/
  | smbXferDone (master : Fin 2) (r : SmbEnd)
    /-- THERMAL_POWER_OFF (R350). 10 ms after a thermal trip, every domain except AON is switched off. -/
  | thermalPowerOff
    /-- REFCLK_RETURN (R63). REFCLK edges return after a loss while the device is not waking from NIGHT, and
  REFCLK_OK is set again. -/
  | refclkReturn
deriving DecidableEq, Repr

end Sys2Proof
end

