-- ==== Sys2Proof/Decode.lean ====
section
/-! DEFINITION. The table of operations and events gives no row any bits, so no word spells a step. -/
namespace Sys2Proof

/-- The step that a word spells by the table's bits: none, for no row gives bits. (DESIGN CHOICE: log entry 18.) -/
def decodeTableWord (_nbits _w : Nat) : Option Instr := none

end Sys2Proof
end

