-- ==== Sys2Proof/Config.lean ====
section
/-! DEFINITION. What the model cannot know of one device: its secrets, its random numbers, and the results of the
cryptographic algorithms that other standards define. Each is a constant without a body, so nothing can be proved of its
value (DESIGN CHOICE: log entries 6, 10, 22, 106, 109 and 132). -/
namespace Sys2Proof.Config

/-- The n-th 32-bit word the DRBG gives (15 R431). -/
opaque freeWord : Nat → BitVec 32

/-- SHA-256 (15 R431). -/
opaque sha256 : List Byte → BitVec 256

/-- SHA-384 (15 R431). -/
opaque sha384 : List Byte → BitVec 384

/-- AES-CMAC of a message under a key (15 R431). -/
opaque cmac (key msg : List Byte) : BitVec 128

/-- HKDF-Expand over SHA-384: a pseudorandom key, an info string and the bytes wanted (15 R425, R427). -/
opaque hkdfExpand (prk info : List Byte) (len : Nat) : List Byte

/-- HKDF-Extract over SHA-384: a salt and the input keying material (15 R425, R427). -/
opaque hkdfExtract (salt ikm : List Byte) : List Byte

/-- The lowest voltage, in 10 mV above 0.55 V, at which a domain's RATIO reaches 0x1000, at an elapsed time (05 R155, 11
R335). -/
opaque rateFloor (domain mono : Nat) : Nat

/-- The encoding of an interface's state in word 0 of IF_STATUS, from the values it reports (12 R381, 14). -/
opaque ifState (ifc a b : Nat) : BitVec 32

/-- AES-256-GCM encryption: ciphertext, then the 16-byte tag (15 R430). -/
opaque gcmSeal (key nonce aad plain : List Byte) : List Byte

/-- AES-256-GCM decryption of a blob whose tag verifies (15 R430). -/
opaque gcmOpen (key nonce aad cipher : List Byte) : List Byte

/-- Key material of a type drawn with the n-th random number (15 KEY_GENERATE). -/
opaque freshKey (typ n : Nat) : List Byte

/-- The public key of a private key of a type, in its standard encoding (15 KEY_PUBLIC). -/
opaque publicKey (typ : Nat) (secret : List Byte) : List Byte

/-- The X25519 shared secret (15 R427). -/
opaque x25519 (secret peer : List Byte) : List Byte

/-- ECDSA P-384 signature with SHA-384, r then s (08 R237). -/
opaque ecdsaSign (key msg : List Byte) : BitVec 768

/-- The 48-byte root fused at the maker's (15 R425). -/
opaque rootSecret : BitVec 384

/-- The 48-byte PUF response (15 R425). -/
opaque puf : BitVec 384

/-- The Doppler, Hz, that almanac data give for a satellite, where they exist (03 R91). -/
opaque almanac (gnss sat : Nat) : Option Int

/-- A satellite stands above an elevation, degrees, in an epoch (03 R86). -/
opaque inView (gnss sat elev epoch : Nat) : Bool

/-- The GLONASS frequency index of a slot: FCN + 7 (03 R83). -/
opaque gloIdx (sat : Nat) : Nat

/-- The bytes of an RTCM message of a type on a correction output, for the n-th emission (04 R123 to R127). -/
opaque rtcmFrame (typ out n : Nat) : List Byte

end Sys2Proof.Config
end

