-- ==== Sys2Proof/Machine/Blocks/Common.lean ====
section
/-! DEFINITION. State shared by several blocks: the common queue (01_architecture R33 to R38), replies, pending reads and
the return of a command. Each field's comment gives: rule | width | reset value. -/
namespace Sys2Proof.Machine

/-- An item of a common queue: a data item with its end-of-packet mark, or a GAP marker with its drop count (R34). -/
inductive QItem (α : Type) where
  | data (a : α) (eop : Bool)
  | gap (n : Nat)
deriving DecidableEq, Repr

/-- A queue under the common queue rules, with its registers QSTAT, QWM, QCNT and QDROP. -/
structure Queue (α : Type) where
  /-- 01 R33 | D | per queue | depth -/
  depth : Nat
  /-- 01 R33 | D items | empty | items held, oldest first; LEVEL is their number -/
  items : List (QItem α) := []
  /-- 01 R34 | 1 | 0 | QSTAT.GAP_OPEN -/
  gapOpen : Bool := false
  /-- 01 R37 | 1 | 0 | QSTAT.LEVEL_ABOVE -/
  levelAbove : Bool := false
  /-- 01 R37 | 1 | 0 | QSTAT.HI_SEEN -/
  hiSeen : Bool := false
  /-- 01 R37 | 1 | 0 | QSTAT.LO_SEEN -/
  loSeen : Bool := false
  /-- 01 R35 | 1 | 0 | QSTAT.UNDERRUN -/
  underrun : Bool := false
  /-- 01 R38 | 1 | 0 | QSTAT.WM_ERR -/
  wmErr : Bool := false
  /-- 01 R38 | 16 | D × 3/4 | QWM.HI -/
  hi : Nat := depth * 3 / 4
  /-- 01 R38 | 16 | D / 4 | QWM.LO -/
  lo : Nat := depth / 4
  /-- 01 R37 | 16 | 0 | QCNT.CROSSINGS -/
  crossings : Nat := 0
  /-- 01 R34 | 32 | 0 | QDROP.DROPS -/
  drops : Nat := 0
  /-- 01 R36 | 1 | 0 | a packet is partly read -/
  inPacket : Bool := false
  /-- 01 R35 | item | none | the last item read, which an empty queue returns -/
  last : Option (QItem α) := none
deriving DecidableEq, Repr

/-- The registers of a host-memory ring's queue view (R362, R404): LEVEL itself follows from the ring's pointers. -/
structure RingQ where
  /-- 01 R37 | 1 | 0 | QSTAT.LEVEL_ABOVE -/
  levelAbove : Bool := false
  /-- 01 R37 | 1 | 0 | QSTAT.HI_SEEN -/
  hiSeen : Bool := false
  /-- 01 R37 | 1 | 0 | QSTAT.LO_SEEN -/
  loSeen : Bool := false
  /-- 01 R38 | 1 | 0 | QSTAT.WM_ERR -/
  wmErr : Bool := false
  /-- 01 R38 | 16 | D × 3/4 (D = 2^LOG2) | QWM.HI -/
  hi : Nat
  /-- 01 R38 | 16 | D / 4 | QWM.LO -/
  lo : Nat
  /-- 01 R37 | 16 | 0 | QCNT.CROSSINGS -/
  crossings : Nat := 0
  /-- 12 R362 | 32 | 0 | QDROP.DROPS -/
  drops : Nat := 0
deriving DecidableEq, Repr

/-- The answer to the latest command or register read: the model's own output register (log entry 4). -/
structure Reply where
  /-- own 4 | 16 | SUCCESS | return code -/
  code : Rc := .success
  /-- own 4 | 8 | 0 | tag echo -/
  tag : BitVec 8 := 0
  /-- own 4 | words | empty | response words, or the data of a register read -/
  words : List Word := []
  /-- own 4 | 32 | 0 | epoch at which the command applies (R401) -/
  epoch : Word := 0
  /-- own 4 | 1 | 0 | the command is not yet complete: it completes later -/
  pendingDone : Bool := false
deriving DecidableEq, Repr

/-- A read that waits for data under R108, or a command that completes later. -/
structure PendRead where
  kind : ReadKind
  path : Path
  tag : BitVec 8
  addr : Nat
  len : Nat
  /-- Instant of submission on the elapsed-time count. -/
  at_ : Nat
deriving DecidableEq, Repr

/-- A final completion that firmware has to deliver for an accepted-async command (R395). -/
structure AsyncDone where
  path : Path
  tag : BitVec 8
  op : Op
  code : Rc
  words : List Word
deriving DecidableEq, Repr

/-- Condition of a power domain (GEN_RATEn.STATE). -/
inductive PState where
  | off | retained | running
deriving DecidableEq, Repr

/-- A position of a machine: a fix, or an accepted POS report (R147, R159, R160). -/
structure Pos where
  /-- Status of R156: 0 NONE, 1 DGNSS, 2 FLOAT, 3 FIXED. -/
  status : Nat := 0
  /-- Field-frame position, mm. -/
  e : Int := 0
  n : Int := 0
  u : Int := 0
  /-- Velocity, mm/s. -/
  ve : Int := 0
  vn : Int := 0
  vu : Int := 0
  hpl : Nat := 65535
  vpl : Nat := 65535
  /-- TAI of the measurement instant, in 2^-32 ns. -/
  inst : Nat := 0
  /-- The same instant on the elapsed-time count. -/
  instMono : Nat := 0
  /-- Elapsed time of its arrival. -/
  rx : Nat := 0
deriving DecidableEq, Repr

end Sys2Proof.Machine
end

