-- ==== Sys2Proof/Machine/Blocks/Core.lean ====
section
/-! DEFINITION. State of the GEN block and of the timebase (chapters 01, 02, 12, 17, 18). Each field's comment gives:
rule | width | reset value | name. 'DC n' or 'PRESUMED n' points to log entry n. -/
namespace Sys2Proof.Machine

/-- GEN_BOOT.PHASE (17_boot R461). -/
inductive Phase where
  | rom | selftest | verify | supStart | services | ready | haltSelftest | haltFuse | tamperHold | recovery
deriving DecidableEq, Repr

/-- The rate monitor of a power domain. -/
structure RateMon where
  /-- 01 R18 | 16 | 0 | GEN_RATEn.RATIO -/
  ratio : BitVec 16 := 0
  /-- 01 R18 | 10 | 0 | GEN_RATEn.VDOM, mV -/
  vdom : Nat := 0
  /-- 01 R18 | 2 | off | GEN_RATEn.STATE -/
  pstate : PState := .off
  /-- 01 R18 | 1 | 0 | GEN_RATEn.VALID -/
  valid : Bool := false
  /-- 01 R18 | 16 | 0xFFFF | GEN_RATEMINn.MINRATIO -/
  minRatio : BitVec 16 := 0xFFFF
deriving DecidableEq, Repr

/-- The GEN block. -/
structure Gen where
  /-- 00 R5 | 16 | DC 1 (0x9192) | GEN_ID.PART -/
  part : Nat := 0x9192
  /-- 12 R356 | 8 | DC 1 (0) | GEN_ID.STEP -/
  stepping : Byte := 0
  /-- 12 R356 | 64 | DC 1 (0) | GEN_ID.DEVICE_ID -/
  deviceId : BitVec 64 := 0
  /-- 00 R6 | 1 | DC 1 (-I) | the part is of the -X grade -/
  gradeX : Bool := false
  /-- 01 R32 | 1 | 0 | GEN_LEDGER_STATUS.FAULT, mirrored in GEN_STATUS.LEDGER_FAULT -/
  ledgerFault : Bool := false
  /-- 01 R32 | 4 | 0 | GEN_LEDGER_STATUS.POOL -/
  ledgerPool : Nat := 0
  /-- 01 R32 | 32 | 0 | GEN_LEDGER_SWEEP.SWEEPS -/
  sweeps : Word := 0
  /-- 01 R31 | 10 × 32 | 0 | GEN_LEDGER_POOLn.SUM -/
  sums : List Nat := List.replicate 10 0
  /-- 01 R31 | 16 + 16 | 0 | go and stop generations of the last sums of pools 8 and 9 -/
  sumGens : Nat × Nat := (0, 0)
  /-- 01 R12 | 1 | 0 | GEN_STATUS.UE -/
  ue : Bool := false
  /-- 01 R39 | 1 | 0 | GEN_STATUS.CFG_REJECT -/
  cfgReject : Bool := false
  /-- 01 R48 | 1 | 0 | GEN_STATUS.TXN_ABORT -/
  txnAbort : Bool := false
  /-- 15 R438 | 1 | 0 | GEN_STATUS.TAMPER -/
  tamper : Bool := false
  /-- 01 R12 | 4 | 0 | GEN_STATUS.UE_REGION -/
  ueRegion : Nat := 0
  /-- 01 R12 | 10 counts | 0 | single-bit errors corrected per region -/
  sbe : Tab Nat := []
  /-- 01 R13 | 10 counts | 0 | restarts of the service that owns a region -/
  restarts : Tab Nat := []
  /-- 01 R30 | 1 | 0 | the guarantees of R29 do not hold until the next reset -/
  void : Bool := false
  /-- 01 R23 | 64 | 0 | full count of the current epoch; GEN_EPOCH.EPOCH is it modulo 2^32 -/
  epochFull : Nat := 0
  /-- 01 R21 | 6 | 0 | GEN_EPOCH.SLOT -/
  slot : Nat := 0
  /-- 01 R21 | 7 | 0 | GEN_EPOCH.TICK -/
  tick : Nat := 0
  /-- 01 R24 | 32 per master | none | high word latched by a read of the low word, for the next read of the high word -/
  epochLatch : Tab (Option Word) := []
  /-- 12 R359 | 12 | 0 | GEN_IRQ_STATUS -/
  irqStatus : BitVec 12 := 0
  /-- 12 R359 | 12 | 0 | GEN_IRQ_MASK.EN -/
  irqMask : BitVec 12 := 0
  /-- 12 R360 | 48 + 16 | PRESUMED 25 (masked) | MSI-X vectors unmasked: PF0 0 to 47, PF1 64 to 79 -/
  msixOpen : Tab Bool := []
  /-- 12 R360 | 48 + 16 | 0 | MSI-X pending bits -/
  msixPba : Tab Bool := []
  /-- 12 R354 | 64 × 96 | PRESUMED 25 (0) | message address and data of the MSI-X entries, words 0 to 2 of each -/
  msixTab : Tab Word := []
  /-- own 4 | counts | 0 | MSI-X messages sent per vector -/
  msixSent : Tab Nat := []
  /-- 01 R18 | 12 monitors | off | rate monitors of the domains -/
  rates : Tab RateMon := []
  /-- 18 R484 | 12 each | 0 | GEN_SUPPLY: VDDC, VDDAON, VDDIO, VDDA, VBAT in mV -/
  supply : List Nat := [0, 0, 0, 0, 0]
  /-- 18 R484 | 1 | 0 | GEN_SUPPLY.VBAT_LOW -/
  vbatLow : Bool := false
  /-- 18 R484 | 1 | 0 | GEN_SUPPLY.REFCLK_OK -/
  refclkOk : Bool := false
  /-- 17 R461 | 4 | ROM | GEN_BOOT.PHASE -/
  phase : Phase := .rom
  /-- 17 R458 | 3 | 1 | GEN_BOOT.CAUSE -/
  cause : Nat := 1
deriving DecidableEq, Repr

/-- A PPS output. -/
structure PpsOut where
  /-- 02 R66 | 30 | 0 | OFFSET_NS -/
  offset : Nat := 0
  /-- 02 R66 | 20 | 100,000 | WIDTH_US -/
  width : Nat := 100000
  /-- 02 R66 | 1 | 0 | ENABLE -/
  enable : Bool := false
  /-- 02 R66 | 1 | 0 | POLARITY -/
  polarity : Bool := false
  /-- 02 R66 | 1 | 1 | GATE -/
  gate : Bool := true
deriving DecidableEq, Repr

/-- A PPS input. -/
structure PpsIn where
  /-- 02 R67 | 48 + 30 + 8 | 0 | TAI of the latest edge, 2^-32 ns -/
  time : Nat := 0
  /-- 02 R67 | 16 | 0 | COUNT -/
  count : BitVec 16 := 0
  /-- 02 R67 | 1 | 0 | MISSING -/
  missing : Bool := false
  /-- own 5 | elapsed time | 0 | elapsed time of the latest edge -/
  mono : Nat := 0
deriving DecidableEq, Repr

/-- A launch gate LGn. -/
structure Lg where
  /-- 02 R68 | 1 | 0 | LG_STATUS.ARMED -/
  armed : Bool := false
  /-- 02 R68 | 1 | 0 | LG_CTRL.PERIODIC -/
  periodic : Bool := false
  /-- 02 R69 | 1 | 0 | LG_CTRL.POLARITY -/
  polarity : Bool := false
  /-- 02 R68 | 30 | 0 | LG_START.NS -/
  startNs : Nat := 0
  /-- 02 R68 | 48 | 0 | LG_START.SEC -/
  startSec : Nat := 0
  /-- 02 R69 | 40 | 1,000,000,000 | LG_PERIOD.PERIOD_NS -/
  period : Nat := 1000000000
  /-- 02 R69 | 30 | 1,000 | LG_WIDTH.WIDTH_NS -/
  width : Nat := 1000
  /-- 02 R68 | 1 | 0 | LATE -/
  late : Bool := false
  /-- 02 R70 | 1 | 0 | STEP_HIT -/
  stepHit : Bool := false
  /-- 02 R69 | 1 | 0 | CFG_ERR -/
  cfgErr : Bool := false
  /-- 02 R69 | 16 | 0 | FIRED -/
  fired : BitVec 16 := 0
  /-- 02 R57 | TAI | 0 | next instant of the armed gate, 2^-32 ns -/
  next : Nat := 0
  /-- 02 R69 | elapsed time | 0 | end of the latest pulse: the ball is at its active level until then -/
  pulseEnd : Nat := 0
deriving DecidableEq, Repr

/-- An item of a capture queue (R71). -/
structure CapItem where
  time : Nat
  falling : Bool
  stepped : Bool
  seq : BitVec 16
deriving DecidableEq, Repr

/-- A capture input CAPn. -/
structure Cap where
  /-- 02 R71 | 2 | 0 | CAP_CTRL.EDGE -/
  edge : Nat := 0
  /-- 02 R71 | 1 | 0 | CAP_CTRL.FILTER -/
  filter : Bool := false
  /-- 02 R71 | 64 items | empty | the capture queue -/
  q : Queue CapItem := { depth := 64 }
  /-- 02 R71 | 1 | 0 | a step has applied since the latest item -/
  stepFlag : Bool := false
  /-- 02 R71 | 16 | 0 | SEQ of detected edges -/
  seq : BitVec 16 := 0
  /-- 02 R71 | 128 per master | 0 | words latched by a read of word 0 -/
  latch : Tab Nat := []
deriving DecidableEq, Repr

/-- The timebase, launch gates and captures. -/
structure Tbs where
  /-- 02 R498 | 1 | 0 | TBS_CTRL.EN -/
  en : Bool := false
  /-- 02 R52 | 1 | 0 | TBS_CTRL.REFSEL: 25 MHz -/
  refsel : Bool := false
  /-- 02 R53 | 2 | 0 (FREE) | TBS_CTRL.STEER -/
  steer : Nat := 0
  /-- 02 R53 | 2, full epoch | none | STEER waiting for its boundary -/
  steerNext : Option (Nat × Nat) := none
  /-- 02 R50 | 48 + 30 + 32 | 0 | TBS_TIME, the TAI count in 2^-32 ns -/
  time : Nat := 0
  /-- own 5 | elapsed time | 0 | elapsed time since reset in 2^-32 ns, which no step moves -/
  mono : Nat := 0
  /-- 02 R52 | 40 | 0x64_0000_0000 | TBS_INCR -/
  incr : Nat := 0x6400000000
  /-- 02 R52 | 32 | 0 | low word written to TBS_INCR, waiting for the high word -/
  incrLo : Word := 0
  /-- 02 R63 | 47 | 0x7735_9400_0000 | TBS_INCR32 -/
  incr32 : Nat := 0x773594000000
  /-- 02 R55 | 32 | 0 | low word written to TBS_ADJ, waiting for the high word -/
  adjLo : Word := 0
  /-- 02 R58 | 1 | 0 | TBS_STATUS.RESYNC -/
  resync : Bool := false
  /-- 02 R58 | 64 | 0 | full count of the resume boundary b -/
  resumeAt : Nat := 0
  /-- 02 R63 | 1 | 0 | TBS_STATUS.ON32K -/
  on32k : Bool := false
  /-- 02 R62, R63 | elapsed time | 0 | start of the present run on XO32K -/
  at32 : Nat := 0
  /-- 02 R62, R63 | elapsed time | 0 | time spent on XO32K since the latest TBS_SYNC write, but for the present run -/
  spent32 : Nat := 0
  /-- 02 R53 | 1 | 0 | TBS_STATUS.ADJ_REJECT -/
  adjReject : Bool := false
  /-- 02 R56 | 3 | 0 | TBS_STATUS.ADJ_REASON -/
  adjReason : Nat := 0
  /-- 02 R52 | 1 | 0 | TBS_STATUS.INCR_REJECT -/
  incrReject : Bool := false
  /-- 02 R56 | 1 | 0 | TBS_STATUS.STEPPED -/
  stepped : Bool := false
  /-- 02 R62 | 1 | 0 | TBS_STATUS.TIME_VALID -/
  timeValid : Bool := false
  /-- 02 R62 | 1 | 0 | TBS_STATUS.HOLDOVER -/
  holdover : Bool := false
  /-- 02 R62 | 1 | 0 | a TBS_SYNC write has been received since reset -/
  syncSeen : Bool := false
  /-- 02 R62 | 1 | 0 | a large step has applied since the latest TBS_SYNC write -/
  needSync : Bool := false
  /-- 02 R62 | 24 | 0 | UNC_NS of the latest TBS_SYNC write -/
  unc : Nat := 0
  /-- 02 R62 | elapsed time | 0 | elapsed time of the latest TBS_SYNC write -/
  syncAt : Nat := 0
  /-- 02 R62 | 16 | 100 | TBS_HOLD.DRIFT_PPB -/
  driftPpb : Nat := 100
  /-- 02 R62 | 10 | 20 | TBS_HOLD.LIMIT_US -/
  limitUs : Nat := 20
  /-- 02 R62 | 20 | 50,000 | TBS_HOLD.DRIFT32_PPB -/
  drift32Ppb : Nat := 50000
  /-- 02 R54 | 128 per master | 0 | TBS_TIME latched by a read of word 0 -/
  timeLatch : Tab Nat := []
  /-- 02 R66 | 2 outputs | see PpsOut | PPS outputs in force -/
  ppsOut : Tab PpsOut := []
  /-- 02 R66 | 2 outputs | see PpsOut | PPS outputs as last written -/
  ppsNext : Tab PpsOut := []
  /-- 02 R66 | TAI seconds | 0 | second from which the last written settings apply -/
  ppsFrom : Tab Nat := []
  /-- 02 R57 | TAI seconds | 0 | first second whose pulse has not yet been driven -/
  ppsDue : Tab Nat := []
  /-- own 4 | counts | 0 | pulses driven per PPS output -/
  ppsPulses : Tab Nat := []
  /-- 02 R67 | 2 inputs | see PpsIn | PPS inputs -/
  ppsIn : Tab PpsIn := []
  /-- 02 R54 | 128 per master and input | 0 | TBS_PPSIn latched by a read of word 0 -/
  ppsLatch : Tab Nat := []
  /-- 02 R68 | 16 gates | see Lg | launch gates -/
  lg : Tab Lg := []
  /-- 02 R71 | 16 inputs | see Cap | captures -/
  cap : Tab Cap := []
  /-- 02 R64 | 5 counts | 0 | fires of the firmware timers CMP27 to CMP31 -/
  fwTimers : Tab Nat := []
  /-- 02 R57 | 6 | 0 | radio slots of this epoch whose start has fired -/
  slotsFired : Nat := 0
  /-- 02 R57 | 7 | 0 | profile ticks of this epoch that have fired -/
  ticksFired : Nat := 0
  /-- 02 R57 | 1 | 0 | the stop-window end of the current slot has fired -/
  winEnded : Bool := false
  /-- 02 R57 | 1 | 0 | step 1 of R25 has run for the next boundary -/
  rechecked : Bool := false
  /-- 02 R57 | 1 | 0 | step 2 of R25 has run for the next boundary -/
  frozen : Bool := false
  /-- 01 R39 | 1 | 0 | step 3 of R25 has run: later EPOCH writes wait one boundary more -/
  cutoff : Bool := false
deriving DecidableEq, Repr

end Sys2Proof.Machine
end

