-- ==== Sys2Proof/Machine/Blocks/Fleet.lean ====
section
/-! DEFINITION. State of positioning, Orchard, the profile engine and Bugle (chapters 03 to 08). -/
namespace Sys2Proof.Machine

/-- State of a correlator channel (03 R86), in the order of GNS_CHAN_STATUS. -/
inductive ChSt where
  | free | idle | acq | track | coast | shed
deriving DecidableEq, Repr

/-- A sample lane. -/
structure Lane where
  /-- 14 GNS_LANE_EN | 1 | 0 | a GNS_LANE_CFG has been accepted -/
  configured : Bool := false
  /-- 03 R76 | 1 | DC 7 (0) | ANT -/
  antB : Bool := false
  /-- 03 R83 | 2 | DC 7 (0) | GROUP -/
  group : Nat := 0
  /-- 03 R75 | 1 | DC 7 (0) | COMPLEX -/
  complex : Bool := false
  /-- 03 R75 | 1 | DC 7 (0) | BITS4 -/
  bits4 : Bool := false
  /-- 03 R76 | 1 | DC 7 (0) | TWOS -/
  twos : Bool := false
  /-- 03 R79 | 1 | DC 7 (0) | COHERENT -/
  coherent : Bool := false
  /-- 03 R76 | 1 | DC 7 (0) | INVERT -/
  invert : Bool := false
  /-- 03 R77 | 32 | DC 7 (0) | RATE_HZ -/
  rate : Nat := 0
  /-- 03 R78 | 32 | DC 7 (0) | RF_HZ -/
  rf : Nat := 0
  /-- 03 R77 | 32 | DC 7 (0) | IF_HZ -/
  ifHz : Int := 0
  /-- 03 R79 | 16 | DC 7 (0) | NUM -/
  num : Nat := 0
  /-- 03 R79 | 16 | DC 7 (0) | DEN -/
  den : Nat := 0
  /-- 03 R89 | 1 | 0 | enabled -/
  en : Bool := false
  /-- 03 R89 | 1 | none | enable waiting for the next tick -/
  enNext : Option Bool := none
  /-- 03 R109 | 1 | 0 | CLK_LOST -/
  clkLost : Bool := false
  /-- 03 R79 | 1 | 0 | CLK_SLIP, latched -/
  clkSlip : Bool := false
  /-- 03 R79 | 1 | 0 | a slip in the current measurement interval -/
  slipNow : Bool := false
  /-- 03 R105 | 1 | 0 | a gap on the lane since the previous instant -/
  gapNow : Bool := false
  /-- 03 R98 | 1 | 0 | AGC_OUT -/
  agcOut : Bool := false
  /-- 03 R98 | 2 | 0 | consecutive intervals on the other side of the band -/
  agcRun : Nat := 0
  /-- 03 R99 | 1 | 0 | INTERF -/
  interf : Bool := false
  /-- 03 R99 | 4 notches | none | notch bins, with intervals since their peak -/
  notches : List (Nat × Nat) := []
  /-- 03 R98 | 16 | 0 | latest MAG or RMS -/
  monLevel : Nat := 0
  /-- 03 R100 | 16 | 0 | latest blanked fraction, 2^-16 -/
  blanked : Nat := 0
  /-- 03 R100 | 1 | DC 7 (0) | BLANK -/
  blank : Bool := false
  /-- 03 R99 | 8 | 15 | NB_DB -/
  nbDb : Nat := 15
  /-- 03 R98 | 2 × 16 | 51 and 115 (MAG), 512 and 1,280 (RMS) | MON_LO and MON_HI, once set -/
  monBand : Option (Nat × Nat) := none
  /-- 03 R81 | 2,048 blocks | empty | sample FIFO -/
  fifo : Queue Unit := { depth := 2048, hi := 1536, lo := 512 }
  /-- 03 R79 | count | 0 | sample count at the latest latch -/
  latch : Nat := 0
  /-- 03 R86 | 3 | 6 (antenna A) or 4 (B) | GNS_PLAN PRIO, when set -/
  planPrio : Option Nat := none
  /-- 03 R86 | 7 | DC 7 (0) | GNS_PLAN ELEV_DEG -/
  planElev : Nat := 0
  /-- 03 R86 | 6 | DC 7 (0) | GNS_PLAN CONST_EN -/
  planConst : BitVec 6 := 0
  /-- 03 R86 | 22 | DC 7 (0) | GNS_PLAN SIGMASK -/
  planSigs : BitVec 22 := 0
deriving DecidableEq, Repr

/-- What an allocation gives a channel (GNS_CHAN_ALLOC, R87). -/
structure ChanReq where
  lane : Nat
  sig : Nat
  sat : Nat
  fcnIdx : Nat
  prio : Nat
  pinned : Bool
deriving DecidableEq, Repr

/-- A correlator channel. -/
structure Chan where
  /-- 03 R86 | 3 | FREE | state -/
  st : ChSt := .free
  /-- 03 R86 | 1 | 0 | PINNED -/
  pinned : Bool := false
  /-- 03 R87 | 3 | 0 | PRIO -/
  prio : Nat := 0
  /-- 03 R84 | 3 | 0 | LANE -/
  lane : Nat := 0
  /-- 03 R83 | 5 | 0 | SIG -/
  sig : Nat := 0
  /-- 03 R83 | 6 | 0 | SAT -/
  sat : Nat := 0
  /-- 03 R83 | 4 | 0 | FCN_IDX -/
  fcnIdx : Nat := 0
  /-- 03 R106 | 8 | 0 | C/N0, 0.25 dB-Hz -/
  cn0 : Nat := 0
  /-- 03 R106 | 32 | 0 | Doppler, mHz -/
  dop : Int := 0
  /-- 03 R106 | elapsed time | 0 | start of the continuous phase, from which LOCK counts -/
  lockAt : Nat := 0
  /-- 03 R107 | 16 | 0 | QFLAGS of the latest record -/
  qflags : BitVec 16 := 0
  /-- 14 GNS_CHAN_STATUS | 32 | 0 | searches made -/
  searches : Nat := 0
  /-- 03 R82 | time | 0 | total coasting, ns -/
  coastNs : Nat := 0
  /-- 03 R82 | 1 | 0 | SLIP_POSSIBLE in the current interval -/
  slip : Bool := false
  /-- 03 R82 | 1 | 0 | GAP in the current interval -/
  gap : Bool := false
  /-- 03 R89 | allocation | none | an allocation that waits for the next tick -/
  next : Option ChanReq := none
  /-- 03 R89 | 1 | 0 | a freeing waits for the next tick -/
  freeing : Bool := false
  /-- 03 R109 | elapsed time | 0 | start of a clock loss, for coasting -/
  coastAt : Nat := 0
  /-- 03 R109 | state | TRACK | state to which a coasting channel returns -/
  resume : ChSt := .track
  /-- 03 R85 | 32 | 0 | dumps to the tracking firmware -/
  dumps : Nat := 0
deriving DecidableEq, Repr

/-- What a measurement instant fixes for its block (R101, R105): the instant, the header flags of that moment, and the
channels in TRACK or COAST, each with the quality flags of its interval. -/
structure MeasInst where
  full : Nat
  tai : Nat
  timeValid : Bool
  gap : Bool
  stepped : Bool
  interf : Bool
  chans : List (Nat × Chan)
deriving DecidableEq, Repr

/-- A request of the acquisition engine (03 R90): mode 0 cold, 1 warm, 2 handover. -/
structure AcqReq where
  ch : Nat
  mode : Nat
  dopHz : Int
  halfHz : Nat
deriving DecidableEq, Repr

/-- The GNSS domain. -/
structure Gnss where
  /-- 03 R75 | 8 lanes | see Lane | sample lanes -/
  lanes : Tab Lane := []
  /-- 03 R85 | 1,536 channels | see Chan | correlator channels -/
  chans : Tab Chan := []
  /-- 03 R90 | 64 requests | empty | acquisition queue -/
  acqQ : List AcqReq := []
  /-- 03 R102 | 2 | DC 7 (1 Hz) | RATE code of GNS_MEAS_CFG -/
  rate : Nat := 0
  /-- 03 R94 | mV | DC 7 (880) | governor's voltage of the GNSS domain -/
  vGnss : Nat := 880
  /-- 03 R95 | 1 | 0 | keep-up surge to 0.88 V -/
  surge : Bool := false
  /-- 03 R95 | elapsed time | 0 | since when every FIFO has stayed at LO or below -/
  loSince : Nat := 0
  /-- 03 R96 | list | empty | channels in SHED, in shedding order -/
  shed : List Nat := []
  /-- 03 R108 | 32 | 0 | MEAS_MISSED -/
  measMissed : Nat := 0
  /-- 03 R105 | 1 | 0 | a step has applied since the previous instant -/
  stepFlag : Bool := false
  /-- 03 R102 | full epoch | none | epoch of the latest measurement instant -/
  instDone : Option Nat := none
  /-- 03 R105 | instant | none | measurement instant whose block is awaited -/
  inst : Option MeasInst := none
  /-- 03 R105 | 32 each | unknown | CLK_BIAS and CLK_DRIFT -/
  clock : Option (Int × Int) := none
  /-- 03 R108 | bytes | empty | the latest measurement block -/
  block : List Byte := []
deriving DecidableEq, Repr

/-- A user of an NTRIP mountpoint. -/
structure NtUser where
  name : List Byte
  salt : List Byte
  digest : List Byte
deriving DecidableEq, Repr

/-- A schedule entry of a correction output (04 R124). -/
structure SchedEnt where
  typ : Nat := 0
  period : Nat := 0
  offset : Nat := 0
  suspended : Bool := false
deriving DecidableEq, Repr

/-- A correction output. -/
structure CorrOut where
  /-- 14 REF_OUT_CFG | 2 | DC 7 (off) | BIND -/
  bind : Nat := 0
  /-- 14 REF_OUT_CFG | 12 | DC 7 (0) | STATION_ID -/
  station : Nat := 0
  /-- 14 REF_OUT_CFG | 6 | DC 7 (0) | CONST_EN -/
  constEn : BitVec 6 := 0
  /-- 04 R124 | 16 entries | empty | schedule -/
  sched : Tab SchedEnt := []
  /-- 04 R138 | 1 | DC 7 (0) | mountpoint EN -/
  ntEn : Bool := false
  /-- 04 R138 | 32 bytes | DC 7 (empty) | mountpoint name -/
  mount : List Byte := []
  /-- 04 R138 | 8 users | empty | users of the mountpoint -/
  users : List NtUser := []
  /-- own 22 | types | empty | RTCM message types of the latest emission, in order -/
  emitted : List Nat := []
deriving DecidableEq, Repr

/-- An NTRIP session: its output and the bytes waiting in its send buffer (04 R139). -/
structure NtSess where
  out : Nat
  queued : Nat
deriving DecidableEq, Repr

/-- State of the ARP (04 R112). -/
inductive ArpSt where
  | none | surveying | held
deriving DecidableEq, Repr

/-- Exclusion of a signal by the residual test (04 R115). -/
structure Excl where
  failed : Bool := false
  slipSeen : Bool := false
  passes : Nat := 0
deriving DecidableEq, Repr

/-- The reference station. -/
structure Ref where
  /-- 04 R112 | 2 | NONE | ARP state -/
  arpSt : ArpSt := .none
  /-- 04 R112 | 3 × 64 | 0 | ARP, ECEF mm -/
  arp : Int × Int × Int := (0, 0, 0)
  /-- 04 R112 | 12 × 16 | DC 7 (0) | phase-centre offsets: E, N, U of band groups 0 to 3 -/
  pco : List Int := List.replicate 12 0
  /-- 04 R112 | 3 × 32 | none | held baseline A to B, mm -/
  baseline : Option (Int × Int × Int) := none
  /-- 04 R113 | 17 | 0 | MIN_S of the survey -/
  minS : Nat := 0
  /-- 04 R113 | 17 | 0 | MAX_S -/
  maxS : Nat := 0
  /-- 04 R113 | 16 | 0 | TARGET_MM -/
  targetMm : Nat := 0
  /-- 04 R113 | elapsed time | 0 | start of the survey -/
  surveyAt : Nat := 0
  /-- 04 R113 | count | 0 | instants of the survey, solved ones, and the sum of the solutions -/
  svInst : Nat := 0
  /-- 04 R113 | count | 0 | instants solved -/
  svSolved : Nat := 0
  /-- 04 R113 | 3 sums | 0 | sum of the single-point solutions, mm -/
  svSum : Int × Int × Int := (0, 0, 0)
  /-- 14 REF_STATUS | 32 | 0 | survey seconds of the latest survey that ended -/
  svSecs : Nat := 0
  /-- 14 REF_STATUS | 32 | 0 | survey error, mm -/
  svErr : Nat := 0
  /-- 04 R113 | count | 0 | instants with a fixed baseline -/
  svBaseN : Nat := 0
  /-- 04 R113 | 3 sums | 0 | sum of the fixed baselines, mm -/
  svBase : Int × Int × Int := (0, 0, 0)
  /-- 04 R122 | 15 words | DC 7 (0) | REF_ANT_CFG as written: height, set-up, descriptor, biases -/
  ant : List Word := []
  /-- 04 R116 | 10 | 100 | TAU_S -/
  tauS : Nat := 100
  /-- 04 R124 | 4 outputs | see CorrOut | correction outputs -/
  outs : Tab CorrOut := []
  /-- 04 R135 | 1 | DC 7 (0) | REF_ZFL_CFG EN -/
  zflEn : Bool := false
  /-- 04 R135 | 8 | DC 7 (8) | BEACON_BYTES -/
  zflBytes : Nat := 8
  /-- 04 R135 | 10 | DC 7 (10) | SET_PERIOD -/
  zflPeriod : Nat := 10
  /-- 04 R134 | 8 | DC 7 (1) | ARP_EVERY -/
  zflArpEvery : Nat := 1
  /-- 04 R135 | 6 | DC 7 (0) | CONST_EN -/
  zflConst : BitVec 6 := 0
  /-- 04 R129 | 4 | 0 | next SET_SEQ -/
  zflSeq : Nat := 0
  /-- 04 R134 | count | 0 | sets since the latest station block -/
  zflSince : Nat := 0
  /-- 04 R134 | 1 | 1 | the ARP has changed since the latest set -/
  zflArpNew : Bool := true
  /-- 04 R134 | fragments | empty | fragments not yet frozen into a beacon -/
  zflFrags : List (List Byte) := []
  /-- 04 R138 | 16 | 2101 | NTRIP TCP port -/
  ntPort : Nat := 2101
  /-- 04 R138 | 12 | DC 7 (0) | NTRIP VID -/
  ntVid : Nat := 0
  /-- 04 R139 | 32 sessions | empty | sessions -/
  ntSess : List NtSess := []
  /-- 04 R139 | 32 | 0 | refusals and closures -/
  ntRefused : Nat := 0
  /-- own 4 | 10 | 0 | HTTP status of the latest NTRIP answer -/
  ntStatus : Nat := 0
  /-- 04 R118 | 16 | 300 (30 m) | POS_TOL_DM -/
  posTolDm : Nat := 300
  /-- 04 R118 | 8 | 20 | BASE_TOL_MM -/
  baseTol : Nat := 20
  /-- 04 R119 | 10 | 10 | RECOVER_S -/
  recoverS : Nat := 10
  /-- 04 R115 | 6 | 10 | ELEV_MASK -/
  elevMask : Nat := 10
  /-- 04 R115 | 8 | 30 | CN0_MIN -/
  cn0Min : Nat := 30
  /-- 04 R119 | 2 | DC 26 (ALARM) | integrity level: 0 OK, 1 WARN, 2 ALARM -/
  level : Nat := 2
  /-- 04 R118 | 10 | 0 | failing checks -/
  failing : BitVec 10 := 0
  /-- 04 R118 | count | 0 | consecutive late or missing blocks -/
  lateRun : Nat := 0
  /-- 04 R118 | count | 0 | consecutive instants with a deviating baseline -/
  baseRun : Nat := 0
  /-- 04 R118 | elapsed time | 0 | latest instant with a fixed baseline -/
  baseFixedAt : Nat := 0
  /-- 04 R119 | elapsed time | none | since when every ALARM check has passed -/
  goodSince : Option Nat := none
  /-- 04 R117 | 1 | 0 | STEERED -/
  steered : Bool := false
  /-- 04 R117 | count | 0 | consecutive instants with a bias within 1 µs -/
  steerRun : Nat := 0
  /-- 14 REF_STATUS | 32 | 0 | satellites used -/
  used : Nat := 0
  /-- 14 REF_STATUS | 32 | 0 | signals excluded -/
  excluded : Nat := 0
  /-- 14 REF_STATUS | 32 | 0 | RTCM frames sent -/
  rtcmSent : Nat := 0
  /-- 04 R115 | per channel | none | signals that failed the residual test -/
  excl : Tab Excl := []
  /-- 05 R151 | elapsed time | none | since when the reference supplies no observations -/
  lostAt : Option Nat := none
deriving DecidableEq, Repr

/-- A machine slot of central positioning. -/
structure FixSlot where
  /-- 05 R164 | 2 | OFF | MODE: 0 OFF, 1 CENTRAL, 2 OWN -/
  mode : Nat := 0
  /-- 05 R164 | 6 | all | CONST_EN -/
  constEn : BitVec 6 := 0x3F
  /-- 05 R164 | 1 | 0 | FLOAT_OK -/
  floatOk : Bool := false
  /-- 05 R164 | 7 | 10 | ELEV_MASK -/
  elev : Nat := 10
  /-- 05 R164 | 8 | 30 | RATIO_MIN, 0.1 -/
  ratioMin : Nat := 30
  /-- 05 R164 | 16 | 250 | HAL_MM -/
  hal : Nat := 250
  /-- 05 R164 | 16 | 500 | VAL_MM -/
  val : Nat := 500
  /-- 05 R164 | 8 | 20 | ACC_MAX, 0.1 m/s² -/
  accMax : Nat := 20
  /-- 05 R148 | 1 | 0 | a float filter exists -/
  filter : Bool := false
  /-- 05 R157 | integers | none | integers held from the previous fixed instant -/
  held : List (Nat × Int) := []
  /-- 05 R157 | integers | none | best vector of the previous solved instant -/
  prevBest : List (Nat × Int) := []
  /-- 05 R146 | full epoch | none | instant of the accepted OBS payload -/
  obsFor : Option Nat := none
  /-- 05 R164 | 1 | 0 | a search in progress is to be discarded (FIX_RESET) -/
  dropSearch : Bool := false
  /-- 05 R159 | position | none | newest position -/
  newest : Option Pos := none
  /-- 06 R183, R189 | positions | empty | earlier positions, newest first -/
  hist : List Pos := []
  /-- 14 FIX_STATUS | 4 | OK | last REASON -/
  reason : Nat := 0
  /-- 05 R160, R161 | 2 × 40 bytes | none | the latest fixes for the downlink, each with its instant's full epoch -/
  fixes : List (Nat × List Byte) := []
  /-- 05 R163 | record | none | host record of the latest instant: reason, nodes, ready time, fix -/
  hostRec : Option (Nat × Nat × Nat × List Byte) := none
  /-- 14 FIX_STATUS | 32 | 0 | accepted uplinks -/
  nAcc : Nat := 0
  /-- 05 R146 | 32 | 0 | refused uplinks -/
  nRef : Nat := 0
  /-- 05 R146 | 32 | 0 | DUP uplinks -/
  nDup : Nat := 0
  /-- 05 R142 | 32 | 0 | non-instant uplinks -/
  nNon : Nat := 0
  /-- 14 FIX_STATUS | 32 | 0 | FIXED instants -/
  nFixed : Nat := 0
  /-- 14 FIX_STATUS | 32 each | 0 | counts of REASON 1 to 11 -/
  reasons : Tab Nat := []
  /-- own 13 | filter result | none | float solution waiting for its search -/
  float : Option FilterIn := none
deriving DecidableEq, Repr

/-- Central positioning and Bramble. -/
structure Fix where
  /-- 05 R141 | 192 slots | see FixSlot | slots -/
  slots : Tab FixSlot := []
  /-- 05 R164 | 10 | 100 | NODE_K -/
  nodeK : Nat := 100
  /-- 05 R164 | 4 | 6 | P_AMB_EXP -/
  pExp : Nat := 6
  /-- 05 R164 | 16 | 600 | K_H, 0.01 -/
  kH : Nat := 600
  /-- 05 R164 | 16 | 533 | K_V, 0.01 -/
  kV : Nat := 533
  /-- 05 R154 | slots | empty | searches in order of submission, with their instant's full epoch -/
  searchQ : List (Nat × Nat) := []
  /-- 14 BRM_STATUS | 32 | 0 | searches completed -/
  completed : Nat := 0
  /-- 14 BRM_STATUS | 32 | 0 | searches capped -/
  capped : Nat := 0
  /-- 14 BRM_STATUS | 16 | 0 | peak queue depth -/
  peak : Nat := 0
  /-- 14 BRM_STATUS | 32 | 0 | maximum nodes since the last read -/
  maxNodes : Nat := 0
  /-- 05 R163 | full epoch, elapsed time | none | solved instant whose block is awaited -/
  inst : Option (Nat × Nat) := none
  /-- 05 R151 | full epoch | none | solved instant for which reference observations are at hand -/
  refFor : Option Nat := none
deriving DecidableEq, Repr

/-- Orchard configuration of a machine slot. -/
structure OrcSlot where
  /-- 06 R195 | 1 | DC 7 (0) | DEPOT_ADMIT -/
  depot : Bool := false
  /-- 06 R195 | 16 | 3,000 | FOOT_MM -/
  foot : Nat := 3000
  /-- 06 R195 | 16 | 4,000 | V_MAX_MMS -/
  vMax : Nat := 4000
  /-- 06 R195 | 16 | 200 | T_REACT_MS -/
  tReact : Nat := 200
deriving DecidableEq, Repr

/-- The tile grid (06 R165). -/
structure Grid where
  log2 : Nat
  ni : Nat
  nj : Nat
  e0 : Int
  n0 : Int
deriving DecidableEq, Repr

/-- An interval record of the Orchard store (06 R168). -/
structure Interval where
  i : Nat
  j : Nat
  holder : Nat
  grant : Nat
  tStart : Nat
  tEnd : Nat
  openEnd : Bool := false
  /-- A pending claim of a zone or disc (R187), or an interval of a committed transaction (R46). -/
  pending : Bool := false
  frozen : Bool := false
  /-- Identifier of the committed transaction that holds it pending. -/
  txn : Option Nat := none
deriving DecidableEq, Repr

/-- A frozen holder (06 R189). -/
structure Froz where
  frozen : Bool := false
  /-- Grant identifier, centre and radius of the frozen disc. -/
  disc : Option (Nat × Int × Int × Nat) := none
  /-- The machine has re-registered and its first position with POS_OK is awaited (R191). -/
  awaiting : Bool := false
deriving DecidableEq, Repr

/-- Orchard. -/
structure Orc where
  /-- 06 R166 | grid | unconfigured | the tile grid -/
  grid : Option Grid := none
  /-- 06 R171 | 8 | 10 | GUARD -/
  guard : Nat := 10
  /-- 06 R172 | 14 | 5,000 | PEOPLE_MIN_MM -/
  peopleMin : Nat := 5000
  /-- 06 R196 | 192 slots | see OrcSlot | slot configuration -/
  slots : Tab OrcSlot := []
  /-- 06 R172 | 2 per zone | KEEP_OUT | zone types: 0 KEEP_OUT, 1 PEOPLE, 2 DEPOT -/
  zones : Tab Nat := []
  /-- 06 R168 | 262,144 records | empty | interval records, ledger pool 7 -/
  store : List Interval := []
  /-- 06 R181 | 16 | 0 | next grant identifier to try -/
  nextGrant : Nat := 0
  /-- 06 R181 | identifiers | empty | identifiers ended, with the elapsed time of their end -/
  ended : List (Nat × Nat) := []
  /-- 06 R189 | 192 holders | not frozen | frozen holders -/
  froz : Tab Froz := []
  /-- 06 R193 | 1 | 0 | ORC_STATUS.FAULT: a failed audit -/
  fault : Bool := false
  /-- 06 R193 | 1 | 0 | an operation has been in progress for more than 20 ms -/
  overrun : Bool := false
  /-- 06 R193 | 1 | 0 | an uncorrectable error has hit the store -/
  ueHit : Bool := false
  /-- 06 R193 | 32 | 0 | audit sweeps completed -/
  sweeps : Nat := 0
  /-- 14 ORC_STATUS | 32 | 0 | grants since the last read -/
  grants : Nat := 0
  /-- 14 ORC_STATUS | 32 | 0 | denials since the last read -/
  denials : Nat := 0
  /-- 16 R457 | 32 | 0 | denials in the current 1 s window -/
  denWin : Nat := 0
  /-- 06 R186 | 192 | 0 | RES_OK of the latest sampling -/
  resOk : BitVec 192 := 0
  /-- 06 R338 | list | empty | freezes due in DOZE or NIGHT, run after the return -/
  dueFreeze : List Nat := []
deriving DecidableEq, Repr

/-- A queued segment (07 R200). -/
structure Seg where
  track : Nat
  seg : Nat
  rev : Bool
  dwell : Nat
  sta0 : Nat
  sta1 : Nat
  vCap : Nat
  accel : Nat
  decel : Nat
  jerk : Nat
  /-- Full epoch at whose start the push takes effect (R208). -/
  eff : Nat
  /-- It has taken over as head: its deceleration and jerk have been requested (R212). -/
  cur : Bool := false
  /-- Direction taken by a zero-length segment: the one before it (R200). -/
  rising : Bool
deriving DecidableEq, Repr

/-- State of a profile channel (07 R198), in code order. -/
inductive PrfSt where
  | off | idle | run | dwell | stopping | hold
deriving DecidableEq, Repr

/-- A profile channel. Speeds are in pm per tick, accelerations in pm per tick per tick (log entry 12). -/
structure Prf where
  /-- 07 R197 | 1 | 0 | EN -/
  en : Bool := false
  /-- 07 R225 | 1 | DC 7 (0) | REVERSE_OK -/
  reverseOk : Bool := false
  /-- 07 R225 | 16 | 1,000 | A_LAT -/
  aLat : Nat := 1000
  /-- 07 R225 | 16 | 1,500 | ACCEL_CAP -/
  accelCap : Nat := 1500
  /-- 07 R225 | 16 | 3,000 | DECEL_CAP -/
  decelCap : Nat := 3000
  /-- 07 R225 | 16 | 5,000 | JERK_CAP -/
  jerkCap : Nat := 5000
  /-- 07 R225 | 16 | 1,500 | DECEL_DEF -/
  decelDef : Nat := 1500
  /-- 07 R225 | 16 | 3,000 | JERK_DEF -/
  jerkDef : Nat := 3000
  /-- 07 R225 | 16 | 1,000 | REV_V_MAX -/
  revVMax : Nat := 1000
  /-- 07 R198 | 3 | OFF | state -/
  st : PrfSt := .off
  /-- 07 R201 | 16 segments | empty | queue, head first -/
  queue : List Seg := []
  /-- 07 R205 | 64 | 0 | ACC, 2^-32 m -/
  acc : Nat := 0
  /-- 07 R205 | speed | 0 | V -/
  v : Nat := 0
  /-- 07 R205 | acceleration | 0 | A -/
  a : Int := 0
  /-- 07 R212 | mm/s² | DECEL_DEF | a_f in force, once a segment has been current -/
  aF : Option Nat := none
  /-- 07 R212 | mm/s³ | JERK_DEF | j in force, once a segment has been current -/
  jF : Option Nat := none
  /-- 07 R213 | 16 | none | waiting gentler deceleration -/
  waitA : Option Nat := none
  /-- 07 R212 | 16 | none | waiting lower jerk -/
  waitJ : Option Nat := none
  /-- 07 R208 | full epoch | none | epoch at whose start the waiting values apply, while R213 holds -/
  waitEff : Option Nat := none
  /-- 07 R212 | 1 | 0 | DECEL_CLAMPED -/
  clamped : Bool := false
  /-- 07 R214 | 1 | 0 | TARGET_BEHIND -/
  behind : Bool := false
  /-- 07 R215 | station | none | STA_TARGET that lies behind -/
  target : Option Nat := none
  /-- 07 R207 | 1 | 0 | COVERAGE_LIMIT -/
  covLimit : Bool := false
  /-- 07 R211 | 1 | 0 | WAIT_PERMIT -/
  waitPermit : Bool := false
  /-- 07 R221 | 1 | 0 | LAG -/
  lag : Bool := false
  /-- 07 R220 | 3 | 0 | LAG_CAUSE -/
  lagCause : Nat := 0
  /-- 07 R215 | 1 | 0 | REVERSING -/
  reversing : Bool := false
  /-- 07 R210 | 1 | 0 | STOPPED -/
  stopped : Bool := false
  /-- 07 R207 | path position | 0 | S_LIM, 2^-32 mm -/
  sLim : Nat := 0
  /-- 07 R208 | path position | 0 | S_LIM in force, 2^-32 mm: a rise waits for a window base -/
  sLimEff : Nat := 0
  /-- 07 R208 | path position | 0 | S_LIM as the latest window was built, 2^-32 mm -/
  sLimWin : Nat := 0
  /-- 07 R202 | count | 0 | dwell time elapsed, ms -/
  dwelt : Nat := 0
  /-- 07 R201 | 1 | 0 | the channel has held a segment since it was enabled -/
  everHeld : Bool := false
  /-- 07 R200 | path position | 0 | path position at which the head was entered, or at which the last segment ended, 2^-32 mm -/
  entry : Nat := 0
  /-- 07 R200 | segment | none | the last retired segment, which ends at `entry` while the queue is empty -/
  rest : Option Seg := none
  /-- 07 R214 | path position | none | retarget stop point, 2^-32 mm -/
  stopAt : Option Nat := none
  /-- 07 R208 | station, full epoch | none | a PRF_RETARGET to a farther end, and the epoch at whose start it applies -/
  retarget : Option (Nat × Nat) := none
  /-- 07 R211 | full epoch | none | epoch at whose start motion from rest begins -/
  startAt : Option Nat := none
  /-- 07 R217 | 3 | 0 | QBAND of the latest window -/
  qband : Nat := 0
  /-- 07 R216 | bytes | empty | latest window payload -/
  window : List Byte := []
  /-- 07 R225 | 13 | 500 | LAG_MM -/
  lagMm : Nat := 500
  /-- 07 R225 | 11 | 1,000 | LAG_MS -/
  lagMs : Nat := 1000
  /-- 07 R225 | 10 | 100 | DEAD_MM -/
  deadMm : Nat := 100
  /-- 07 R225 | 14 | 1,000 | XTRACK_MM -/
  xtrack : Nat := 1000
  /-- 07 R225 | 16 | 0 | LAG_D -/
  lagD : Int := 0
  /-- 07 R225 | 16 | 0 | LAG_TAU -/
  lagTau : Nat := 0
  /-- 07 R225 | 32 | 0 | LAG_COUNT -/
  lagCount : Nat := 0
  /-- 07 R220 | 2.0 s at 10 ms | empty | history, newest first: TAI, path position, field position, mm -/
  hist : List (Nat × Nat × Int × Int) := []
deriving DecidableEq, Repr

/-- A point of a track image (14 R418). -/
structure TrackPt where
  e : Int
  n : Int
  heading : Nat
  kappa : Int
deriving DecidableEq, Repr

/-- A track of the library (14 R418). -/
structure Track where
  spacing : Nat := 0
  pts : List TrackPt := []
deriving DecidableEq, Repr

/-- The profile engine and the track library. -/
structure PrfBlk where
  /-- 07 R197 | 192 channels | see Prf | channels -/
  ch : Tab Prf := []
  /-- 14 R418 | 1,024 tracks | DC 7 (empty) | track library -/
  tracks : Tab Track := []
deriving DecidableEq, Repr

/-- A stop in force (08 R246). -/
structure Stop where
  /-- 1 ESTOP to 10 TAMPER. -/
  cause : Nat
  fleet : Bool
  slots : BitVec 192
deriving DecidableEq, Repr

/-- STOP_OUT (08 R244). -/
inductive StopOut where
  | hiZ | low | high
deriving DecidableEq, Repr

/-- Burst confirmation of a port (08 R236). -/
structure BurstPort where
  /-- Consecutive missing confirmations. -/
  miss : Nat := 0
  /-- BGL_STOPINFO.BURST_FAULT. -/
  fault : Bool := false
  /-- Consecutive confirmed bursts. -/
  okRun : Nat := 0
  /-- Epochs without a stop with the port's beacons confirmed. -/
  quiet : Nat := 0
  /-- A burst awaits its confirmation. -/
  waiting : Bool := false
deriving DecidableEq, Repr

/-- Bugle, in the safety island. -/
structure Bgl where
  /-- 17 R461 | 1 | 0 | the island has been released -/
  up : Bool := false
  /-- 08 R247 | 1 | 0 | ENABLE, the fleet-enable latch -/
  enable : Bool := false
  /-- 08 R246 | stops | none | stops in force, latest first -/
  stops : List Stop := []
  /-- 08 R246 | 4 | 0 | LAST_CAUSE -/
  lastCause : Nat := 0
  /-- 08 R242 | 1 | 0 | PIN_A_RUN -/
  pinA : Bool := false
  /-- 08 R242 | 1 | 0 | PIN_B_RUN -/
  pinB : Bool := false
  /-- 08 R242 | 1 | 0 | DISCREPANCY -/
  discrep : Bool := false
  /-- 08 R242 | 1 | 0 | both channels have read STOP since DISCREPANCY latched -/
  bothStop : Bool := false
  /-- 08 R243 | 1 | 0 | PIN_CYCLE_DUE -/
  cycleDue : Bool := false
  /-- 08 R243 | elapsed time | 0 | the latest full cycle of both channels -/
  cycleAt : Nat := 0
  /-- 08 R243 | 1 | 0 | channel A has read STOP since then -/
  cycA : Bool := false
  /-- 08 R243 | 1 | 0 | channel B has read STOP since then -/
  cycB : Bool := false
  /-- 08 R243 | elapsed time | none | the latest record of PIN_CYCLE_DUE -/
  cycleRec : Option Nat := none
  /-- 08 R237 | 16 | 0 | GO_GEN -/
  goGen : Nat := 0
  /-- 08 R229 | 24 | 0 | GO_IDX, latest revealed go index -/
  goIdx : Nat := 0
  /-- 08 R237 | 64 | 0 | BASE_EPOCH of the go generation -/
  goBase : Nat := 0
  /-- 08 R237 | 1 | 0 | the chain of the current go generation is being built -/
  goBusy : Bool := false
  /-- 08 R237 | 1 | 0 | the generator has handed over the go pebbles -/
  goBuilt : Bool := false
  /-- 08 R237 | 1 | 0 | a next go generation is being built -/
  goNextBusy : Bool := false
  /-- 08 R237 | 1 | 0 | ROLL: the next go generation is built and published -/
  roll : Bool := false
  /-- 08 R237 | 16 | 0 | STOP_GEN -/
  stopGen : Nat := 0
  /-- 08 R234 | 20 | 0 | STOP_IDX, latest revealed stop index -/
  stopIdx : Nat := 0
  /-- 08 R237 | 1 | 0 | the chain of the current stop generation is being built -/
  stopBusy : Bool := false
  /-- 08 R237 | 1 | 0 | the stop chain is built -/
  stopBuilt : Bool := false
  /-- 08 R237 | 1 | 0 | the next stop generation is being built -/
  stopNextBusy : Bool := false
  /-- 08 R237 | 1 | 0 | the next stop generation is built -/
  stopNext : Bool := false
  /-- 08 R227 | 128 per generation | 0 | go seeds of the chains whose pebbles the island holds -/
  goSeeds : Tab (List Byte) := []
  /-- 08 R227 | 128 per generation | 0 | stop seeds of the chains whose pebbles and reserved elements the island holds -/
  stopSeeds : Tab (List Byte) := []
  /-- 08 R228 | 5 | 0 | RESERVE, computed stop elements held -/
  reserve : Nat := 0
  /-- 08 R229 | 24 | restored | go high-water mark, backup RAM -/
  markGo : Nat := 0
  /-- 08 R229 | 20 | restored | stop high-water mark, backup RAM -/
  markStop : Nat := 0
  /-- 08 R229 | 16 + 16 | restored | generations the marks belong to (go, stop) -/
  markGen : Nat × Nat := (0, 0)
  /-- 08 R229 | 24 | DC 7 (0) | go mark in flash -/
  flashGo : Nat := 0
  /-- 08 R229 | 20 | DC 7 (0) | stop mark in flash -/
  flashStop : Nat := 0
  /-- 08 R229 | 4 | 0 | reveals since the latest flash write of the marks -/
  unflushed : Nat := 0
  /-- 15 R426 | 1 | 0 | TEST_ROOT: chains derive from the test root -/
  testRoot : Bool := false
  /-- 08 R238 | 9 | 0 | GO_COND -/
  goCond : BitVec 9 := 0
  /-- 08 R239 | 192 | 0 | latest frozen bitmap (BGL_BITMAPn) -/
  bitmap : BitVec 192 := 0
  /-- 08 R241 | 4 beacons | no token | the latest frozen beacons, newest first: bitmap when it carries a token -/
  beacons : List (Option (BitVec 192)) := []
  /-- 08 R239 | 7 per slot | 0 | BGL_SLOTn.COND -/
  slotCond : Tab (BitVec 7) := []
  /-- 08 R238 | 1 | 0 | a heartbeat naming the epoch being frozen arrived since the previous sampling -/
  hb : Option Word := none
  /-- 08 R240 | count | 0 | consecutive samplings with HEARTBEAT failed -/
  hbFail : Nat := 0
  /-- 08 R246 | count | 0 | consecutive samplings with HEARTBEAT -/
  hbGood : Nat := 0
  /-- 08 R235 | elapsed time | none | the earliest demand whose first burst has not gone out -/
  demandAt : Option Nat := none
  /-- 08 R235 | 1 | 0 | bursts go out in every stop window -/
  bursting : Bool := false
  /-- 08 R245 | 16 | 0 | LAT_LAST_US -/
  latLast : Nat := 0
  /-- 08 R245 | 16 | 0 | LAT_MAX_US -/
  latMax : Nat := 0
  /-- 08 R236 | 8 ports | see BurstPort | burst confirmation -/
  ports : Tab BurstPort := []
  /-- 08 R244 | pin | high impedance | STOP_OUT -/
  stopOut : StopOut := .hiZ
  /-- 08 R244 | 1 | 0 | island fault -/
  fault : Bool := false
  /-- 08 R230 | 72 bytes | empty | the token of the frozen beacon -/
  token : List Byte := []
  /-- 08 R233 | 26 bytes per port | empty | latest burst payload of each port -/
  burst : Tab (List Byte) := []
  /-- 16 R444 | 1 | 0 | no token until reset after UE, LEDGER or Orchard faults (R13, R32, R193) -/
  noToken : Bool := false
deriving DecidableEq, Repr

end Sys2Proof.Machine
end

