-- ==== Sys2Proof/Machine/Blocks/Hostside.lean ====
section
/-! DEFINITION. State of the host and local interfaces, mailboxes, command rings and transactions (chapters 12, 13 and
the transaction rules R40 to R49, R413 to R417). Each field's comment gives: rule | width | reset value | name. -/
namespace Sys2Proof.Machine

/-- A TX frame that waits for its egress timestamp (12 R364): its descriptors' lengths, its bytes, the instant of its
admission on the elapsed-time count, the lowest port it leaves by, and whether it leaves by several. -/
structure TsWait where
  lens : List Nat
  bytes : Nat
  since : Nat
  port : Nat
  multi : Bool
deriving DecidableEq, Repr

/-- A network ring of PF1 (12 R361): rings 0 to 7 transmit, 8 to 15 receive. -/
structure Nq where
  /-- 12 NQ_BASE | 64 | 0 | BASE -/
  base : Nat := 0
  /-- 12 NQ_SIZE | 4 | 8 | LOG2 -/
  log2 : Nat := 8
  /-- 12 NQ_HEAD | 12 | 0 | HEAD -/
  head : Nat := 0
  /-- 12 NQ_TAIL | 12 | 0 | TAIL -/
  tail : Nat := 0
  /-- 12 R365 | 1 | 0 | NQ_CTRL.EN -/
  en : Bool := false
  /-- 12 R366 | 1 | 0 | NQ_CTRL.ERR -/
  err : Bool := false
  /-- 12 R365 | 1 | 1 | NQ_CTRL.STOPPED -/
  stopped : Bool := true
  /-- 12 R361 | 10 | 0 | NQ_CTRL.ITR_US -/
  itr : Nat := 0
  /-- 12 R361 | elapsed time | none | latest message of the ring -/
  msgAt : Option Nat := none
  /-- 12 R361 | 1 | 0 | a write-back is held back by ITR_US -/
  held : Bool := false
  /-- 12 R362 | registers | 192 and 64 (D = 256) | QSTAT, QWM, QCNT, QDROP -/
  q : RingQ := { hi := 192, lo := 64 }
  /-- 12 R364 | frame | none | a TX frame that waits for its egress timestamp -/
  tsWait : Option TsWait := none
  /-- 12 R365 | 16 | 0 | frames dropped at admission since the previous write-back -/
  drops : Nat := 0
  /-- 14 IF_STATUS | 32 | 0 | DMA errors -/
  errs : Nat := 0
deriving DecidableEq, Repr

/-- State of a CAN port (12 R370). -/
inductive CanSt where
  | active | busOff
deriving DecidableEq, Repr

/-- An acceptance filter (12 R371). -/
structure CanFilt where
  en : Bool := false
  ide : Bool := false
  id : Nat := 0
  mask : Nat := 0
deriving DecidableEq, Repr

/-- A received CAN frame with its start-of-frame timestamp. -/
structure CanRx where
  ts : Nat
  frame : CanFrame
deriving DecidableEq, Repr

/-- A CAN frame, or an ISOBUS message with its transport, queued to send (12 R372, R374), with its command. -/
structure CanTx where
  id : Nat
  ide : Bool
  rtr : Bool
  fd : Bool
  brs : Bool
  isb : Bool
  data : List Byte
  path : Path
  tag : BitVec 8
deriving DecidableEq, Repr

/-- An ISOBUS message (12 R374, 14 ISB_READ). -/
structure IsbMsg where
  ts : Nat
  sa : Nat
  da : Nat
  pgn : Nat
  prio : Nat
  data : List Byte
deriving DecidableEq, Repr

/-- A CAN port with its ISOBUS function. -/
structure Can where
  /-- 12 R370 | 1 | DC 7 (0) | EN -/
  en : Bool := false
  /-- 12 R370 | 1 | DC 7 (0) | FD_EN -/
  fdEn : Bool := false
  /-- 12 R370 | 7 | DC 7 (0) | NOM_SP -/
  nomSp : Nat := 0
  /-- 12 R370 | 7 | DC 7 (0) | DATA_SP -/
  dataSp : Nat := 0
  /-- 12 R370 | 32 | DC 7 (0) | NOM_BPS -/
  nomBps : Nat := 0
  /-- 12 R370 | 32 | DC 7 (0) | DATA_BPS -/
  dataBps : Nat := 0
  /-- 12 R370 | 1 | ERROR ACTIVE | bus state -/
  st : CanSt := .active
  /-- 12 R371 | 32 filters | DC 7 (off) | acceptance filters -/
  filts : Tab CanFilt := []
  /-- 12 R371 | 512 frames | empty | receive queue -/
  rxq : Queue CanRx := { depth := 512 }
  /-- 12 R372 | 32 frames | empty | frames queued to send, in order of submission -/
  txq : List CanTx := []
  /-- 14 IF_STATUS | 32 | 0 | bus-off entries -/
  offs : Nat := 0
  /-- 14 IF_STATUS | 32 | 0 | frames sent -/
  sent : Nat := 0
  /-- 14 IF_STATUS | 32 | 0 | retransmissions -/
  retries : Nat := 0
  /-- 12 R373 | 1 | DC 7 (0) | ISOBUS mode -/
  isb : Bool := false
  /-- 12 R373 | 8 | DC 7 (0) | PREF_ADDR -/
  pref : Nat := 0
  /-- 12 R373 | 64 | DC 7 (0) | NAME -/
  name : BitVec 64 := 0
  /-- 12 R373 | 8 × 8 | DC 7 (unused) | ALT addresses -/
  alts : List Nat := []
  /-- 12 R374 | 8 entries | DC 7 (off) | PGN list -/
  pgns : Tab (Option Nat) := []
  /-- 12 R373 | 8 | 254 | claimed address; 254 when none is held -/
  addr : Nat := 254
  /-- 12 R373 | 4 | 0 | next alternate to claim -/
  nextAlt : Nat := 0
  /-- 12 R374 | 512 messages: DC 7 | empty | reassembled messages -/
  isbq : Queue IsbMsg := { depth := 512 }
deriving DecidableEq, Repr

/-- A host transfer of an SMBus master in progress or waiting (12 R375). -/
structure SmbReq where
  path : Path
  tag : BitVec 8
  addr : Nat
  wlen : Nat
  rlen : Nat
  pec : Bool
  fast : Bool
  buf : Nat
deriving DecidableEq, Repr

/-- An SMBus master. -/
structure Smb where
  /-- 12 R375 | transfers | empty | host transfers in progress or waiting -/
  q : List SmbReq := []
  /-- 14 IF_STATUS | 3 × 32 | 0 | NACK, timeout and PEC failures -/
  fails : Tab Nat := []
deriving DecidableEq, Repr

/-- A GPIO pin. -/
structure Pin where
  /-- 12 R380 | 2 | DC 7 (0 input) | DIR -/
  dir : Nat := 0
  /-- 12 R380 | 2 | DC 7 (0 none) | PULL -/
  pull : Nat := 0
  /-- 12 R380 | 2 | DC 7 (0 none) | EDGE -/
  edge : Nat := 0
deriving DecidableEq, Repr

/-- An ADC block (12 R377). -/
structure AdcBlk where
  ts : Nat
  words : List Nat
deriving DecidableEq, Repr

/-- Limits of an ADC channel. -/
structure AdcLim where
  en : Bool := false
  lo : Nat := 0
  hi : Nat := 4095
  /-- Consecutive sequences with a code outside the limits. -/
  out : Nat := 0
deriving DecidableEq, Repr

/-- The interfaces of chapter 12. -/
structure Ifc where
  /-- 12 R354 | 1 | 0 | PCIe link up -/
  pcie : Bool := false
  /-- 12 R354 | 3 | 0 | PCIe link speed, generation -/
  pcieGen : Nat := 0
  /-- 12 R354 | 3 | 0 | PCIe link width -/
  pcieWidth : Nat := 0
  /-- 14 IF_STATUS | 32 | 0 | AER counts (correctable, non-fatal, fatal) -/
  aer : Tab Nat := []
  /-- 12 R361 | 16 rings | see Nq | network rings -/
  nq : Tab Nq := []
  /-- 12 R368 | 1 | 0 | SPIH status CRC_ERR -/
  spiCrc : Bool := false
  /-- 12 R368 | 1 | 0 | SPIH status WRITE_REFUSED -/
  spiWr : Bool := false
  /-- 12 R368 | 1 | 0 | SPIH status READ_REFUSED -/
  spiRd : Bool := false
  /-- 14 IF_STATUS | 32 | 0 | SPIH frame errors -/
  spiErrs : Nat := 0
  /-- own 4 | bytes | empty | MISO bytes of the latest SPIH transfer: status, data, CRC-8 -/
  miso : List Byte := []
  /-- 12 R369 | 22 | 115,200 | BAUD -/
  baud : Nat := 115200
  /-- 12 R369 | 32 | 0 | UART frames discarded -/
  uartErrs : Nat := 0
  /-- 12 R370 | 4 ports | see Can | CAN ports -/
  can : Tab Can := []
  /-- 12 R375 | 2 masters | see Smb | SMBus masters -/
  smb : Tab Smb := []
  /-- 12 R380 | 32 pins | see Pin | GPIO configuration -/
  pins : Tab Pin := []
  /-- 12 R380 | 32 | DC 7 (0) | levels driven by GPIO_WRITE -/
  drive : BitVec 32 := 0
  /-- 12 R381 | 32 | DC 7 (0) | levels of the GPIO balls as sensed -/
  level : BitVec 32 := 0
  /-- 12 R377 | 5 | DC 7 (0, no sequence) | N -/
  adcN : Nat := 0
  /-- 12 R377 | 20 | DC 7 (0) | PERIOD_US -/
  adcPeriod : Nat := 0
  /-- 12 R377 | 20 | DC 7 (0) | OFFSET_US -/
  adcOffset : Nat := 0
  /-- 12 R377 | TAI | none | start of the latest sequence, which CMP6 starts once (02 R57) -/
  adcAt : Option Nat := none
  /-- 12 R377 | 16 × 3 | DC 7 (0) | SEQ -/
  adcSeq : List Nat := []
  /-- 12 R377 | 8 channels | DC 7 (off) | LO, HI, LIM_EN -/
  adcLim : Tab AdcLim := []
  /-- 12 R377 | 1,024 blocks | empty | ADC queue -/
  adcq : Queue AdcBlk := { depth := 1024 }
deriving DecidableEq, Repr

/-- One end of a mailbox channel: the slot this end sends in, and its registers (13). -/
structure MEnd where
  /-- 13 R388 | 16 × 32 | 0 | OUT_MSG words -/
  msg : List Word := List.replicate 16 0
  /-- 13 R387 | 1 | 0 | OUT_FULL: posted and not yet freed -/
  full : Bool := false
  /-- 13 R389 | 1 | 0 | OUT_TAKEN -/
  taken : Bool := false
  /-- 13 R390 | 32 | 0 | OUT_ACK: CODE, TAG, RLEN, DONE in bit 31 -/
  ack : Word := 0
  /-- 13 R391 | 32 | 0 | DB_IN -/
  dbIn : Word := 0
  /-- 13 R391 | 32 | 0 | DB_MASK -/
  dbMask : Word := 0
  /-- 13 R392 | 1 | 0 | WAITING -/
  waiting : Bool := false
  /-- 13 R392 | 1 | 0 | CROSSED_SEEN -/
  crossedSeen : Bool := false
  /-- 13 R388 | 1 | 0 | WRITE_REJECT -/
  reject : Bool := false
  /-- 13 R394 | 1 | 0 | TIMEOUT -/
  timeout : Bool := false
  /-- 13 R394 | 1 | 0 | TAKEN_LATE -/
  late : Bool := false
  /-- 13 R389 | 1 | 0 | ACK_ERR -/
  ackErr : Bool := false
  /-- 13 MBX_CFG | 1 | 0 | CFG_ERR -/
  cfgErr : Bool := false
  /-- 13 MBX_CFG | 14 | 1,000 | ACK_TMO_MS -/
  tmo : Nat := 1000
  /-- 13 R394 | elapsed time | none | instant at which the posted message times out -/
  dueAt : Option Nat := none
deriving DecidableEq, Repr

/-- Counts of a command path (CMD_PATH_STATUS). -/
structure PathCnt where
  accepted : Nat := 0
  reject : Nat := 0
  timeout : Nat := 0
  late : Nat := 0
  crossed : Nat := 0
  cmdTmo : Nat := 0
  peak : Nat := 0
  /-- Outcomes at orders 1 to 8 of R397. -/
  orders : Tab Nat := []
deriving DecidableEq, Repr

/-- The mailboxes. -/
structure Mbx where
  /-- 13 R383 | 32 channels | see MEnd | ends of the channels, key 2 × channel + (0 A, 1 B) -/
  ends : Tab MEnd := []
  /-- 13 R386 | 4 × 352 bytes | DC 9 (0) | transfer areas of channels 8 to 11, bytes other than 0 -/
  xfer : Tab (Tab Byte) := []
  /-- 13 R383 | 1 | 0 | the binding table is locked -/
  locked : Bool := false
  /-- 13 R385 | 1 | 0 (default table) | channel 11 is SPIH ↔ SEC -/
  bind11 : Bool := false
  /-- 13 R385 | 1 | 0 (default table) | channel 12 is DBG ↔ SUP -/
  bind12 : Bool := false
  /-- 13 R385 | 2 | none | binding record stored in the vault area -/
  bindRec : Option (Bool × Bool) := none
  /-- 13 R406 | counts | 0 | counts per path: channels 0 to 31, rings 32 to 47, management 48, SITE 49 -/
  cnts : Tab PathCnt := []
  /-- 13 R395 | commands | empty | channel and tag of the commands that still owe their ASYNC_DONE -/
  owed : List (Nat × BitVec 8) := []
  /-- 12 R357 | commands | empty | those of them whose completion is discarded, after a reset of PF0 -/
  orphans : List (Nat × BitVec 8) := []
deriving DecidableEq, Repr

/-- A command of a ring in flight (13 R399 to R403). -/
structure Flight where
  tag : BitVec 8
  op : Nat
  idx : Nat
  /-- Elapsed time at which CMD_TIMEOUT falls due; none after the first completion. -/
  dueAt : Option Nat
  /-- An interim completion has been written. -/
  interim : Bool := false
  /-- CMD_TIMEOUT has been written: the late result is discarded. -/
  lost : Bool := false
  /-- The completion is discarded and recorded (R357, R405). -/
  discard : Bool := false
deriving DecidableEq, Repr

/-- A command ring. -/
structure Ring where
  /-- 13 CR_SQ_BASE | 64 | 0 | SQ base -/
  sqBase : Nat := 0
  /-- 13 CR_CQ_BASE | 64 | 0 | CQ base -/
  cqBase : Nat := 0
  /-- 13 CR_SIZE | 4 | 8 | SQ_LOG2 -/
  sqLog : Nat := 8
  /-- 13 CR_SIZE | 4 | 10 | CQ_LOG2 -/
  cqLog : Nat := 10
  /-- 13 CR_SQ_TAIL | 12 | 0 | SQ tail -/
  sqTail : Nat := 0
  /-- 13 CR_SQ_HEAD | 12 | 0 | SQ head -/
  sqHead : Nat := 0
  /-- 13 CR_CQ_HEAD | 12 | 0 | CQ head -/
  cqHead : Nat := 0
  /-- 13 CR_CQ_TAIL | 12 | 0 | CQ tail -/
  cqTail : Nat := 0
  /-- 13 CR_CQ_TAIL | 1 | 1 | PHASE -/
  phase : Bool := true
  /-- 13 R405 | 1 | 0 | EN -/
  en : Bool := false
  /-- 13 R401 | 10 | 0 | COAL_US -/
  coal : Nat := 0
  /-- 13 R403 | 14 | 2,000 | TMO_MS -/
  tmo : Nat := 2000
  /-- 13 R405 | 1 | 0 | ERR -/
  err : Bool := false
  /-- 13 R399 | 1 | 0 | THROTTLED -/
  throttled : Bool := false
  /-- 13 R399 | up to 256 | empty | tags in flight, oldest first; INFLIGHT is their number, STOPPED follows from it -/
  flight : List Flight := []
  /-- 13 R404 | registers | 768 and 256 (D = 1,024) | QSTAT, QWM, QCNT, QDROP -/
  q : RingQ := { hi := 768, lo := 256 }
  /-- 13 R401 | elapsed time | none | latest message of the ring -/
  msgAt : Option Nat := none
  /-- 13 R401 | 1 | 0 | a completion's vector is held back by COAL_US -/
  held : Bool := false
deriving DecidableEq, Repr

/-- The command rings. -/
structure Cr where
  /-- 13 R398 | 16 rings | see Ring | rings -/
  rings : Tab Ring := []
deriving DecidableEq, Repr

/-- A staged command (01 R41). -/
structure Staged where
  op : Op
  cmd : Cmd
deriving DecidableEq, Repr

/-- State of an arrival port's transaction (14 TXN_STATUS), in code order: NONE, OPEN, EXPIRED; a committed transaction
stands in the list of committed ones. -/
inductive TxnSt where
  | none | opened | expired
deriving DecidableEq, Repr

/-- An arrival port: 0 HPF0, 1 HPF1, 2 SPIH, 3 SITE, 4 channel 12. -/
structure TPort where
  /-- 01 R40 | 2 | NONE | state -/
  st : TxnSt := .none
  /-- 01 R41 | 64 | empty | staged commands in staging order -/
  staged : List Staged := []
  /-- 01 R44 | elapsed time | 0 | TXN_BEGIN -/
  beganAt : Nat := 0
  /-- 14 TXN_STATUS | 16 | 0 | TXN_ID -/
  id : Nat := 0
deriving DecidableEq, Repr

/-- A committed transaction (01 R42). -/
structure Comm where
  port : Nat
  id : Nat
  staged : List Staged
  /-- Full count of the target epoch. -/
  target : Nat
  beganAt : Nat
  /-- The TXN_COMMIT to complete. -/
  path : Path
  tag : BitVec 8
  /-- Staging index and grant identifier of each staged ORC_REQUEST (R46, R180). -/
  grants : List (Nat × Nat) := []
deriving DecidableEq, Repr

/-- Transactions. -/
structure Txn where
  /-- 01 R40 | 5 ports | see TPort | arrival ports -/
  ports : Tab TPort := []
  /-- 01 R42 | list | empty | committed transactions in order of commit; their fields are locked (R45) -/
  committed : List Comm := []
  /-- 14 TXN_BEGIN | 16 | 0 | transactions since reset -/
  count : Nat := 0
deriving DecidableEq, Repr

end Sys2Proof.Machine
end

