-- ==== Sys2Proof/Machine/Blocks/Net.lean ====
section
/-! DEFINITION. State of the radio ports and of the Ethernet switch (chapters 09, 10 and R411, R412). Each field's
comment gives: rule | width | reset value | name. -/
namespace Sys2Proof.Machine

/-- A ZFL container (09 R262) waiting for or placed in a downlink frame. -/
structure Cont where
  typ : Nat
  data : List Byte
  /-- Epochs in which it has been sent (R271). -/
  sent : Nat := 0
  /-- Epoch mark: it has been placed in this epoch's plan. -/
  placed : Bool := false
  /-- The RAD_APP_SEND it belongs to: its path and tag. -/
  app : Option (Path × BitVec 8) := none
deriving DecidableEq, Repr

/-- A planned or strobed downlink frame (09 R270). -/
structure DlFrame where
  /-- Destination short address. -/
  dst : Nat
  /-- Air slot and strobe, µs from its boundary. -/
  air : Nat
  at_ : Nat
  /-- MPDU bytes. -/
  len : Nat
  conts : List Cont
  /-- 3 downlink, 4 WAKE_SYNC. -/
  kind : Nat := 3
  /-- It is the one retransmission of R271. -/
  again : Bool := false
  seq : Byte := 0
  cnt : Nat := 0
deriving DecidableEq, Repr

/-- An item of RXQ (09 R288): a header item or a data item. -/
structure RxItem where
  header : Bool
  app : Bool := false
  len : Nat := 0
  ts : Nat := 0
  rssi : Int := 0
  lqi : Nat := 0
  epoch : Word := 0
  air : Nat := 0
  flags : BitVec 6 := 0
  src : BitVec 16 := 0
  bytes : List Byte := []
deriving DecidableEq, Repr

/-- A record of TXTS (09 R288). -/
structure TxItem where
  kind : Nat
  dst : Nat
  cnt : Nat := 0
  ts : Nat := 0
  epoch : Word := 0
  air : Nat := 0
  result : Nat := 0
deriving DecidableEq, Repr

/-- A radio port. -/
structure RPort where
  /-- 09 R290 | 1 | DC 7 (0) | PRESENT -/
  present : Bool := false
  /-- 09 R254 | 1 | DC 7 (0) | RATE: 4 bits/µs -/
  rate4 : Bool := false
  /-- 09 R254 | 1 | DC 7 (0) | PHR32 -/
  phr32 : Bool := false
  /-- 09 R254 | 7 | DC 7 (0) | SHR_US -/
  shr : Nat := 0
  /-- 09 R254 | 8 | DC 7 (0) | T_START_US -/
  tStart : Nat := 0
  /-- 09 R290 | 4 | 12 | DL_SLOTS -/
  dlSlots : Nat := 12
  /-- 09 R290 | 6 | DC 7 (10) | SPI_MHZ -/
  spiMhz : Nat := 10
  /-- 09 R254 | 16 | DC 7 (0) | T_TXLAT_NS -/
  txLat : Nat := 0
  /-- 09 R254 | 16 | DC 7 (0) | T_RXLAT_NS -/
  rxLat : Nat := 0
  /-- 09 R290 | 8 | DC 7 (0) | CHANNEL -/
  channel : Nat := 0
  /-- 09 R290 | 1 | 0 | the port is enabled -/
  en : Bool := false
  /-- 09 R252 | 8 images | DC 7 (empty) | scripts INIT to IDLE -/
  scripts : Tab (List Byte) := []
  /-- 14 R419 | numbers | empty | scripts run by the latest enable or disable -/
  ran : List Nat := []
  /-- 09 R288 | 2 | 0 (none) | RAD_RAW_SEL -/
  rawSel : Nat := 0
  /-- 09 R288 | 1,024 items | empty | RXQ -/
  rxq : Queue RxItem := { depth := 1024 }
  /-- 09 R288 | 256 items | empty | TXTS -/
  txts : Queue TxItem := { depth := 256 }
  /-- 09 R288 | 256 per master | 0 | RXQ_DATA latched by a read of word 0 -/
  rxLatch : Tab Nat := []
  /-- 09 R288 | 256 per master | 0 | TXTS_DATA latched by a read of word 0 -/
  txLatch : Tab Nat := []
  /-- 09 R270 | frames | empty | the downlink plan still to be strobed, in order -/
  plan : List DlFrame := []
  /-- 09 R266 | frame | none | the strobed base frame whose acknowledgement is awaited -/
  awaiting : Option DlFrame := none
  /-- 09 R271 | slot, µs | 0 | first free place after the plan -/
  planEnd : Nat × Nat := (0, 0)
  /-- 09 R258 | 8 | 0 | sequence number of the next base frame -/
  seq : Byte := 0
  /-- own 4 | 1 | 0 | frame pending of the latest acknowledgement sent (R267) -/
  ackFp : Bool := false
  /-- own 4 | 8 | 0 | sequence number echoed in the latest acknowledgement sent (R266) -/
  ackSeq : Byte := 0
  /-- 14 RAD_STATUS | 32 | 0 | frames sent -/
  sent : Nat := 0
  /-- 14 RAD_STATUS | 32 | 0 | uplinks received -/
  uplinks : Nat := 0
  /-- 09 R260 | 9 × 32 | 0 | drops at checks 1 to 9 -/
  drops : Tab Nat := []
  /-- 09 R271 | 32 | 0 | DL_OVERRUN -/
  dlOverrun : Nat := 0
  /-- 14 RAD_STATUS | 32 | 0 | base frames unacknowledged -/
  unacked : Nat := 0
  /-- 09 R253 | 32 | 0 | ABORTED -/
  aborted : Nat := 0
  /-- 14 RAD_STATUS | 32 | 0 | missing burst confirmations -/
  missBurst : Nat := 0
deriving DecidableEq, Repr

/-- State of a machine slot's registration (09 R273), in code order. -/
inductive RsSt where
  | unbound | bound | registering | active | silent
deriving DecidableEq, Repr

/-- A machine slot on the radio. -/
structure RSlot where
  /-- 09 R273 | 3 | UNBOUND | state -/
  st : RsSt := .unbound
  /-- 09 R268 | 16 | DC 7 (0) | KEY_GEN -/
  keyGen : Nat := 0
  /-- 09 R259 | 64 | DC 7 (0) | EXT_ADDR -/
  ext : BitVec 64 := 0
  /-- 09 R261 | 1 | DC 7 (1) | the agreed version is 2; the device's own version before any agreement -/
  ver2 : Bool := true
  /-- 09 R274 | 32 | 0 | CHALLENGE of the latest REG_ACCEPT -/
  challenge : Word := 0
  /-- 06 R189 | elapsed time | 0 | the slot became ACTIVE -/
  activeAt : Nat := 0
  /-- 09 R275 | 8 | 0 | missed uplinks in a row -/
  missed : Nat := 0
  /-- 09 R275 | 1 | 0 | an uplink has been received in this epoch's air slot -/
  got : Bool := false
  /-- 09 R273 | 7 | 0 | epochs spent REGISTERING -/
  regEpochs : Nat := 0
  /-- 09 R269 | 32 | DC 7 (0) | transmit counter, backup RAM -/
  txCnt : Nat := 0
  /-- 09 R269 | 32 | DC 7 (0) | receive mark, backup RAM -/
  rxMark : Nat := 0
  /-- 09 R269 | 32 | DC 7 (0) | transmit counter in the settings area -/
  flashTx : Nat := 0
  /-- 09 R269 | 32 | DC 7 (0) | receive mark in the settings area -/
  flashRx : Nat := 0
  /-- 14 RAD_SLOT_STATUS | 8 | 0 | last RSSI -/
  rssi : Int := 0
  /-- 14 RAD_SLOT_STATUS | 8 | 0 | last LQI -/
  lqi : Nat := 0
  /-- 09 R274 | 4 × 16 | 0 | generations confirmed: go, next go, stop, next stop -/
  gens : List Nat := [0, 0, 0, 0]
  /-- 09 R270 | containers | empty | containers queued besides WINDOW and FIX -/
  queue : List Cont := []
  /-- 09 R274 | 1 | 0 | a REG_NEEDED has been queued in this epoch -/
  needed : Bool := false
  /-- 09 R271 | 32 | 0 | DL_OVERRUN of the slot -/
  dlOverrun : Nat := 0
deriving DecidableEq, Repr

/-- State of a sleeping partner, in the order of RAD_PARTNER_STATUS. -/
inductive PtSt where
  | none | synced | missed | lost
deriving DecidableEq, Repr

/-- A sleeping partner. -/
structure Partner where
  /-- 09 R278 | 2 | unconfigured | state -/
  st : PtSt := .none
  /-- 09 R278 | 6 | DC 7 (0) | PSLOT -/
  pslot : Nat := 0
  /-- 09 R268 | 16 | DC 7 (0) | KEY_GEN -/
  keyGen : Nat := 0
  /-- 09 R259 | 64 | DC 7 (0) | EXT_ADDR -/
  ext : BitVec 64 := 0
  /-- 09 R278 | 16 | DC 7 (0) | PERIOD -/
  period : Nat := 0
  /-- 09 R278 | 16 | DC 7 (0) | PHASE -/
  phase : Nat := 0
  /-- 09 R281 | 3 | 0 | misses in a row -/
  misses : Nat := 0
  /-- 09 R281 | 16 | 0 | guard G doubled after a miss, ns, when one stands -/
  guard : Option Nat := .none
  /-- 09 R280 | ppb | 0 | learned drift d -/
  drift : Int := 0
  /-- 09 R280 | ppb | 20,000 | σ_p -/
  sigma : Nat := 20000
  /-- 09 R280 | 8 rates | empty | latest rates, ppb, newest first -/
  rates : List Int := []
  /-- 09 R280 | elapsed time | 0 | latest synchronisation -/
  syncAt : Nat := 0
  /-- 09 R280 | 1 | 0 | the interval since then included NIGHT -/
  night : Bool := false
  /-- 09 R269 | 32 | DC 7 (0) | transmit counter -/
  txCnt : Nat := 0
  /-- 09 R269 | 32 | DC 7 (0) | receive mark -/
  rxMark : Nat := 0
  /-- 09 R281 | 10 | 0 | epochs since LOST, up to 600 -/
  lostEpochs : Nat := 0
  /-- 09 R279 | 3 values | none | the open wake window: its ends in ns from the epoch's start, and its guard G, ns -/
  window : Option (Int × Int × Nat) := .none
  /-- 09 R279 | full epoch | none | epoch of the latest wake window -/
  lastWake : Option Nat := .none
  /-- 09 R281 | full epoch | none | epoch of the latest WAKE_SYNC to the LOST partner -/
  lostSent : Option Nat := .none
  /-- 09 R289 | containers | empty | queued APP containers -/
  queue : List Cont := []
deriving DecidableEq, Repr

/-- The radio subsystem. -/
structure Rad where
  /-- 09 R259 | 16 | DC 7 (0) | PAN_ID -/
  pan : BitVec 16 := 0
  /-- 09 R252 | 8 ports | see RPort | ports -/
  ports : Tab RPort := []
  /-- 09 R273 | 192 slots | see RSlot | machine slots -/
  slots : Tab RSlot := []
  /-- 09 R278 | 512 partners | see Partner | partners, key 64 × port + index -/
  partners : Tab Partner := []
  /-- 09 R283 | 1 | DC 7 (0) | FOLLOWER -/
  follower : Bool := false
  /-- 09 R285 | 1 | DC 7 (0) | STANDBY -/
  standby : Bool := false
  /-- 09 R283 | 3 | DC 7 (0) | FOLLOW_PORT -/
  followPort : Nat := 0
  /-- 09 R283 | 17 | DC 7 (0) | PROP_NS -/
  propNs : Nat := 0
  /-- 09 R283 | 1 | 0 | RELAYING -/
  relaying : Bool := false
  /-- 09 R284 | 1 | 0 | HOLDOVER of the follower -/
  holdover : Bool := false
  /-- 09 R284 | 2 | 0 | consecutive epochs without a received beacon -/
  missedBeacons : Nat := 0
  /-- 09 R284 | 2 | 0 | consecutive received beacons -/
  goodBeacons : Nat := 0
  /-- 09 R283 | 1 | 0 | a beacon has been received in this epoch -/
  heard : Bool := false
  /-- 09 R285 | 1 | 0 | PROMOTED -/
  promoted : Bool := false
  /-- 09 R285 | 1 | 0 | promotion waits for the next boundary -/
  promoteNext : Bool := false
  /-- 09 R286 | 1 | 0 | the return to FOLLOWER waits for the next boundary -/
  demoteNext : Bool := false
  /-- 09 R280 | 4 values per bin | empty | XO32K residual drift, ppb, by die-temperature bin of 8 °C -/
  drift32 : Tab (List Int) := []
  /-- 09 R280 | ns | none | NIGHT duration whose residual drift is still to be learned -/
  nightLen : Option Nat := none
  /-- 09 R270 | full epoch | none | epoch of the latest downlink plan -/
  planFor : Option Nat := none
  /-- 09 R263 | bytes | empty | the frozen beacon body of the coming epoch -/
  beacon : List Byte := []
  /-- 09 R263 | 1 | 0 | NIGHT_NEXT of the frozen beacon -/
  nightNext : Bool := false
deriving DecidableEq, Repr

/-- A MACsec SA of port E0 or E1 (10 R315). -/
structure Sa where
  sci : BitVec 64
  slot : Nat
  pn : Nat
  exhausted : Bool := false
deriving DecidableEq, Repr

/-- A frame in an egress queue (10 R313). -/
structure QFrame where
  cells : Nat
  /-- Ingress port and ingress priority whose cells it holds. -/
  src : Nat
  prio : Nat
  /-- 0 FLEET reserve, 1 headroom, 2 shared pool: cells drawn from each, in the order of use. -/
  fromFleet : Nat
  fromHead : Nat
  fromShared : Nat
  fleet : Bool
  /-- Received under a validated MACsec SA. -/
  secured : Bool
  /-- Ingress timestamp and arrival on the TAI count, 2^-32 ns. -/
  rxTs : Nat
  came : Nat
  /-- TX ring whose write-back waits for its egress timestamp. -/
  tsRing : Option Nat
  /-- The frame with its classified VID and PCP as its tag. -/
  frame : EthFrame
deriving DecidableEq, Repr

/-- An Ethernet port of the switch. -/
structure EPort where
  /-- 10 R321 | 2 | DC 7 (0 on E0 and E1, 2 on E2 to E5) | MODE -/
  mode : Nat := 0
  /-- 10 R292 | 1 | DC 7 (0) | AUTO_FALLBACK -/
  fallback : Bool := false
  /-- 10 R314 | 2 | DC 7 (NONE) | FC -/
  fc : Nat := 0
  /-- 10 R314 | 8 | DC 7 (0) | PFC_MASK -/
  pfcMask : BitVec 8 := 0
  /-- 10 R300 | 1 | DC 7 (0) | LEARN -/
  learn : Bool := false
  /-- 10 R305 | 1 | DC 7 (0) | AUTO_FLUSH -/
  autoFlush : Bool := false
  /-- 10 R312 | 1 | DC 7 (0) | TRUST_DSCP -/
  trustDscp : Bool := false
  /-- 10 R316 | 1 | DC 7 (0) | TC -/
  tc : Bool := false
  /-- 10 R315 | 1 | DC 7 (0) | PTP_BYPASS -/
  ptpBypass : Bool := false
  /-- 10 R292 | 12 | 1,522 | MAX_FRAME -/
  maxFrame : Nat := 1522
  /-- 10 R321 | 12 | DC 7 (1) | PVID -/
  pvid : Nat := 1
  /-- 10 R300 | 17 | DC 7 (0, no limit) | MAX_LEARN -/
  maxLearn : Nat := 0
  /-- 10 R316 | 16 | DC 7 (0) | EXT_TX_LAT_NS -/
  extTx : Nat := 0
  /-- 10 R316 | 16 | DC 7 (0) | EXT_RX_LAT_NS -/
  extRx : Nat := 0
  /-- 10 R316 | 32 | DC 7 (0) | ASYM_PS -/
  asym : Int := 0
  /-- 10 R321 | 1 | DC 7 (0) | EN -/
  en : Bool := false
  /-- 10 R294 | 1 | 0 | LINK -/
  link : Bool := false
  /-- 14 SW_STATUS | 2 | 0 | speed: 0 10 or 100, 1 1,000, 2 2,500, 3 10,000 Mbit/s -/
  speed : Nat := 0
  /-- 10 R292 | 1 | 0 | a 10GBASE-R port has fallen back to 1000BASE-X -/
  fellBack : Bool := false
  /-- 10 R312 | 8 × 3 | identity | PCP_MAP -/
  pcpMap : List Nat := [0, 1, 2, 3, 4, 5, 6, 7]
  /-- 10 R312 | 6 × 7 | 16 | WEIGHT0 to WEIGHT5 -/
  weights : List Nat := [16, 16, 16, 16, 16, 16]
  /-- 10 R313 | 14 | 1,024 | QLIMIT -/
  qlimit : Nat := 1024
  /-- 10 R311 | 14 | DC 7 (0) | HEADROOM -/
  headroom : Nat := 0
  /-- 10 R314 | 14 | DC 7 (1) | XOFF_CELLS -/
  xoffCells : Nat := 1
  /-- 10 R314 | 14 | DC 7 (0) | XON_CELLS -/
  xonCells : Nat := 0
  /-- 10 R314 | 8 counts | 0 | ingress cells held per priority -/
  held : Tab Nat := []
  /-- 10 R311 | 8 counts | 0 | headroom cells in use per priority -/
  headUsed : Tab Nat := []
  /-- 10 R314 | 8 | 0 | priorities whose XOFF stands -/
  xoff : BitVec 8 := 0
  /-- 10 R314 | 8 | 0 | egress queues stopped by received PAUSE or PFC -/
  stopped : BitVec 8 := 0
  /-- 10 R317 | 1 | 0 | NET frames are held back or dropped as LOOKUP until the lookup FIFO falls -/
  laneHold : Bool := false
  /-- 10 R312 | 9 queues | empty | egress queues 0 to 7, and 8 for FLEET frames -/
  queues : Tab (List QFrame) := []
  /-- 10 R312 | 6 deficits | 0 | deficit round robin: deficits of queues 0 to 5, cells -/
  deficits : Tab Nat := []
  /-- 10 R312 | 3 | 5 | queue whose turn it is -/
  turn : Nat := 5
  /-- 10 R296 | window, count | 0 | FLEET frames in the current second -/
  fleetSec : Nat × Nat := (0, 0)
  /-- 10 R294 | 24 counts | 0 | drop reasons and counts in the order of SW_STATUS pages 1 to 3 -/
  counts : Tab Nat := []
  /-- 14 SW_STATUS | 32 | 0 | frames received -/
  rx : Nat := 0
  /-- 14 SW_STATUS | 32 | 0 | frames sent -/
  tx : Nat := 0
  /-- 14 SW_STATUS | 32 | 0 | flushes -/
  flushes : Nat := 0
  /-- 14 SW_STATUS | 32 | 0 | XOFF sent -/
  xoffSent : Nat := 0
  /-- 10 R315 | 10 SAs | none | MACsec: transmit 0 to 1, receive 8 + 2 × SC + AN -/
  sas : Tab (Option Sa) := []
  /-- 10 R315 | 1 | 0 | association number that transmits -/
  txAn : Nat := 0
  /-- 10 R316 | 80 | 0 | latest egress timestamp -/
  txTs : Nat := 0
  /-- own 4 | frame | none | the frame sent last, as it left -/
  out : Option EthFrame := none
  /-- own 4 | 64 | 0 | addition to the correctionField of that frame, 2^-16 ns -/
  outCorr : Nat := 0
  /-- own 4 | 1 | 0 | that frame's originTimestamp was written at egress -/
  outOrigin : Bool := false
deriving DecidableEq, Repr

/-- A VLAN (10 R294). -/
structure Vlan where
  en : Bool := false
  learn : Bool := false
  members : BitVec 8 := 0
  untag : BitVec 8 := 0
deriving DecidableEq, Repr

/-- An L2 entry at its position (10 R297). -/
structure L2 where
  mac : BitVec 48
  vid : Nat
  mask : BitVec 8
  static : Bool := false
  drop : Bool := false
  cpu : Bool := false
  age : Nat := 0
deriving DecidableEq, Repr

/-- A table walk (10 R302 to R304). -/
structure Walk where
  cursor : Nat := 0
  vid : Option Nat := none
  ports : BitVec 8 := 0
  typ : Nat := 0
  /-- Copies with the position of their target, oldest first; at most 64. -/
  carry : List (Nat × L2) := []
  moved : Bool := false
  /-- Elapsed time of the latest use. -/
  used : Nat := 0
deriving DecidableEq, Repr

/-- An IPv4 route (10 R306). -/
structure Route where
  pfx : Word
  plen : Nat
  vid : Nat
  nh : Nat
deriving DecidableEq, Repr

/-- A next hop (10 R306). -/
structure Nh where
  port : Nat
  vid : Nat
  mac : BitVec 48
deriving DecidableEq, Repr

/-- An insertion held back by a full carry list (10 R302): a learn, or a command with its path and tag. -/
structure HeldIns where
  ent : L2
  port : Nat
  cmd : Option (Path × BitVec 8)
deriving DecidableEq, Repr

/-- A flush in progress (10 R305). -/
structure Flush where
  port : Nat
  static : Bool
  vid : Option Nat
  cmd : Option (Path × BitVec 8)
deriving DecidableEq, Repr

/-- A management frame's stored reply (14 R412): path, SEQ, instant and reply. -/
structure MgmtRep where
  hpf1 : Bool
  seq : Nat
  at_ : Nat
  tag : BitVec 8
  code : Rc
  words : List Word
deriving DecidableEq, Repr

/-- A management command in execution (14 R412): path, SEQ, tag. -/
structure MgmtCmd where
  hpf1 : Bool
  seq : Nat
  tag : BitVec 8
deriving DecidableEq, Repr

/-- The Ethernet switch. -/
structure Sw where
  /-- 10 R291 | 8 ports | see EPort | ports -/
  ports : Tab EPort := []
  /-- 14 SW_GLOBAL_CFG | 12 | DC 7 (1) | MGMT_VID -/
  mgmtVid : Nat := 1
  /-- 10 R301 | 20 | 300 | AGE_S -/
  ageS : Nat := 300
  /-- 10 R294 | 4,095 VLANs | DC 7 (none) | VLAN table -/
  vlans : Tab Vlan := []
  /-- 10 R312 | 64 × 3 | d >> 3 | DSCP map, where it departs from the default -/
  dscp : Tab (Option Nat) := []
  /-- 10 R297 | 65,536 entries | empty | L2 table by position -/
  l2 : Tab (Option L2) := []
  /-- 10 R299 | 16 | 0 | MOVE_GEN -/
  moveGen : Nat := 0
  /-- 10 R299 | 32 | 0 | L2_FULL -/
  l2Full : Nat := 0
  /-- 10 R302 | 4 walks | closed | open walks -/
  walks : Tab (Option Walk) := []
  /-- 10 R302 | insertions | empty | insertions held back -/
  heldIns : List HeldIns := []
  /-- 10 R300 | 1,024 | empty | learn notices of the PQ9096: MAC, VID, port -/
  notices : List (BitVec 48 × Nat × Nat) := []
  /-- 10 R305 | flushes | empty | flushes in progress -/
  flushQ : List Flush := []
  /-- 10 R306 | 4,096 routes | empty | TCAM: valid entries in position order -/
  tcam : List Route := []
  /-- 10 R306 | 1,024 | unset | next hops -/
  nhs : Tab (Option Nh) := []
  /-- 10 R306 | 16 | none | router interfaces: VID to router MAC -/
  rifs : Tab (Option (BitVec 48)) := []
  /-- 10 R309 | 1,024 × 16 | 0 | change counts of the L2 blocks -/
  l2Chg : Tab Nat := []
  /-- 10 R309 | 64 × 16 | 0 | change counts of the TCAM blocks -/
  tcChg : Tab Nat := []
  /-- 10 R309 | 1 | 0 | DIGEST_ERR -/
  digestErr : Bool := false
  /-- 10 R311 | count | 0 | FLEET reserve cells in use -/
  fleetUsed : Nat := 0
  /-- 10 R311 | count | 0 | shared cells in use -/
  sharedUsed : Nat := 0
  /-- 14 R412 | replies | empty | stored replies of management frames -/
  replies : List MgmtRep := []
  /-- 14 R412 | tags | empty | management commands in execution -/
  mgmtBusy : List MgmtCmd := []
  /-- 14 R412 | 32 | 0 | NO_TAG -/
  noTag : Nat := 0
  /-- 14 R412 | 32 | 0 | malformed management frames -/
  mgmtBad : Nat := 0
deriving DecidableEq, Repr

end Sys2Proof.Machine
end

