-- ==== Sys2Proof/Machine/Blocks/Plat.lean ====
section
/-! DEFINITION. State of the event scheduler and of Bellows (chapter 11 and R484). Each field's comment gives: rule |
width | reset value | name. -/
namespace Sys2Proof.Machine

/-- What the completion of a command event delivers (R390, R401): path, tag, code and response words. -/
structure Due where
  path : Path
  tag : BitVec 8
  code : Rc
  words : List Word
  epoch : Word
deriving DecidableEq, Repr

/-- An admitted event, holding an entry of ledger pool 4 (11 R326). -/
structure Ent where
  cls : Nat
  domain : Nat
  source : Nat
  /-- 0 SAFETY reserve, 1 FLEET reserve, 2 MEASURE reserve, 3 shared pool. -/
  pool : Nat
  /-- Order of admission. -/
  order : Nat
  /-- Elapsed time of the admission. -/
  at_ : Nat
  /-- Core it executes on. -/
  core : Option Nat := none
  /-- Elapsed time of its dispatch. -/
  start : Nat := 0
  /-- It has been preempted and waits to resume (R330). -/
  preempted : Bool := false
  /-- The event waits for the core that ran its domain last (R329). -/
  waiting : Bool := false
  /-- Its affinity wait has expired. -/
  expired : Bool := false
  /-- A command event: it runs on core 16 (R331). -/
  cmd : Bool := false
  /-- The command's result, delivered at completion. -/
  due : Option Due := none
  /-- Merged fires (R327). -/
  overrun : Nat := 0
deriving DecidableEq, Repr

/-- Class configuration (SCH_CLASS_CFG). -/
structure ClsCfg where
  /-- 11 R353 | 16 | all | CORE_MASK -/
  mask : BitVec 16 := 0xFFFF
  /-- 11 R353 | 1 | 1 for SAFETY, NET and BULK, else 0 | SUP -/
  sup : Bool := false
  /-- 11 R353 | 8 | 20 | AFF_WAIT_US -/
  wait : Nat := 20
  /-- 11 R346 | 16 | 500 BULK, 2,000 NET, 3,000 MEASURE, 0 otherwise | QUOTA_US -/
  quota : Nat := 0
deriving DecidableEq, Repr

/-- A trace item (11 R332). -/
structure Trc where
  action : Nat
  ofs : Nat
  reason : Nat
  epochLo : Nat
  domain : Nat
  cls : Nat
  core : Nat
  entry : Nat
  source : Nat
  seq : Nat
deriving DecidableEq, Repr

/-- The event scheduler. -/
structure Sch where
  /-- 11 R326 | 1,024 entries | free | entries of ledger pool 4 -/
  ents : Tab (Option Ent) := []
  /-- own 21 | count | 0 | order number of the next admission -/
  nextOrder : Nat := 0
  /-- 11 R329 | 4,096 domains | never ran | core that ran a domain last -/
  lastCore : Tab (Option Nat) := []
  /-- 11 R353 | 5 classes | see ClsCfg | class configuration where it departs from the default -/
  cls : Tab (Option ClsCfg) := []
  /-- 11 R346 | 5 counts | 0 | core-µs used by each class in the tick -/
  used : Tab Nat := []
  /-- 14 SCH_STATUS | 32 | 0 | events dispatched -/
  dispatched : Nat := 0
  /-- 14 SCH_STATUS | 32 | 0 | preemptions -/
  preemptions : Nat := 0
  /-- 14 SCH_STATUS | 32 | 0 | migrations -/
  migrations : Nat := 0
  /-- 14 SCH_STATUS | 4 peaks | 0 | peaks of the four pools since the last read -/
  peaks : Tab Nat := []
  /-- 14 SCH_STATUS | 16 | 0 | longest SAFETY admission-to-start, 100 ns -/
  longest : Nat := 0
  /-- 14 SCH_STATUS | 5 × 11 | 0 | core time of each class in the last window, 10 core-ms -/
  coreTime : Tab Nat := []
  /-- 11 R346 | 1 | 0 | dispatch of MEASURE, NET and BULK is halted (R341) -/
  halted : Bool := false
  /-- 11 R332 | 1 | 0 | TRC_CTRL.EN -/
  trcEn : Bool := false
  /-- 11 R332 | 5 | 0b11111 | TRC_CTRL.CLASS_MASK -/
  trcMask : BitVec 5 := 0b11111
  /-- 11 R332 | 1 | 0 | TRC_CTRL.FREEZE -/
  trcFreeze : Bool := false
  /-- 11 R332 | 1 | 0 | TRC_CTRL.DETAIL -/
  trcDetail : Bool := false
  /-- 11 R332 | 12 | 0 | TRC_CTRL.DOM_LO -/
  domLo : Nat := 0
  /-- 11 R332 | 12 | 4,095 | TRC_CTRL.DOM_HI -/
  domHi : Nat := 4095
  /-- 11 R332 | 16,384 items | empty | the trace -/
  trc : Queue Trc := { depth := 16384 }
  /-- 11 R332 | 16 | 0 | SEQ of matching decisions -/
  trcSeq : Nat := 0
  /-- 11 R332 | 128 per master | 0 | TRC_DATA latched by a read of word 0 -/
  trcLatch : Tab Nat := []
deriving DecidableEq, Repr

/-- Operating state (BLW_STATUS.STATE), in code order. -/
inductive PwrSt where
  | run | doze | night
deriving DecidableEq, Repr

/-- A scheduled state change (11 R336): target state, full target epoch, full wake epoch. -/
structure PwrChg where
  st : PwrSt
  target : Nat
  wake : Option Nat
deriving DecidableEq, Repr

/-- A die sensor. -/
structure Therm where
  /-- 11 R349 | 8 | 0 | BLW_THERMk.T_C -/
  t : Int := 0
  /-- 11 R349 | 8 | 0 | BLW_THERMk.T_PEAK -/
  peak : Int := 0
deriving DecidableEq, Repr

/-- A domain as BLW_DOMn reports it. -/
structure BDom where
  /-- 11 R343 | 16 | 0 | E_MJ -/
  e : Nat := 0
  /-- 11 R334 | 10 | 880 | VCAP_MV -/
  vcap : Nat := 880
  /-- 11 R334 | 10 | 550 | VFLOOR_MV -/
  vfloor : Nat := 550
  /-- 11 R334 | 1 | 0 | CAPPED -/
  capped : Bool := false
  /-- 11 R343 | 1 | 0 | the cap has held the voltage down in the present window -/
  capNow : Bool := false
  /-- 11 R334 | ms | 0 | ticks for which the domain has been below 60 % busy, or without lookup drops -/
  calm : Nat := 0
deriving DecidableEq, Repr

/-- PWR_CFG. -/
structure PwrCfg where
  /-- 11 R344 | 2 | FIXED | SOURCE -/
  source : Nat := 0
  /-- 11 R344 | 14 | 11,000 | CAP_MJ -/
  cap : Nat := 11000
  /-- 11 R344 | 16 | 0 | OTHER_MW -/
  other : Nat := 0
  /-- 11 R344 | 16 | 0 | DRAW_MJ -/
  draw : Nat := 0
  /-- 11 R344 | 7 | 30 | SOC_FLOOR -/
  floor : Nat := 30
  /-- 11 R348 | 7 | 15 | SOC_CRIT -/
  crit : Nat := 15
  /-- 11 R345 | 7 | 0x09 | CHG_ADDR -/
  chgAddr : Nat := 9
  /-- 11 R345 | 8 | 0 | CHG_CMD -/
  chgCmd : Nat := 0
  /-- 11 R345 | 8 | 10 | PIN_LSB_MW -/
  pinLsb : Nat := 10
  /-- 11 R348 | 10 | 60 | CRIT_GRACE_S -/
  grace : Nat := 60
  /-- 11 R337 | 10 | 10 | REFCLK_WARM_MS -/
  warm : Nat := 10
  /-- 11 R337 | 1 | 0 | REFCLK_GATE -/
  gate : Bool := false
  /-- 11 R346 | 6 | 9 | GNSS_V3 -/
  v3 : Nat := 9
deriving DecidableEq, Repr

/-- Bellows. -/
structure Blw where
  /-- 11 R333 | 2 | RUN | BLW_STATUS.STATE -/
  st : PwrSt := .run
  /-- 11 R336 | change | none | the scheduled state change (PENDING) -/
  change : Option PwrChg := none
  /-- 11 R340 | full epoch | none | boundary of the scheduled return to RUN -/
  wakeAt : Option Nat := none
  /-- 11 R340 | 3 | 0 | last wake cause -/
  wakeCause : Nat := 0
  /-- 11 R340 | 3 | 0 | cause of the wake in progress -/
  waking : Nat := 0
  /-- 11 R337 | 7 | 0 | postponements of the wake boundary -/
  postponed : Nat := 0
  /-- 11 R337 | elapsed time | 0 | start of the present NIGHT -/
  nightAt : Nat := 0
  /-- 11 R339 | elapsed time | none | the latest return from NIGHT -/
  backAt : Option Nat := none
  /-- 11 R337 | 1 | 1 | GPIO31 as Bellows drives it -/
  gpio31 : Bool := true
  /-- 11 R337 | 1 | 0 | SAFE, SUP, SEC and MEM have been restored ahead of the wake boundary -/
  restored : Bool := false
  /-- 11 R343 | TAI | none | end of the latest budget window, which CMP25 ends once (02 R57) -/
  winAt : Option Nat := none
  /-- 11 R344 | see PwrCfg | defaults | PWR_CFG in force -/
  cfg : PwrCfg := {}
  /-- 11 R347 | 2 | 0 | LEVEL -/
  level : Nat := 0
  /-- 11 R347 | 1 | 0 | the level has risen within the present window -/
  rose : Bool := false
  /-- 11 R347 | 3 | 0 | consecutive windows with E < 0.8 × B_eff -/
  calm : Nat := 0
  /-- 11 R348 | 1 | 0 | CRITICAL -/
  critical : Bool := false
  /-- 11 R348 | 10 | 0 | windows for which CRITICAL has held -/
  critFor : Nat := 0
  /-- 11 R348 | 3 | 0 | consecutive windows at level 3 with E > B_eff -/
  overRun : Nat := 0
  /-- 11 R348 | 4 | 0 | consecutive windows with the heat estimate at Tj_max or above -/
  hotRun : Nat := 0
  /-- 11 R348 | 4 | 0 | consecutive windows with no CRITICAL condition -/
  clearRun : Nat := 0
  /-- 11 R348 | 1 | 0 | GRACE_OVER -/
  graceOver : Bool := false
  /-- 11 R349 | 1 | 0 | HEAT_WARN -/
  heatWarn : Bool := false
  /-- 11 R345 | 1 | 0 | SRC_STALE -/
  stale : Bool := false
  /-- 11 R345 | 4 | 0 | consecutive failed windows -/
  failRun : Nat := 0
  /-- 11 R345 | 1 | 0 | a read has failed in the present window -/
  failNow : Bool := false
  /-- 11 R341 | 1 | 0 | PFW -/
  pfw : Bool := false
  /-- 11 R345 | 7 | 0 | SOC in use -/
  soc : Nat := 0
  /-- 11 R349 | 8 | 0 | TJ, heat estimate -/
  tj : Int := 0
  /-- 11 R343 | 16 | 0 | BLW_WINDOW.E_MJ -/
  e : Nat := 0
  /-- 11 R344 | 16 | 11,000 | BLW_WINDOW.BEFF_MJ -/
  beff : Nat := 11000
  /-- 11 R344 | 16 | 11,000 | BLW_WINDOW.B_MJ -/
  b : Nat := 11000
  /-- 11 R349 | 16 | 11,000 | BLW_WINDOW.H_MJ -/
  h : Nat := 11000
  /-- 11 R344 | 16 | 0 | BLW_INPUT.P_IN_MW -/
  pIn : Nat := 0
  /-- 11 R344 | 7 | 0 | BLW_INPUT.SOC_PCT -/
  socPct : Nat := 0
  /-- 11 R345 | 1 | 0 | BLW_INPUT.FRESH -/
  fresh : Bool := false
  /-- 11 R344 | 10 readings | empty | charger readings, mW, newest first -/
  charger : List Nat := []
  /-- 11 R345 | 7 | 0 | SoC read from the battery -/
  battery : Nat := 0
  /-- 11 R343 | 12 domains | see BDom | domains in the order of GEN_RATEn -/
  doms : Tab BDom := []
  /-- 11 R349 | 16 sensors | see Therm | die sensors -/
  therm : Tab Therm := []
  /-- 11 R350 | 1 | 0 | thermal trip latched in AON -/
  trip : Bool := false
  /-- 11 R350 | 1 | 0 | every domain except AON is switched off -/
  off : Bool := false
  /-- 11 R342 | 1 | 0 | BACKUP -/
  backup : Bool := false
  /-- 18 R484 | day | none | day of the latest VBAT_LOW record -/
  vbatDay : Option Nat := none
  /-- 14 PWR_STATUS | 32 | 0 | level changes -/
  nLevel : Nat := 0
  /-- 14 PWR_STATUS | 32 | 0 | CRITICAL entries -/
  nCrit : Nat := 0
  /-- 14 PWR_STATUS | 32 | 0 | failed SMBus reads -/
  nSmb : Nat := 0
  /-- 14 PWR_STATUS | 3 × 32 | 0 | elapsed time in RUN, DOZE and NIGHT, 2^-32 ns -/
  times : List Nat := [0, 0, 0]
  /-- 11 R353 | 16 | DC 7 (0) | CAP wake bits -/
  wakeCap : BitVec 16 := 0
  /-- 11 R353 | 32 | DC 7 (0) | GPIO wake bits -/
  wakeGpio : BitVec 32 := 0
  /-- 11 R340 | commands | empty | commands that wait for the return to RUN -/
  deferred : List (Op × Cmd) := []
deriving DecidableEq, Repr

end Sys2Proof.Machine
end

