-- ==== Sys2Proof/Machine/Blocks/Vault.lean ====
section
/-! DEFINITION. State of the vault, of the recorder and of boot and update (chapters 15 to 17). Each field's comment
gives: rule | width | reset value | name. -/
namespace Sys2Proof.Machine

/-- A key slot of the vault (15 R429). -/
structure KSlot where
  /-- 15 R429 | 1 | 0 | FULL -/
  full : Bool := false
  /-- 15 R429 | 4 | 0 | TYPE -/
  typ : Nat := 0
  /-- 15 R429 | 8 | 0 | DEST -/
  dest : BitVec 8 := 0
  /-- 15 R429 | 8 | 0 | USAGE -/
  usage : BitVec 8 := 0
  /-- 15 R429 | 1 | 0 | EXPORT -/
  exportable : Bool := false
  /-- 15 R429 | 1 | 0 | PERSIST -/
  persist : Bool := false
  /-- 15 R432 | 1 | 0 | NONAPPROVED -/
  nonapp : Bool := false
  /-- 15 R427 | key material | empty | key bytes, which no master can read -/
  key : List Byte := []
  /-- 15 KEY_INFO | 32 | 0 | uses since reset -/
  uses : Nat := 0
  /-- 15 KEY_INFO | 32 | 0 | TAI seconds of loading -/
  loaded : Nat := 0
deriving DecidableEq, Repr

/-- Tamper configuration (15 R436). -/
structure TmpCfg where
  /-- 15 R436 | 12 | bits 6 to 11 | EN -/
  en : BitVec 12 := 0xFC0
  /-- 15 R436 | 4 | DC 7 (0) | LEVEL -/
  level : BitVec 4 := 0
  /-- 15 R436 | 1 | DC 7 (0) | ACT01 -/
  act01 : Bool := false
  /-- 15 R436 | 1 | DC 7 (0) | ACT23 -/
  act23 : Bool := false
deriving DecidableEq, Repr

/-- The secure core, the fuses and the tamper logic. -/
structure Sec where
  /-- 15 R422 | 8 | 1 (PROVISIONED as shipped, 00 R7) | LC_FUSES, fuses blown: the life-cycle code -/
  lc : Nat := 1
  /-- 15 R424 | 3 | none | pending-advance marker in the vault area of X0: target of LC_ADVANCE -/
  advance : Option Nat := none
  /-- 15 R439 | 16 | 0 | TMP_FUSES, tamper fuses blown -/
  tmpFuses : Nat := 0
  /-- 15 R440 | 1 | 0 | DEBUG_OPEN by DBG_UNLOCK -/
  debug : Bool := false
  /-- 15 R428 | 64 slots | empty | key slots -/
  slots : Tab KSlot := []
  /-- 15 R429 | slots | empty | persistent slot area of X0: slots wrapped, with the root they were stored under: its
  life-cycle code (8 for the test root) and tamper fuse count -/
  stored : Tab (Option (KSlot × Nat × Nat)) := []
  /-- 15 R435 | 1 | 0 | the persistent slot area is being zeroized -/
  zeroizing : Bool := false
  /-- 15 R435 | slots | empty | persistent slots to be erased, and the commands that wait for it -/
  zeroSlots : List Nat := []
  /-- 15 R435 | commands | empty | commands that wait for the zeroization of the persistent slot area -/
  zeroAsk : List (Path × BitVec 8 × Op) := []
  /-- 15 the AON key cache | 256 bytes | empty | port radio keys cached for NIGHT -/
  cache : List Byte := []
  /-- 15 R434 | 1 | 0 | a self-test has failed since reset -/
  testFail : Bool := false
  /-- 15 R432 | 1 | 0 | a slot with NONAPPROVED has been used since reset -/
  nonappUsed : Bool := false
  /-- 15 R433 | 1 | 0 | every start-up self-test has passed -/
  testsOk : Bool := false
  /-- 15 R426 | 1 | 0 | the secure core runs -/
  running : Bool := false
  /-- own 24 | 14 | DC 24 (0) | tests of R433 that the engines would fail if they ran now -/
  flaws : BitVec 14 := 0
  /-- own 24 | 1 | DC 24 (0) | a conditional test of R434 would fail now -/
  condFlaw : Bool := false
  /-- 15 R440 | 32 | 0 | CHALLENGE of the latest LC_STATUS -/
  challenge : Word := 0
  /-- 15 R436 | configuration | see TmpCfg | tamper configuration in force -/
  tmp : TmpCfg := {}
  /-- 15 R436 | configuration | none | tamper configuration that applies at the next reset -/
  tmpNext : Option TmpCfg := none
  /-- 15 R436 | 12 | 0 | LATCHED -/
  latched : BitVec 12 := 0
  /-- 15 R436 | 4 | 0 | FIRST -/
  first : Nat := 0
  /-- 15 R436 | 32 | 0 | WHEN, operating time of the latch -/
  latchAt : Nat := 0
  /-- 15 R436 | 12 | 0 | LIVE, present source levels -/
  live : BitVec 12 := 0
  /-- 15 R437 | 1 | 0 | the tamper response waits for the wake from NIGHT -/
  wakeHold : Bool := false
deriving DecidableEq, Repr

/-- A committed record (16 R442). -/
structure Rec where
  rnum : Nat
  opTime : Nat
  pcycle : Nat
  tai : Bool
  suppSat : Bool
  sentinel : Bool
  retained : Bool
  code : BitVec 16
  slot : Byte
  supp : Nat
  payload : List Byte
  epoch : Word
  /-- Root byte and fuse counts of the page it was flushed to; none while staged (16 R448, R454). -/
  page : Option (Nat × Nat × Nat) := none
deriving DecidableEq, Repr

/-- A code's token bucket and suppression count (16 R446). -/
structure Bucket where
  /-- Tokens missing from a full bucket. -/
  missing : Nat := 0
  pending : Nat := 0
  /-- Depth and refill set by REC_CFG scope 0. -/
  own : Option (Nat × Nat) := none
deriving DecidableEq, Repr

/-- A histogram (16 R457). -/
structure Hist where
  en : Bool := false
  source : Nat := 0
  param : Nat := 0
  nbins : Nat := 1
  lo : Int := 0
  width : Nat := 1
  bins : Tab Nat := []
  cleared : Nat := 0
deriving DecidableEq, Repr

/-- An extreme tracker (16 R457). -/
structure Extreme where
  en : Bool := false
  source : Nat := 0
  param : Nat := 0
  /-- Minimum and maximum, each with its OP_TIME. -/
  min : Option (Int × Nat) := none
  max : Option (Int × Nat) := none
deriving DecidableEq, Repr

/-- The event recorder. -/
structure Recorder where
  /-- 16 R449 | TAI | none | latest fire of CMP26, once for each instant (02 R57) -/
  timerAt : Option Nat := none
  /-- 16 R447 | 32 | 0 (restored) | RNUM of the next record -/
  next : Nat := 0
  /-- 16 R447 | 32 | 0 (restored) | records ever committed, without wrapping -/
  total : Nat := 0
  /-- 16 R448 | 16,384 records | empty (restored) | circulating area, newest first, staged records included -/
  circ : List Rec := []
  /-- 16 R448 | 1,024 records | empty (restored) | founding area, oldest first -/
  founding : List Rec := []
  /-- 16 R449 | 16 | 0 | STAGED -/
  staged : Nat := 0
  /-- 16 R446 | per code | full | token buckets and suppression counts -/
  buckets : Tab Bucket := []
  /-- 16 R446 | per severity | defaults | depth and refill set by REC_CFG scope 1 -/
  sevCfg : Tab (Option (Nat × Nat)) := []
  /-- 16 R446 | 1 | 1 | TAI_EN -/
  taiEn : Bool := true
  /-- 16 R443 | 24 | 0 (restored) | PCYCLE -/
  pcycle : Nat := 0
  /-- 16 R443 | elapsed time | 0 (restored) | OP_TIME in 2^-32 ns; OP_TIME is its seconds modulo 2^32 -/
  opTime : Nat := 0
  /-- 16 R443 | elapsed time | 0 | OP_TIME of the latest flush -/
  opFlushed : Nat := 0
  /-- 16 R452 | 1 | 0 | STORE_FAIL -/
  storeFail : Bool := false
  /-- 16 R453 | 32 pages | healthy | staging pages retired -/
  retired : BitVec 32 := 0
  /-- 16 R449 | 1 | 0 | FLUSHING -/
  flushing : Bool := false
  /-- 11 R346 | 1 | 0 | a fault-class record or PFW_N triggered the running flush -/
  flushExempt : Bool := false
  /-- 16 R450 | 1 | 0 | the running flush is the power-fail flush -/
  pfwFlush : Bool := false
  /-- 16 R452 | 1 | 0 | the running flush is a retry out of STORE_FAIL -/
  retry : Bool := false
  /-- 16 R452 | 1 | 0 | the previous page of this flush failed its readback -/
  badPage : Bool := false
  /-- 16 R449 | 16 | 0 | records the running flush covers -/
  flushN : Nat := 0
  /-- 16 R450 | 16 | 0 | records left out by the power-fail flush -/
  pfwGap : Nat := 0
  /-- 16 R444 | 1 | 0 | the power-down ended with a completed power-fail flush -/
  pfwDone : Bool := false
  /-- 16 R456 | challenge, time | none | REC_CLEAR awaiting confirmation, with the elapsed time of its CHALLENGE -/
  clear : Option (Word × Nat) := none
  /-- 16 R456 | 1 | 0 | a clear runs -/
  clearing : Bool := false
  /-- 16 R456 | records | empty | records that wait while a clear runs: code, slot, payload -/
  waiting : List RecIn := []
  /-- 16 R453 | 4 records | free (restored) | sentinel slots -/
  sentinels : Tab (Option Rec) := []
  /-- 16 R453 | 1 | 0 | SENTINEL_OVER is to be committed -/
  sentOver : Bool := false
  /-- 16 R454 | 32 | 0 | REC_CURSOR.INDEX -/
  index : Nat := 0
  /-- 16 R454 | 1 | 0 | REC_CURSOR.AREA -/
  area : Bool := false
  /-- 16 R455 | 1 | 0 | REC_CURSOR.LOST -/
  lost : Bool := false
  /-- 16 R454 | 4 | 0 | REC_CURSOR.COUNT -/
  count : Nat := 0
  /-- 16 R454 | 1 | 0 | REC_CURSOR.READY -/
  ready : Bool := false
  /-- 16 R454 | 8 × 32 bytes | 0 | REC_WINDOW -/
  window : List (List Byte) := []
  /-- 16 R457 | 64 histograms | delivery | histograms where they depart from the delivery configuration -/
  hists : Tab (Option Hist) := []
  /-- 16 R457 | 128 trackers | delivery | extreme trackers where they depart from the delivery configuration -/
  exts : Tab (Option Extreme) := []
  /-- 16 R449 | 64 histograms | delivery | snapshot of the histograms in flash, from the latest flush -/
  histsSaved : Tab (Option Hist) := []
  /-- 16 R449 | 128 trackers | delivery | snapshot of the extreme trackers in flash -/
  extsSaved : Tab (Option Extreme) := []
deriving DecidableEq, Repr

/-- State of a bank (17 R464), in code order. -/
inductive BankSt where
  | invalid | confirmed | pending | trial
deriving DecidableEq, Repr

/-- A firmware bank. -/
structure Bank where
  /-- 17 R464 | 8 | CONFIRMED (A), INVALID (B): DC 8 | STATE -/
  st : BankSt := .invalid
  /-- 17 R465 | 32 | DC 8 (0) | VERSION -/
  version : Word := 0
  /-- 17 R465 | 16 | DC 8 (0) | SFN -/
  sfn : Nat := 0
  /-- 17 R464 | 32 | 0 | settings generation named for the bank; 0 none -/
  gen : Nat := 0
  /-- 17 R465 | 32 | DC 8 (0) | bytes of the image -/
  len : Nat := 0
  /-- 17 R465 | 384 | DC 8 (0) | hash of the image -/
  hash : List Byte := []
deriving DecidableEq, Repr

/-- An update session (17 R468). -/
structure Sess where
  port : Nat
  id : Nat
  bank : Bool
  kind : Nat
  version : Word
  sfn : Nat
  dataLen : Nat
  toLen : Nat
  toHash : List Byte
  trialS : Nat
  accepted : Nat := 0
  /-- DELTA_BAD (17 R467). -/
  bad : Bool := false
  /-- Bytes of output produced, and whether END has been met. -/
  out : Nat := 0
  ended : Bool := false
  /-- Bytes of an operation not yet complete. -/
  tail : List Byte := []
  /-- LITERAL bytes still expected. -/
  litLeft : Nat := 0
  padLeft : Nat := 0
  /-- Elapsed time of the latest accepted data. -/
  at_ : Nat := 0
  /-- UPD_COMMIT has been accepted: its path and tag. -/
  commit : Option (Path × BitVec 8) := none
deriving DecidableEq, Repr

/-- An UPD_BEGIN whose checks 1 to 5 passed in the present tick (17 R472). -/
structure Contend where
  path : Path
  tag : BitVec 8
  sess : Sess
deriving DecidableEq, Repr

/-- A HELD ARP as a settings generation stores it: position, phase-centre offsets and baseline (04 R112). -/
structure HeldArp where
  arp : Int × Int × Int
  pco : List Int
  baseline : Option (Int × Int × Int)
deriving DecidableEq, Repr

/-- Boot and update. -/
structure Upd where
  /-- 17 R464 | 8 | 0 (A) | ACTIVE -/
  active : Bool := false
  /-- 17 R464 | bank | CONFIRMED: DC 8 | bank A -/
  bankA : Bank := { st := .confirmed }
  /-- 17 R464 | bank | INVALID: DC 8 | bank B -/
  bankB : Bank := {}
  /-- 17 R464 | 32 | 0 | SEQ of the boot control record -/
  seq : Nat := 0
  /-- 17 R476 | 8 | 0 | TRIAL_RESETS -/
  trialResets : Nat := 0
  /-- 17 R464 | 32 | 0 | TRIAL_START, OP_TIME in 2^-32 ns -/
  trialStart : Nat := 0
  /-- 17 R474 | 16 | 0 | TRIAL_S -/
  trialS : Nat := 0
  /-- 17 R476 | 1 | 0 | the trial has expired and its stop is raised -/
  trialOver : Bool := false
  /-- 17 R476 | elapsed time | 0 | instant of the stop of an expired trial -/
  trialOverAt : Nat := 0
  /-- 17 R461 | 1 | 0 | GEN_BOOT.BANK -/
  running : Bool := false
  /-- 17 R462 | 1 | 0 | GEN_BOOT.BANK_STATE and VERSION are valid -/
  bankValid : Bool := false
  /-- 17 R473 | 32 | 0 | settings generation in use -/
  gen : Nat := 0
  /-- 17 R473 | up to 8 | empty | generations present: number and SFN -/
  gens : List (Nat × Nat) := []
  /-- 17 R473, 04 R112 | per generation | none | HELD ARP, phase-centre offsets and baseline of a settings generation -/
  genArp : Tab (Option HeldArp) := []
  /-- 17 R468 | session | none | open session -/
  sess : Option Sess := none
  /-- 17 R472 | contenders | empty | UPD_BEGINs that wait for the lock decision of the tick -/
  contend : List Contend := []
  /-- 17 R470 | port | none | arrival port whose session closed idle -/
  idlePort : Option Nat := none
  /-- 17 R469 | bytes | empty | header parts held per management path (0 HPF1, 1 SITE) -/
  parts : Tab (List Byte) := []
  /-- 17 R468 | 16 | 0 | sessions opened -/
  sessions : Nat := 0
  /-- 17 R477 | 1 | 0 | UPD_ROLLBACK waits for the next reset -/
  rollback : Bool := false
  /-- 17 R460 | 2 | none | BOOT_RESET accepted: KIND -/
  bootKind : Option Nat := none
  /-- 17 R459 | elapsed time | 0 | latest restart of the watchdog -/
  wdAt : Nat := 0
  /-- 17 R459 | 1 | 0 | the watchdog has expired and its stop is raised -/
  wdOver : Bool := false
  /-- 17 R479 | 1 | 0 | a session was open at the reset -/
  lostSess : Bool := false
deriving DecidableEq, Repr

end Sys2Proof.Machine
end

