-- ==== Sys2Proof/Machine/State.lean ====
section
/-! DEFINITION. The whole state of the model, as plain data: the device with one field for each block, the host memory that it
writes, and the queue of waiting steps. Every block's fields stand in `Machine/Blocks/`, each with the rule that names it and
its reset value. -/
namespace Sys2Proof.Machine

/-- The device. -/
structure Dev where
  /-- GEN: identity, status, interrupts, ledger, rate monitors, supplies, boot phase. -/
  gen : Gen := {}
  /-- Timebase, launch gates, captures. -/
  tbs : Tbs := {}
  /-- Sample lanes, channels, acquisition. -/
  gnss : Gnss := {}
  /-- Reference station and corrections. -/
  ref : Ref := {}
  /-- Central positioning and Bramble. -/
  fix : Fix := {}
  /-- Orchard. -/
  orc : Orc := {}
  /-- Profile engine and track library. -/
  prf : PrfBlk := {}
  /-- Bugle. -/
  bgl : Bgl := {}
  /-- Radio ports, slots, partners. -/
  rad : Rad := {}
  /-- Ethernet switch. -/
  sw : Sw := {}
  /-- Event scheduler and trace. -/
  sch : Sch := {}
  /-- Bellows. -/
  blw : Blw := {}
  /-- Host and local interfaces. -/
  ifc : Ifc := {}
  /-- Mailboxes. -/
  mbx : Mbx := {}
  /-- Command rings. -/
  cr : Cr := {}
  /-- Transactions. -/
  txn : Txn := {}
  /-- Vault, life cycle, tamper. -/
  sec : Sec := {}
  /-- Event recorder. -/
  evr : Recorder := {}
  /-- Boot and update. -/
  upd : Upd := {}
  /-- 01 R39 | commands | empty | EPOCH writes that wait for the next boundary, in order -/
  shadow : List (Op × Cmd) := []
  /-- 01 R39 | commands | empty | EPOCH writes received after the cut-off, for the boundary after the next -/
  shadowNext : List (Op × Cmd) := []
  /-- 03 R108 | 16 per path | empty | reads that wait for data, oldest first -/
  reads : List PendRead := []
  /-- 13 R395 | completions | empty | final completions that firmware has to deliver, oldest first -/
  asyncQ : List AsyncDone := []
  /-- own 4 | reply | SUCCESS | the answer to the latest command or register read -/
  reply : Reply := {}
  /-- own 9 | writes | empty | the writes to host memory that the step under way makes, in their order: addresses and bytes;
  empty between steps -/
  writes : List (Nat × List Byte) := []
  /-- own 6 | count | DC 6 (0) | free values drawn so far: the next one is Config.freeWord of this count -/
  free : Nat := 0
deriving DecidableEq, Repr

/-- The state of the machine: the device, the bytes that it has written into host memory, and the steps that wait. -/
structure State where
  dev : Dev := {}
  /-- own 9 | cells | empty | bytes the device has written into host memory, by address -/
  hostMem : List Host.Cell := []
  /-- The steps that wait, first in, first out. -/
  pending : List Instr := []
deriving DecidableEq, Repr

/-- The ways in which the model stops with a fault. No row of the table does: each fault the spec names is a state the
device enters and goes on from. -/
inductive Fault where
  /-- Raised by nothing. Safe: a step that would raise it stops where the hardware goes on. -/
  | stopped
deriving DecidableEq, Repr

/-- The ways in which the model refuses a step. -/
inductive Refusal where
  /-- Raised by the arm of a step whose meaning has not been written. Safe: the model stops. -/
  | notModelled (mnemonic : String)
deriving DecidableEq, Repr

/-- The device right after reset, before the ROM starts (17 R461): every field at the value its block states.
(DESIGN CHOICE: log entry 18.) -/
def State.reset : State := {}

end Sys2Proof.Machine
end

