-- ==== Sys2Proof/Machine/Access.lean ====
section
/-! DEFINITION. Sparse tables, and the one accessor and the one update of each table of the state. -/
namespace Sys2Proof.Machine

/-- The value of a key; a key not listed has the table's default. -/
def tget {α : Type} (d : α) : Tab α → Nat → α
  | [], _ => d
  | (k', v) :: t, k => if k = k' then v else tget d t k

/-- A table with a key set: keys stay rising and the default is never listed. -/
def tset {α : Type} [DecidableEq α] (d : α) : Tab α → Nat → α → Tab α
  | [], k, v => if v = d then [] else [(k, v)]
  | (k', v') :: t, k, v =>
    if k < k' then (if v = d then (k', v') :: t else (k, v) :: (k', v') :: t)
    else if k = k' then (if v = d then t else (k, v) :: t)
    else (k', v') :: tset d t k v

/-- A table with one key's value changed. -/
def tmod {α : Type} [DecidableEq α] (d : α) (t : Tab α) (k : Nat) (f : α → α) : Tab α := tset d t k (f (tget d t k))

/-- A count of a table raised by 1, saturating at 0xFFFF_FFFF (14 R410). -/
def tinc (t : Tab Nat) (k : Nat) : Tab Nat := tmod 0 t k fun n => min (n + 1) 0xFFFFFFFF

/-- The state of sample lane k. -/
def Dev.lane (s : Dev) (k : Nat) : Lane := tget {} s.gnss.lanes k

/-- Changes sample lane k. -/
def Dev.laneMod (s : Dev) (k : Nat) (g : Lane → Lane) : Dev :=
  { s with gnss := { s.gnss with lanes := tmod {} s.gnss.lanes k g } }

/-- The state of correlator channel k. -/
def Dev.chan (s : Dev) (k : Nat) : Chan := tget {} s.gnss.chans k

/-- Changes correlator channel k. -/
def Dev.chanMod (s : Dev) (k : Nat) (g : Chan → Chan) : Dev :=
  { s with gnss := { s.gnss with chans := tmod {} s.gnss.chans k g } }

/-- The state of correction output k. -/
def Dev.corrOut (s : Dev) (k : Nat) : CorrOut := tget {} s.ref.outs k

/-- Changes correction output k. -/
def Dev.corrOutMod (s : Dev) (k : Nat) (g : CorrOut → CorrOut) : Dev :=
  { s with ref := { s.ref with outs := tmod {} s.ref.outs k g } }

/-- The state of exclusion of a signal k. -/
def Dev.excl (s : Dev) (k : Nat) : Excl := tget {} s.ref.excl k

/-- Changes exclusion of a signal k. -/
def Dev.exclMod (s : Dev) (k : Nat) (g : Excl → Excl) : Dev :=
  { s with ref := { s.ref with excl := tmod {} s.ref.excl k g } }

/-- The state of positioning slot k. -/
def Dev.fslot (s : Dev) (k : Nat) : FixSlot := tget {} s.fix.slots k

/-- Changes positioning slot k. -/
def Dev.fslotMod (s : Dev) (k : Nat) (g : FixSlot → FixSlot) : Dev :=
  { s with fix := { s.fix with slots := tmod {} s.fix.slots k g } }

/-- The state of Orchard slot configuration k. -/
def Dev.oslot (s : Dev) (k : Nat) : OrcSlot := tget {} s.orc.slots k

/-- Changes Orchard slot configuration k. -/
def Dev.oslotMod (s : Dev) (k : Nat) (g : OrcSlot → OrcSlot) : Dev :=
  { s with orc := { s.orc with slots := tmod {} s.orc.slots k g } }

/-- The state of frozen state of a holder k. -/
def Dev.froz (s : Dev) (k : Nat) : Froz := tget {} s.orc.froz k

/-- Changes frozen state of a holder k. -/
def Dev.frozMod (s : Dev) (k : Nat) (g : Froz → Froz) : Dev :=
  { s with orc := { s.orc with froz := tmod {} s.orc.froz k g } }

/-- The state of profile channel k. -/
def Dev.pch (s : Dev) (k : Nat) : Prf := tget {} s.prf.ch k

/-- Changes profile channel k. -/
def Dev.pchMod (s : Dev) (k : Nat) (g : Prf → Prf) : Dev :=
  { s with prf := { s.prf with ch := tmod {} s.prf.ch k g } }

/-- The state of track k. -/
def Dev.track (s : Dev) (k : Nat) : Track := tget {} s.prf.tracks k

/-- Changes track k. -/
def Dev.trackMod (s : Dev) (k : Nat) (g : Track → Track) : Dev :=
  { s with prf := { s.prf with tracks := tmod {} s.prf.tracks k g } }

/-- The state of burst confirmation of a port k. -/
def Dev.bport (s : Dev) (k : Nat) : BurstPort := tget {} s.bgl.ports k

/-- Changes burst confirmation of a port k. -/
def Dev.bportMod (s : Dev) (k : Nat) (g : BurstPort → BurstPort) : Dev :=
  { s with bgl := { s.bgl with ports := tmod {} s.bgl.ports k g } }

/-- The state of radio port k. -/
def Dev.rport (s : Dev) (k : Nat) : RPort := tget {} s.rad.ports k

/-- Changes radio port k. -/
def Dev.rportMod (s : Dev) (k : Nat) (g : RPort → RPort) : Dev :=
  { s with rad := { s.rad with ports := tmod {} s.rad.ports k g } }

/-- The state of radio slot k. -/
def Dev.rslot (s : Dev) (k : Nat) : RSlot := tget {} s.rad.slots k

/-- Changes radio slot k. -/
def Dev.rslotMod (s : Dev) (k : Nat) (g : RSlot → RSlot) : Dev :=
  { s with rad := { s.rad with slots := tmod {} s.rad.slots k g } }

/-- The state of partner k. -/
def Dev.partner (s : Dev) (k : Nat) : Partner := tget {} s.rad.partners k

/-- Changes partner k. -/
def Dev.partnerMod (s : Dev) (k : Nat) (g : Partner → Partner) : Dev :=
  { s with rad := { s.rad with partners := tmod {} s.rad.partners k g } }

/-- The state of Ethernet port k. -/
def Dev.eport (s : Dev) (k : Nat) : EPort := tget {} s.sw.ports k

/-- Changes Ethernet port k. -/
def Dev.eportMod (s : Dev) (k : Nat) (g : EPort → EPort) : Dev :=
  { s with sw := { s.sw with ports := tmod {} s.sw.ports k g } }

/-- The state of VLAN k. -/
def Dev.vlan (s : Dev) (k : Nat) : Vlan := tget {} s.sw.vlans k

/-- Changes VLAN k. -/
def Dev.vlanMod (s : Dev) (k : Nat) (g : Vlan → Vlan) : Dev :=
  { s with sw := { s.sw with vlans := tmod {} s.sw.vlans k g } }

/-- The state of power domain of Bellows k. -/
def Dev.bdom (s : Dev) (k : Nat) : BDom := tget {} s.blw.doms k

/-- Changes power domain of Bellows k. -/
def Dev.bdomMod (s : Dev) (k : Nat) (g : BDom → BDom) : Dev :=
  { s with blw := { s.blw with doms := tmod {} s.blw.doms k g } }

/-- The state of die sensor k. -/
def Dev.therm (s : Dev) (k : Nat) : Therm := tget {} s.blw.therm k

/-- Changes die sensor k. -/
def Dev.thermMod (s : Dev) (k : Nat) (g : Therm → Therm) : Dev :=
  { s with blw := { s.blw with therm := tmod {} s.blw.therm k g } }

/-- The state of network ring k. -/
def Dev.nq (s : Dev) (k : Nat) : Nq := tget {} s.ifc.nq k

/-- Changes network ring k. -/
def Dev.nqMod (s : Dev) (k : Nat) (g : Nq → Nq) : Dev :=
  { s with ifc := { s.ifc with nq := tmod {} s.ifc.nq k g } }

/-- The state of CAN port k. -/
def Dev.can (s : Dev) (k : Nat) : Can := tget {} s.ifc.can k

/-- Changes CAN port k. -/
def Dev.canMod (s : Dev) (k : Nat) (g : Can → Can) : Dev :=
  { s with ifc := { s.ifc with can := tmod {} s.ifc.can k g } }

/-- The state of SMBus master k. -/
def Dev.smb (s : Dev) (k : Nat) : Smb := tget {} s.ifc.smb k

/-- Changes SMBus master k. -/
def Dev.smbMod (s : Dev) (k : Nat) (g : Smb → Smb) : Dev :=
  { s with ifc := { s.ifc with smb := tmod {} s.ifc.smb k g } }

/-- The state of GPIO pin k. -/
def Dev.pin (s : Dev) (k : Nat) : Pin := tget {} s.ifc.pins k

/-- Changes GPIO pin k. -/
def Dev.pinMod (s : Dev) (k : Nat) (g : Pin → Pin) : Dev :=
  { s with ifc := { s.ifc with pins := tmod {} s.ifc.pins k g } }

/-- The state of ADC limits of a channel k. -/
def Dev.adcLim (s : Dev) (k : Nat) : AdcLim := tget {} s.ifc.adcLim k

/-- Changes ADC limits of a channel k. -/
def Dev.adcLimMod (s : Dev) (k : Nat) (g : AdcLim → AdcLim) : Dev :=
  { s with ifc := { s.ifc with adcLim := tmod {} s.ifc.adcLim k g } }

/-- The state of mailbox end (2 × channel + end) k. -/
def Dev.mend (s : Dev) (k : Nat) : MEnd := tget {} s.mbx.ends k

/-- Changes mailbox end (2 × channel + end) k. -/
def Dev.mendMod (s : Dev) (k : Nat) (g : MEnd → MEnd) : Dev :=
  { s with mbx := { s.mbx with ends := tmod {} s.mbx.ends k g } }

/-- The state of counts of a command path k. -/
def Dev.pathCnt (s : Dev) (k : Nat) : PathCnt := tget {} s.mbx.cnts k

/-- Changes counts of a command path k. -/
def Dev.pathCntMod (s : Dev) (k : Nat) (g : PathCnt → PathCnt) : Dev :=
  { s with mbx := { s.mbx with cnts := tmod {} s.mbx.cnts k g } }

/-- The state of command ring k. -/
def Dev.ring (s : Dev) (k : Nat) : Ring := tget {} s.cr.rings k

/-- Changes command ring k. -/
def Dev.ringMod (s : Dev) (k : Nat) (g : Ring → Ring) : Dev :=
  { s with cr := { s.cr with rings := tmod {} s.cr.rings k g } }

/-- The state of arrival port k. -/
def Dev.tport (s : Dev) (k : Nat) : TPort := tget {} s.txn.ports k

/-- Changes arrival port k. -/
def Dev.tportMod (s : Dev) (k : Nat) (g : TPort → TPort) : Dev :=
  { s with txn := { s.txn with ports := tmod {} s.txn.ports k g } }

/-- The state of key slot k. -/
def Dev.kslot (s : Dev) (k : Nat) : KSlot := tget {} s.sec.slots k

/-- Changes key slot k. -/
def Dev.kslotMod (s : Dev) (k : Nat) (g : KSlot → KSlot) : Dev :=
  { s with sec := { s.sec with slots := tmod {} s.sec.slots k g } }

/-- The state of rate monitor k. -/
def Dev.rateMon (s : Dev) (k : Nat) : RateMon := tget {} s.gen.rates k

/-- Changes rate monitor k. -/
def Dev.rateMonMod (s : Dev) (k : Nat) (g : RateMon → RateMon) : Dev :=
  { s with gen := { s.gen with rates := tmod {} s.gen.rates k g } }

/-- The state of PPS output in force k. -/
def Dev.pps (s : Dev) (k : Nat) : PpsOut := tget {} s.tbs.ppsOut k

/-- Changes PPS output in force k. -/
def Dev.ppsMod (s : Dev) (k : Nat) (g : PpsOut → PpsOut) : Dev :=
  { s with tbs := { s.tbs with ppsOut := tmod {} s.tbs.ppsOut k g } }

/-- The state of PPS input k. -/
def Dev.ppsIn (s : Dev) (k : Nat) : PpsIn := tget {} s.tbs.ppsIn k

/-- Changes PPS input k. -/
def Dev.ppsInMod (s : Dev) (k : Nat) (g : PpsIn → PpsIn) : Dev :=
  { s with tbs := { s.tbs with ppsIn := tmod {} s.tbs.ppsIn k g } }

/-- The state of launch gate k. -/
def Dev.lgate (s : Dev) (k : Nat) : Lg := tget {} s.tbs.lg k

/-- Changes launch gate k. -/
def Dev.lgateMod (s : Dev) (k : Nat) (g : Lg → Lg) : Dev :=
  { s with tbs := { s.tbs with lg := tmod {} s.tbs.lg k g } }

/-- The state of capture input k. -/
def Dev.capt (s : Dev) (k : Nat) : Cap := tget {} s.tbs.cap k

/-- Changes capture input k. -/
def Dev.captMod (s : Dev) (k : Nat) (g : Cap → Cap) : Dev :=
  { s with tbs := { s.tbs with cap := tmod {} s.tbs.cap k g } }

/-- The state of token bucket of a code k. -/
def Dev.bucket (s : Dev) (k : Nat) : Bucket := tget {} s.evr.buckets k

/-- Changes token bucket of a code k. -/
def Dev.bucketMod (s : Dev) (k : Nat) (g : Bucket → Bucket) : Dev :=
  { s with evr := { s.evr with buckets := tmod {} s.evr.buckets k g } }

end Sys2Proof.Machine
end

