-- ==== Sys2Proof/Machine/OpTable.lean ====
section
/-! DEFINITION. The opcodes and attributes of the catalogue's commands, from the attribute tables that
14_command_catalogue R407 names (R111, R140, R164, R195, R225, R251, R290, R321, R353, R381, R406 and the tables of
chapter 14). -/
namespace Sys2Proof.Machine

/-- The effect class of a command (01_architecture R39). -/
inductive EffClass where
  /-- Not configuration. -/
  | none
  /-- Takes effect from the block's next operation. -/
  | live
  /-- Shadowed, applied at the next boundary. -/
  | epoch
  /-- Accepted only while the block is stopped. -/
  | halted
deriving DecidableEq, Repr

/-- Where a command names a host buffer (R409, and the layouts of chapter 14). -/
inductive BufKind where
  /-- It names none. -/
  | none
  /-- Address in words 1 and 2, length in word 3. -/
  | std
  /-- CAN_SEND: address in words 2 and 3, length in word 0. -/
  | can
  /-- SMB_XFER: address in words 1 and 2, 64 bytes. -/
  | smb
deriving DecidableEq, Repr

/-- One row of an attribute table. -/
structure OpInfo where
  code : Nat
  /-- Rank of the minimum authority (R396). -/
  auth : Nat
  cls : EffClass
  /-- Request words. -/
  reqWords : Nat
  /-- Response words on success. -/
  respWords : Nat
  buf : BufKind
  /-- Staged while its port holds an open transaction (R413). -/
  staged : Bool
deriving DecidableEq, Repr

/-- The attribute row of a command. -/
def opInfo : Op → OpInfo
  | .nop => ⟨0x0000, 4, .none, 0, 0, .none, false⟩
  | .genInfo => ⟨0x0002, 4, .none, 0, 8, .none, false⟩
  | .txnBegin => ⟨0x0100, 3, .none, 0, 1, .none, false⟩
  | .txnCommit => ⟨0x0101, 3, .none, 1, 2, .none, false⟩
  | .txnRollback => ⟨0x0102, 3, .none, 0, 1, .none, false⟩
  | .txnStatus => ⟨0x0103, 3, .none, 1, 4, .none, false⟩
  | .gnsLaneCfg => ⟨0x0300, 1, .halted, 5, 0, .none, false⟩
  | .gnsLaneEn => ⟨0x0301, 1, .live, 1, 0, .none, true⟩
  | .gnsMonCfg => ⟨0x0302, 2, .epoch, 3, 0, .none, true⟩
  | .gnsMeasCfg => ⟨0x0303, 1, .epoch, 1, 0, .none, true⟩
  | .gnsChanAlloc => ⟨0x0304, 2, .live, 1, 1, .none, true⟩
  | .gnsChanFree => ⟨0x0305, 2, .live, 1, 0, .none, true⟩
  | .gnsPlan => ⟨0x0306, 2, .epoch, 2, 0, .none, true⟩
  | .gnsAcq => ⟨0x0307, 2, .live, 3, 0, .none, false⟩
  | .gnsLaneStatus => ⟨0x0308, 3, .none, 1, 8, .none, false⟩
  | .gnsChanStatus => ⟨0x0309, 3, .none, 1, 4, .none, false⟩
  | .gnsMeasRead => ⟨0x030A, 1, .none, 4, 4, .std, false⟩
  | .refArpSurvey => ⟨0x0400, 1, .epoch, 3, 0, .none, true⟩
  | .refArpSet => ⟨0x0401, 1, .epoch, 10, 0, .none, true⟩
  | .refAntCfg => ⟨0x0402, 1, .epoch, 15, 0, .none, true⟩
  | .refSteerCfg => ⟨0x0403, 1, .epoch, 1, 0, .none, true⟩
  | .refOutCfg => ⟨0x0404, 2, .epoch, 2, 0, .none, true⟩
  | .refSchedSet => ⟨0x0405, 2, .epoch, 2, 0, .none, true⟩
  | .refZflCfg => ⟨0x0406, 1, .epoch, 2, 0, .none, true⟩
  | .refNtripCfg => ⟨0x0407, 2, .epoch, 12, 0, .none, true⟩
  | .refNtripUser => ⟨0x0408, 1, .live, 15, 0, .none, true⟩
  | .refIntegCfg => ⟨0x0409, 1, .epoch, 3, 0, .none, true⟩
  | .refStatus => ⟨0x040A, 3, .none, 0, 8, .none, false⟩
  | .refCorrRead => ⟨0x040B, 1, .none, 4, 4, .std, false⟩
  | .fixCfg => ⟨0x0500, 1, .epoch, 3, 0, .none, true⟩
  | .fixGlobalCfg => ⟨0x0501, 1, .epoch, 2, 0, .none, true⟩
  | .fixReset => ⟨0x0502, 2, .live, 1, 0, .none, false⟩
  | .fixStatus => ⟨0x0503, 3, .none, 1, 8, .none, false⟩
  | .fixRead => ⟨0x0504, 1, .none, 4, 4, .std, false⟩
  | .brmStatus => ⟨0x0505, 3, .none, 0, 8, .none, false⟩
  | .orcGridCfg => ⟨0x0600, 1, .halted, 3, 0, .none, false⟩
  | .orcGlobalCfg => ⟨0x0601, 1, .epoch, 1, 0, .none, true⟩
  | .orcSlotCfg => ⟨0x0602, 1, .epoch, 2, 0, .none, true⟩
  | .orcZoneCfg => ⟨0x0603, 1, .halted, 1, 0, .none, false⟩
  | .orcRequest => ⟨0x0604, 2, .live, 15, 3, .none, true⟩
  | .orcRelease => ⟨0x0605, 2, .live, 1, 0, .none, true⟩
  | .orcReleaseFrozen => ⟨0x0606, 1, .live, 1, 0, .none, true⟩
  | .orcTileRead => ⟨0x0607, 3, .none, 4, 4, .std, false⟩
  | .orcStatus => ⟨0x0608, 3, .none, 0, 8, .none, false⟩
  | .prfChanCfg => ⟨0x0700, 1, .halted, 4, 0, .none, false⟩
  | .prfLagCfg => ⟨0x0701, 1, .epoch, 2, 0, .none, true⟩
  | .prfSegPush => ⟨0x0702, 2, .live, 6, 1, .none, true⟩
  | .prfFlush => ⟨0x0703, 2, .live, 1, 0, .none, true⟩
  | .prfRetarget => ⟨0x0704, 2, .live, 2, 0, .none, true⟩
  | .prfDecel => ⟨0x0705, 2, .live, 1, 1, .none, true⟩
  | .prfClear => ⟨0x0706, 1, .live, 1, 0, .none, true⟩
  | .prfStatus => ⟨0x0707, 3, .none, 1, 8, .none, false⟩
  | .trkLoad => ⟨0x0708, 1, .live, 4, 1, .std, true⟩
  | .trkDelete => ⟨0x0709, 1, .live, 1, 0, .none, true⟩
  | .trkInfo => ⟨0x070A, 3, .none, 1, 4, .none, false⟩
  | .bglStop => ⟨0x0800, 4, .live, 7, 1, .none, false⟩
  | .bglRelease => ⟨0x0801, 1, .live, 7, 0, .none, false⟩
  | .bglEnable => ⟨0x0802, 1, .live, 0, 0, .none, false⟩
  | .bglDisable => ⟨0x0803, 1, .live, 0, 0, .none, false⟩
  | .bglAnchorRead => ⟨0x0804, 1, .none, 4, 1, .std, false⟩
  | .radGlobalCfg => ⟨0x0900, 1, .halted, 1, 0, .none, false⟩
  | .radPortCfg => ⟨0x0901, 1, .halted, 3, 0, .none, false⟩
  | .radScriptLoad => ⟨0x0902, 1, .halted, 4, 0, .std, false⟩
  | .radPortEn => ⟨0x0903, 1, .epoch, 1, 0, .none, true⟩
  | .radSlotCfg => ⟨0x0904, 1, .epoch, 3, 0, .none, true⟩
  | .radDeregister => ⟨0x0905, 1, .epoch, 1, 0, .none, true⟩
  | .radPartnerCfg => ⟨0x0906, 1, .epoch, 4, 0, .none, true⟩
  | .radRoleCfg => ⟨0x0907, 1, .halted, 2, 0, .none, false⟩
  | .radAppSend => ⟨0x0908, 2, .live, 4, 4, .std, false⟩
  | .radRawSel => ⟨0x0909, 1, .live, 1, 0, .none, true⟩
  | .radStatus => ⟨0x090A, 3, .none, 1, 8, .none, false⟩
  | .radSlotStatus => ⟨0x090B, 3, .none, 1, 4, .none, false⟩
  | .radPartnerStatus => ⟨0x090C, 3, .none, 1, 4, .none, false⟩
  | .swPortCfg => ⟨0x0A00, 1, .halted, 4, 0, .none, false⟩
  | .swPortEn => ⟨0x0A01, 1, .live, 1, 0, .none, true⟩
  | .swGlobalCfg => ⟨0x0A02, 1, .epoch, 2, 0, .none, true⟩
  | .swVlanCfg => ⟨0x0A03, 2, .epoch, 2, 0, .none, true⟩
  | .swQosCfg => ⟨0x0A04, 2, .epoch, 6, 0, .none, true⟩
  | .swL2Add => ⟨0x0A05, 2, .live, 3, 1, .none, true⟩
  | .swL2Del => ⟨0x0A06, 2, .live, 2, 0, .none, true⟩
  | .swL2Search => ⟨0x0A07, 3, .none, 1, 1, .none, false⟩
  | .swL2Next => ⟨0x0A08, 3, .none, 4, 2, .std, false⟩
  | .swFlushByPort => ⟨0x0A09, 2, .live, 1, 1, .none, false⟩
  | .swRifCfg => ⟨0x0A0A, 1, .epoch, 3, 0, .none, true⟩
  | .swNhSet => ⟨0x0A0B, 2, .live, 3, 0, .none, true⟩
  | .swRouteAdd => ⟨0x0A0C, 2, .live, 2, 0, .none, true⟩
  | .swRouteDel => ⟨0x0A0D, 2, .live, 2, 0, .none, true⟩
  | .swMacsecSa => ⟨0x0A0E, 1, .live, 4, 0, .none, true⟩
  | .swDigestRead => ⟨0x0A0F, 3, .none, 4, 1, .std, false⟩
  | .swBlockRead => ⟨0x0A10, 3, .none, 4, 1, .std, false⟩
  | .swStatus => ⟨0x0A11, 3, .none, 1, 8, .none, false⟩
  | .pwrCfg => ⟨0x0B00, 1, .epoch, 4, 0, .none, true⟩
  | .pwrSet => ⟨0x0B01, 1, .live, 3, 0, .none, false⟩
  | .pwrWakeCfg => ⟨0x0B02, 1, .epoch, 2, 0, .none, true⟩
  | .schClassCfg => ⟨0x0B03, 1, .epoch, 2, 0, .none, true⟩
  | .schStatus => ⟨0x0B04, 3, .none, 0, 8, .none, false⟩
  | .pwrStatus => ⟨0x0B05, 3, .none, 1, 8, .none, false⟩
  | .canPortCfg => ⟨0x0C00, 1, .halted, 3, 0, .none, false⟩
  | .canFilter => ⟨0x0C01, 2, .epoch, 3, 0, .none, true⟩
  | .canSend => ⟨0x0C02, 2, .live, 4, 4, .can, false⟩
  | .canRead => ⟨0x0C03, 1, .none, 4, 4, .std, false⟩
  | .isbCfg => ⟨0x0C04, 1, .halted, 6, 0, .none, false⟩
  | .isbSend => ⟨0x0C05, 2, .live, 5, 1, .std, false⟩
  | .isbRead => ⟨0x0C06, 1, .none, 4, 4, .std, false⟩
  | .smbXfer => ⟨0x0C07, 1, .live, 4, 4, .smb, false⟩
  | .gpioCfg => ⟨0x0C08, 1, .live, 2, 0, .none, true⟩
  | .gpioWrite => ⟨0x0C09, 1, .live, 2, 0, .none, false⟩
  | .gpioRead => ⟨0x0C0A, 3, .none, 0, 1, .none, false⟩
  | .adcCfg => ⟨0x0C0B, 1, .epoch, 6, 0, .none, true⟩
  | .adcRead => ⟨0x0C0C, 1, .none, 4, 4, .std, false⟩
  | .uartCfg => ⟨0x0C0D, 1, .live, 1, 0, .none, true⟩
  | .ifStatus => ⟨0x0C0E, 3, .none, 1, 8, .none, false⟩
  | .mbxBindSet => ⟨0x0D00, 1, .halted, 1, 0, .none, false⟩
  | .cmdPathStatus => ⟨0x0D01, 3, .none, 1, 8, .none, false⟩
  | .keyGenerate => ⟨0x0E00, 1, .live, 2, 1, .none, false⟩
  | .keyImport => ⟨0x0E01, 1, .live, 4, 1, .std, false⟩
  | .keyExport => ⟨0x0E02, 1, .none, 4, 1, .std, false⟩
  | .keyDerive => ⟨0x0E03, 1, .live, 3, 1, .none, false⟩
  | .keyZeroize => ⟨0x0E04, 1, .live, 1, 0, .none, false⟩
  | .keyInfo => ⟨0x0E05, 3, .none, 1, 4, .none, false⟩
  | .keyPublic => ⟨0x0E06, 1, .none, 4, 1, .std, false⟩
  | .lcAdvance => ⟨0x0F00, 1, .live, 2, 0, .none, false⟩
  | .lcStatus => ⟨0x0F01, 3, .none, 0, 4, .none, false⟩
  | .dbgUnlock => ⟨0x0F02, 1, .live, 4, 0, .std, false⟩
  | .selftestRun => ⟨0x0F03, 1, .live, 1, 1, .none, false⟩
  | .tamperCfg => ⟨0x0F04, 1, .halted, 2, 0, .none, false⟩
  | .tamperStatus => ⟨0x0F05, 3, .none, 0, 4, .none, false⟩
  | .recCfg => ⟨0x1000, 1, .epoch, 3, 0, .none, false⟩
  | .recHistCfg => ⟨0x1001, 1, .epoch, 3, 0, .none, false⟩
  | .recHistRead => ⟨0x1002, 3, .none, 4, 1, .std, false⟩
  | .recFlush => ⟨0x1003, 1, .live, 0, 0, .none, false⟩
  | .recClear => ⟨0x1004, 1, .live, 0, 1, .none, false⟩
  | .recClearConfirm => ⟨0x1005, 1, .live, 1, 0, .none, false⟩
  | .updBegin => ⟨0x1100, 2, .live, 4, 2, .std, false⟩
  | .updData => ⟨0x1101, 2, .live, 4, 1, .std, false⟩
  | .updCommit => ⟨0x1102, 2, .live, 1, 1, .none, false⟩
  | .updAbort => ⟨0x1103, 2, .live, 1, 0, .none, false⟩
  | .updConfirm => ⟨0x1104, 2, .live, 0, 0, .none, false⟩
  | .updRollback => ⟨0x1105, 1, .live, 0, 0, .none, false⟩
  | .updStatus => ⟨0x1106, 3, .none, 0, 8, .none, false⟩
  | .bootReset => ⟨0x1107, 1, .live, 1, 0, .none, false⟩

/-- Part 0 of the commands, by rising opcode. -/
def opsPart0 : List Op :=
  [.nop, .genInfo, .txnBegin, .txnCommit, .txnRollback, .txnStatus, .gnsLaneCfg, .gnsLaneEn, .gnsMonCfg,
   .gnsMeasCfg, .gnsChanAlloc, .gnsChanFree, .gnsPlan, .gnsAcq, .gnsLaneStatus, .gnsChanStatus, .gnsMeasRead,
   .refArpSurvey, .refArpSet, .refAntCfg, .refSteerCfg, .refOutCfg, .refSchedSet, .refZflCfg, .refNtripCfg,
   .refNtripUser, .refIntegCfg, .refStatus, .refCorrRead, .fixCfg, .fixGlobalCfg, .fixReset, .fixStatus, .fixRead,
   .brmStatus, .orcGridCfg]

/-- Part 1 of the commands, by rising opcode. -/
def opsPart1 : List Op :=
  [.orcGlobalCfg, .orcSlotCfg, .orcZoneCfg, .orcRequest, .orcRelease, .orcReleaseFrozen, .orcTileRead, .orcStatus,
   .prfChanCfg, .prfLagCfg, .prfSegPush, .prfFlush, .prfRetarget, .prfDecel, .prfClear, .prfStatus, .trkLoad,
   .trkDelete, .trkInfo, .bglStop, .bglRelease, .bglEnable, .bglDisable, .bglAnchorRead, .radGlobalCfg, .radPortCfg,
   .radScriptLoad, .radPortEn, .radSlotCfg, .radDeregister, .radPartnerCfg, .radRoleCfg, .radAppSend, .radRawSel,
   .radStatus, .radSlotStatus]

/-- Part 2 of the commands, by rising opcode. -/
def opsPart2 : List Op :=
  [.radPartnerStatus, .swPortCfg, .swPortEn, .swGlobalCfg, .swVlanCfg, .swQosCfg, .swL2Add, .swL2Del, .swL2Search,
   .swL2Next, .swFlushByPort, .swRifCfg, .swNhSet, .swRouteAdd, .swRouteDel, .swMacsecSa, .swDigestRead,
   .swBlockRead, .swStatus, .pwrCfg, .pwrSet, .pwrWakeCfg, .schClassCfg, .schStatus, .pwrStatus, .canPortCfg,
   .canFilter, .canSend, .canRead, .isbCfg, .isbSend, .isbRead, .smbXfer, .gpioCfg, .gpioWrite, .gpioRead]

/-- Part 3 of the commands, by rising opcode. -/
def opsPart3 : List Op :=
  [.adcCfg, .adcRead, .uartCfg, .ifStatus, .mbxBindSet, .cmdPathStatus, .keyGenerate, .keyImport, .keyExport,
   .keyDerive, .keyZeroize, .keyInfo, .keyPublic, .lcAdvance, .lcStatus, .dbgUnlock, .selftestRun, .tamperCfg,
   .tamperStatus, .recCfg, .recHistCfg, .recHistRead, .recFlush, .recClear, .recClearConfirm, .updBegin, .updData,
   .updCommit, .updAbort, .updConfirm, .updRollback, .updStatus, .bootReset]

/-- Every command of the catalogue, by rising opcode. -/
def allOps : List Op := [opsPart0, opsPart1, opsPart2, opsPart3].flatten

/-- The command an opcode names, if any (R397, order 1). -/
def opOfCode (n : Nat) : Option Op := allOps.find? fun o => (opInfo o).code == n

end Sys2Proof.Machine
end

