-- ==== Sys2Proof/Machine/Codes.lean ====
section
/-! DEFINITION. The numbers of the return codes (14_command_catalogue R420). -/
namespace Sys2Proof.Machine

/-- The 16-bit value of a return code (R420). -/
def rcCode : Rc → Nat
  | .success => 0x0000
  | .acceptedAsync => 0x0001
  | .zeroLength => 0x0002
  | .txnStaged => 0x0003
  | .unknownOpcode => 0x0101
  | .msgLength => 0x0102
  | .reservedValue => 0x0103
  | .lengthShort => 0x0104
  | .laneFmt => 0x0105
  | .schedDup => 0x0106
  | .schedRate => 0x0107
  | .orcHorizon => 0x0108
  | .orcTooLong => 0x0109
  | .prfRange => 0x010A
  | .radScript => 0x010B
  | .radNoFit => 0x010C
  | .isbTooLong => 0x010D
  | .smbPec => 0x010E
  | .trkFormat => 0x010F
  | .noAuthority => 0x0201
  | .notSecChannel => 0x0202
  | .secOnlyChannel => 0x0203
  | .notHalted => 0x0301
  | .noDmaPath => 0x0302
  | .txnNone => 0x0303
  | .txnOpen => 0x0304
  | .txnClass => 0x0305
  | .txnEpochRange => 0x0306
  | .txnExpired => 0x0307
  | .txnConflict => 0x0308
  | .txnSkipped => 0x0309
  | .txnDiscarded => 0x030A
  | .noMeas => 0x030B
  | .sigOutOfBand => 0x030C
  | .chanDup => 0x030D
  | .chanUnalloc => 0x030E
  | .laneOff => 0x030F
  | .orcFrozen => 0x0310
  | .orcNoGrant => 0x0311
  | .orcOutOfGrid => 0x0312
  | .prfOff => 0x0313
  | .prfNoTrack => 0x0314
  | .prfJoint => 0x0315
  | .prfEmpty => 0x0316
  | .trkInUse => 0x0317
  | .bglNoStop => 0x0318
  | .bglNoChain => 0x0319
  | .radNoRegion => 0x031A
  | .radNotActive => 0x031B
  | .radNotPresent => 0x031C
  | .swWalkClosed => 0x031D
  | .l2Absent => 0x031E
  | .routeAbsent => 0x031F
  | .nhUnset => 0x0320
  | .pwrEpochRange => 0x0321
  | .pwrPending => 0x0322
  | .canBusOff => 0x0323
  | .isbNoAddress => 0x0324
  | .smbNack => 0x0325
  | .gpioInUse => 0x0326
  | .notFitted => 0x0401
  | .resourceBusy => 0x0402
  | .txnFull => 0x0403
  | .tagBusy => 0x0404
  | .readQueueFull => 0x0405
  | .noChannel => 0x0406
  | .zflRoom => 0x0407
  | .searchBudget => 0x0408
  | .orcTooBig => 0x0409
  | .orcStoreFull => 0x040A
  | .orcGrantsFull => 0x040B
  | .prfQueueFull => 0x040C
  | .trkStoreFull => 0x040D
  | .radPhase => 0x040E
  | .radNoAck => 0x040F
  | .l2Full => 0x0410
  | .l2Deferred => 0x0411
  | .tcamFull => 0x0412
  | .swBuffer => 0x0413
  | .canQueueFull => 0x0414
  | .smbTimeout => 0x0415
  | .slotMoving => 0x0501
  | .arpInUse => 0x0502
  | .txnInvariant => 0x0503
  | .orcDenied => 0x0504
  | .orcMargin => 0x0505
  | .orcInvariant => 0x0506
  | .prfNoReverse => 0x0507
  | .bglCausePresent => 0x0508
  | .bglResetOnly => 0x0509
  | .bglStopInForce => 0x050A
  | .pwrFleetActive => 0x050B
  | .bglLifecycle => 0x0601
  | .keyDest => 0x0602
  | .keyEmpty => 0x0603
  | .keyUsage => 0x0604
  | .keyNoExport => 0x0605
  | .lcIllegal => 0x0606
  | .tamper => 0x0607
  | .debugLocked => 0x0608
  | .selftestFail => 0x0609
  | .authFail => 0x060A
  | .updateBusy => 0x0701
  | .updHeader => 0x0702
  | .updPart => 0x0703
  | .updFromHash => 0x0704
  | .updSignature => 0x0705
  | .updToHash => 0x0706
  | .updNoSession => 0x0707
  | .updOffset => 0x0708
  | .updNotTrial => 0x0709
  | .updNoRollback => 0x070A
  | .updIdle => 0x070B
  | .cmdTimeout => 0x0F01
  | .internal => 0x0F02
  | .serviceRestart => 0x0F03

/-- A code of class 0x00: the command was accepted (R420). -/
def rcAccepted (c : Rc) : Bool := rcCode c < 0x100

end Sys2Proof.Machine
end

