-- ==== Sys2Proof/Machine/Operands.lean ====
section
/-! DEFINITION. Operand forms: the fields of command words and registers (14_command_catalogue R408, R409), byte strings,
the checks of single fields (00_scope R10, 01_architecture R41), the checksums the manual names, and the integer
arithmetic they need. -/
namespace Sys2Proof.Machine

/-- Bits lo to lo + n − 1 of a natural number. -/
def nbits (v lo n : Nat) : Nat := v / 2 ^ lo % 2 ^ n

/-- Bits lo to lo + n − 1 of a word. -/
def wbits (w : Word) (lo n : Nat) : Nat := nbits w.toNat lo n

/-- Bit i of a word. -/
def wbit (w : Word) (i : Nat) : Bool := w.getLsbD i

/-- A natural number as a two's-complement integer of n bits. -/
def signed (n v : Nat) : Int := if v < 2 ^ (n - 1) then (v : Int) else (v : Int) - 2 ^ n

/-- The low n bits of an integer in two's complement. -/
def low (n : Nat) (v : Int) : Nat := (v % (2 ^ n : Nat)).toNat

/-- A natural number as a word, modulo 2^32. -/
def word (v : Nat) : Word := BitVec.ofNat 32 v

/-- 1 or 0. -/
def b2n (b : Bool) : Nat := if b then 1 else 0

/-- A count that saturates at 0xFFFF_FFFF (14 R410). -/
def sat32 (v : Nat) : Word := word (min v 0xFFFFFFFF)

/-- Request word i of a command; words past the end read 0. -/
def arg (c : Cmd) (i : Nat) : Word := c.words.getD i 0

/-- Field [lo + n − 1 : lo] of request word i. -/
def argF (c : Cmd) (i lo n : Nat) : Nat := wbits (arg c i) lo n

/-- Bit lo of request word i. -/
def argB (c : Cmd) (i lo : Nat) : Bool := wbit (arg c i) lo

/-- A 64-bit value in request words i and i + 1, low word first (R408). -/
def arg64 (c : Cmd) (i : Nat) : Nat := (arg c i).toNat + 2 ^ 32 * (arg c (i + 1)).toNat

/-- Signed request word i. -/
def argI (c : Cmd) (i : Nat) : Int := (arg c i).toInt

/-- The low and high words of a 64-bit value. -/
def words64 (v : Nat) : List Word := [word v, word (v / 2 ^ 32)]

/-- n bytes of a number, little-endian (00 R8). -/
def leBytes : Nat → Nat → List Byte
  | 0, _ => []
  | n + 1, v => BitVec.ofNat 8 v :: leBytes n (v / 256)

/-- n bytes of a number, big-endian. -/
def beBytes (n v : Nat) : List Byte := (leBytes n v).reverse

/-- The number that bytes spell, little-endian. -/
def leNat : List Byte → Nat
  | [] => 0
  | b :: bs => b.toNat + 256 * leNat bs

/-- The number that bytes spell, big-endian. -/
def beNat (bs : List Byte) : Nat := leNat bs.reverse

/-- n bytes from offset `at` of a byte string, little-endian; bytes past the end count as 0. -/
def leAt (bs : List Byte) (ofs n : Nat) : Nat := leNat ((bs.drop ofs).take n)

/-- Bytes cut or zero-padded to n. -/
def fitTo (n : Nat) (bs : List Byte) : List Byte := bs.take n ++ List.replicate (n - bs.length) 0

/-- The bytes of request words i to i + n − 1. -/
def argBytes (c : Cmd) (i : Nat) : Nat → List Byte
  | 0 => []
  | n + 1 => leBytes 4 (arg c i).toNat ++ argBytes c (i + 1) n

/-- Bytes up to the first NUL. -/
def untilNul : List Byte → List Byte
  | [] => []
  | b :: bs => if b = 0 then [] else b :: untilNul bs

/-- The bytes of an ASCII string. -/
def ascii (s : String) : List Byte := s.toList.map fun ch => BitVec.ofNat 8 ch.toNat

/-- The words that bytes fill, little-endian. -/
def packWords : List Byte → List Word
  | a :: b :: c :: d :: bs => word (leNat [a, b, c, d]) :: packWords bs
  | [] => []
  | bs => [word (leNat bs)]

/-- A MAC address: bytes 0 to 3 in word i, bytes 4 and 5 in bits [15:0] of word i + 1, in transmission order (R408). -/
def argMac (c : Cmd) (i : Nat) : BitVec 48 :=
  BitVec.ofNat 48 (beNat (leBytes 4 (arg c i).toNat ++ leBytes 2 (arg c (i + 1)).toNat))

/-- The rule of one field of a request layout: its place and the values its map allows. -/
structure FieldRule where
  word : Nat
  lo : Nat
  width : Nat
  ok : Nat → Bool

/-- A field of any value. -/
def fAny (w lo n : Nat) : FieldRule := ⟨w, lo, n, fun _ => true⟩

/-- A field whose value lies in a to b. -/
def fIn (w lo n a b : Nat) : FieldRule := ⟨w, lo, n, fun v => decide (a ≤ v) && decide (v ≤ b)⟩

/-- A whole word. -/
def fWord (w : Nat) : FieldRule := fAny w 0 32

/-- n whole words from word w on. -/
def fWords (w : Nat) : Nat → List FieldRule
  | 0 => []
  | n + 1 => fWord w :: fWords (w + 1) n

/-- The bits of word w that a layout gives to fields. -/
def covered (fs : List FieldRule) (w : Nat) : Nat :=
  fs.foldl (fun m f => if f.word = w then m ||| ((2 ^ f.width - 1) * 2 ^ f.lo) else m) 0

/-- Every reserved bit is 0 and every field lies in its own range (R10, R41). -/
def fieldsOk (fs : List FieldRule) (c : Cmd) : Bool :=
  (List.range c.words.length).all (fun w => (arg c w).toNat &&& covered fs w == (arg c w).toNat)
    && fs.all fun f => f.ok (argF c f.word f.lo f.width)

/-- One step of a reflected 32-bit CRC over the bits of a byte. -/
def crc32cBits : Nat → Nat → Nat
  | 0, r => r
  | k + 1, r => crc32cBits k (if r % 2 = 1 then (r / 2) ^^^ 0x82F63B78 else r / 2)

/-- CRC-32C: polynomial 0x1EDC_6F41 reflected, initial value and final XOR 0xFFFF_FFFF (10 R298). -/
def crc32c (bs : List Byte) : Nat :=
  bs.foldl (fun r b => crc32cBits 8 (r ^^^ b.toNat)) 0xFFFFFFFF ^^^ 0xFFFFFFFF

/-- One step of CRC-8 over the bits of a byte. -/
def crc8Bits : Nat → Nat → Nat
  | 0, r => r
  | k + 1, r => crc8Bits k (if r ≥ 128 then (r * 2 % 256) ^^^ 0x07 else r * 2)

/-- CRC-8: polynomial 0x07, initial value 0 (12 R367). -/
def crc8 (bs : List Byte) : Nat := bs.foldl (fun r b => crc8Bits 8 (r ^^^ b.toNat)) 0

/-- One step of CRC-16 over the bits of a byte. -/
def crc16Bits : Nat → Nat → Nat
  | 0, r => r
  | k + 1, r => crc16Bits k (if r ≥ 32768 then (r * 2 % 65536) ^^^ 0x1021 else r * 2)

/-- CRC-16/CCITT-FALSE (12 R369). -/
def crc16 (bs : List Byte) : Nat := bs.foldl (fun r b => crc16Bits 8 (r ^^^ (b.toNat * 256))) 0xFFFF

/-- Ceiling of a quotient. -/
def cdiv (a b : Nat) : Nat := (a + b - 1) / b

/-- The digits of the square root of v, four-fold steps deep. -/
def isqrtAux : Nat → Nat → Nat
  | 0, _ => 0
  | k + 1, v =>
    if v = 0 then 0
    else
      let r := 2 * isqrtAux k (v / 4)
      if (r + 1) * (r + 1) ≤ v then r + 1 else r

/-- The integer square root, rounded down; the fuel is the number of binary digits. -/
def isqrt (v : Nat) : Nat := isqrtAux (v.log2 + 1) v

/-- The integer square root, rounded up. -/
def isqrtUp (v : Nat) : Nat := let r := isqrt v; if r * r = v then r else r + 1

/-- Puts an item into a sorted list, after the items it does not precede. -/
def insertBy {α : Type} (le : α → α → Bool) (a : α) : List α → List α
  | [] => [a]
  | b :: l => if le b a then b :: insertBy le a l else a :: b :: l

/-- A list sorted by an order, ties in their first order. -/
def sortBy {α : Type} (le : α → α → Bool) (l : List α) : List α := l.foldl (fun acc a => insertBy le a acc) []

end Sys2Proof.Machine
end

