-- ==== Sys2Proof/Machine/Ops.lean ====
section
/-! DEFINITION. The named operations over the state that every family shares: time, the common queue rules, interrupts,
records, free values, host memory, arrival paths and replies. -/
namespace Sys2Proof.Machine

/-! ### Time (02_timebase) -/

/-- One nanosecond on the time count, whose unit is 2^-32 ns (02 R50). -/
def nsU : Nat := 2 ^ 32
/-- One microsecond. -/
def usU : Nat := 1000 * nsU
/-- One millisecond. -/
def msU : Nat := 1000 * usU
/-- One second. -/
def secU : Nat := 1000 * msU
/-- One epoch, 100 ms (01 R21). -/
def epU : Nat := 100 * msU
/-- One radio slot, 2.5 ms (01 R21). -/
def slotU : Nat := 2500 * usU

/-- The part has the resources of the PQ9192; otherwise of the PQ9096 (00 R2). -/
def Dev.full (s : Dev) : Bool := s.gen.part == 0x9192
/-- Machine slots of the part. (DESIGN CHOICE: log entry 1.) -/
def Dev.nSlots (s : Dev) : Nat := if s.full then 192 else 96
/-- Radio ports of the part. (DESIGN CHOICE: log entry 1.) -/
def Dev.nPorts (s : Dev) : Nat := if s.full then 8 else 4
/-- Correlator channels of the part. (DESIGN CHOICE: log entry 1.) -/
def Dev.nChans (s : Dev) : Nat := if s.full then 1536 else 768
/-- Tj_max of the grade, °C (11 R348). (DESIGN CHOICE: log entry 1.) -/
def Dev.tjMax (s : Dev) : Int := if s.gen.gradeX then 115 else 105

/-- The 32-bit number of a full epoch count (01 R23). -/
def epoch32 (e : Nat) : Word := word e
/-- The number of the current epoch. -/
def Dev.epoch (s : Dev) : Word := epoch32 s.gen.epochFull
/-- Epoch number a is later than b (01 R22). -/
def later (a b : Word) : Bool := decide (1 ≤ (a - b).toNat) && decide ((a - b).toNat < 2 ^ 31)
/-- The full count of epoch number `e` nearest ahead of full count `base` (01 R22). -/
def fullOf (base : Nat) (e : Word) : Nat := base + (e - epoch32 base).toNat

/-- Time goes on by d: the elapsed-time counts always, the time of day while the timebase advances (02 R498), and
operating time except in BACKUP (16 R443). (DESIGN CHOICE: log entries 2, 5.) -/
def Dev.advance (s : Dev) (d : Nat) : Dev :=
  { s with
    tbs := { s.tbs with mono := s.tbs.mono + d, time := if s.tbs.en then s.tbs.time + d else s.tbs.time }
    evr := { s.evr with opTime := if s.blw.backup then s.evr.opTime else s.evr.opTime + d }
    blw := { s.blw with times := match s.blw.st, s.blw.times with
      | .run, [a, b, c] => [a + d, b, c]
      | .doze, [a, b, c] => [a, b + d, c]
      | .night, [a, b, c] => [a, b, c + d]
      | _, l => l } }

/-- Time goes on to TAI t, or stands when it has passed t already. (DESIGN CHOICE: log entry 5.) -/
def Dev.advanceTo (s : Dev) (t : Nat) : Dev := s.advance (t - s.tbs.time)

/-- Elapsed time goes on to t, or stands when it has passed t already. (DESIGN CHOICE: log entry 5.) -/
def Dev.advanceMono (s : Dev) (t : Nat) : Dev := s.advance (t - s.tbs.mono)

/-- The first instant at or after TAI t of a compare unit with period p > 0 and remainder r, after the one that fired last
(02 R57). (DEDUCED: log entry 19.) -/
def nextFire (p r t : Nat) (last : Option Nat) : Nat :=
  let t := match last with | some l => max t (l + 1) | none => t
  let r := r % p
  cdiv (t + p - r) p * p + r - p

/-- OP_TIME in seconds (16 R442). -/
def Dev.opSec (s : Dev) : Nat := s.evr.opTime / secU % 2 ^ 32

/-- The 80-bit timestamp of a time: nanoseconds in [31:0], seconds in [79:32] (02 R72). -/
def stamp80 (t : Nat) : Nat := t % secU / nsU + 2 ^ 32 * (t / secU % 2 ^ 48)

/-- A timestamp in words n to n + 2 (14 R408). -/
def stampWords (t : Nat) : List Word := [word (stamp80 t), word (stamp80 t / 2 ^ 32), word (stamp80 t / 2 ^ 64)]

/-- Elapsed time since the latest TBS_SYNC write (02 R62). -/
def Dev.sinceSync (s : Dev) : Nat := s.tbs.mono - s.tbs.syncAt

/-- Drift bound in force, ppb (02 R62). -/
def Dev.drift (s : Dev) : Nat := if s.tbs.on32k then s.tbs.drift32Ppb else s.tbs.driftPpb

/-- Time spent on XO32K since the latest TBS_SYNC write (02 R62, R63). (DEDUCED: log entry 49.) -/
def Dev.on32Time (s : Dev) : Nat :=
  s.tbs.spent32 + if s.tbs.on32k then s.tbs.mono - max s.tbs.at32 s.tbs.syncAt else 0

/-- The error bound, in 10^-9 × 2^-32 ns: UNC + DRIFT × t, each clock with its own DRIFT for the time the timebase ran on it
(02 R62). (DEDUCED: log entry 49.) -/
def Dev.errExact (s : Dev) : Nat :=
  s.tbs.unc * 10 ^ 9 * nsU + s.tbs.driftPpb * (s.sinceSync - s.on32Time) + s.tbs.drift32Ppb * s.on32Time

/-- The timebase moves to XO32K or back to REFCLK (02 R63). (DEDUCED: log entries 49, 50.) -/
def Dev.setClock (s : Dev) (on : Bool) : Dev :=
  if on = s.tbs.on32k then s
  else { s with tbs := { s.tbs with on32k := on, at32 := s.tbs.mono, spent32 := if on then s.tbs.spent32 else s.on32Time } }

/-- TBS_ERR.ERR_NS, saturating; all ones before the first TBS_SYNC write (02 R62). -/
def Dev.errNs (s : Dev) : Nat :=
  if s.tbs.syncSeen then min (s.errExact / (10 ^ 9 * nsU)) 0xFFFFFFFF else 0xFFFFFFFF

/-- TIME_VALID (02 R62). -/
def Dev.timeValid (s : Dev) : Bool :=
  s.tbs.syncSeen && !s.tbs.needSync && decide (s.errExact ≤ s.tbs.limitUs * 1000 * (10 ^ 9 * nsU))

/-- HOLDOVER (02 R62). -/
def Dev.holdover (s : Dev) : Bool := s.tbs.syncSeen && decide (s.sinceSync ≥ 1500 * msU)

/-- GO_ACTIVE: one of the last 4 frozen beacons carried a token (08 R241). -/
def Dev.goActive (s : Dev) : Bool := (s.bgl.beacons.take 4).any Option.isSome

/-! ### The common queue rules (01 R33 to R38) -/

/-- Crossings of a level that changes from `old` to `new` (R37): the queue's flags and counts, and whether a HI crossing
occurred. -/
def Queue.settle {α : Type} (q : Queue α) (old : Nat) : Queue α × Bool :=
  let n := q.items.length
  if old < q.hi ∧ q.hi ≤ n then
    ({ q with hiSeen := true, levelAbove := true, crossings := min (q.crossings + 1) 65535 }, true)
  else if q.lo < old ∧ n ≤ q.lo ∧ q.levelAbove then
    ({ q with loSeen := true, levelAbove := false, crossings := min (q.crossings + 1) 65535 }, false)
  else (q, false)

/-- Raises the count of the open GAP marker at the tail (R34). -/
def bumpGap {α : Type} : List (QItem α) → List (QItem α)
  | [] => []
  | [.gap n] => [.gap (min (n + 1) 65535)]
  | i :: is => i :: bumpGap is

/-- Offers a data item (R33, R34): it is accepted while LEVEL < D − 1, and otherwise dropped and counted in a GAP marker.
The flag tells a HI crossing. -/
def Queue.push {α : Type} (q : Queue α) (a : α) (eop : Bool) : Queue α × Bool :=
  let old := q.items.length
  if old < q.depth - 1 then
    Queue.settle { q with items := q.items ++ [.data a eop], gapOpen := false } old
  else if q.gapOpen then
    ({ q with items := bumpGap q.items, drops := min (q.drops + 1) 0xFFFFFFFF }, false)
  else
    Queue.settle { q with items := q.items ++ [.gap 1], gapOpen := true, drops := min (q.drops + 1) 0xFFFFFFFF } old

/-- Reads an item (R35): an empty queue gives the last item read and sets UNDERRUN. -/
def Queue.pop {α : Type} (q : Queue α) : Option (QItem α) × Queue α :=
  match q.items with
  | [] => (q.last, { q with underrun := true })
  | i :: is =>
    (some i, (Queue.settle { q with
      items := is, last := some i, gapOpen := q.gapOpen && !is.isEmpty
      inPacket := match i with | .data _ e => !e | .gap _ => q.inPacket } (is.length + 1)).1)

/-- The items after the next end of packet, and whether there was one. -/
def afterPacket {α : Type} : List (QItem α) → List (QItem α) × Bool
  | [] => ([], false)
  | .data _ true :: is => (is, true)
  | _ :: is => afterPacket is

/-- QCTL.DROP_PACKET (R36). -/
def Queue.dropPacket {α : Type} (q : Queue α) : Queue α :=
  if q.inPacket then
    let r := afterPacket q.items
    (Queue.settle { q with items := r.1, inPacket := !r.2, gapOpen := q.gapOpen && !r.1.isEmpty } q.items.length).1
  else q

/-- QCTL.CLR_COUNT. -/
def Queue.clrCount {α : Type} (q : Queue α) : Queue α := { q with crossings := 0, drops := 0 }

/-- QWM (R38): refused as a whole with WM_ERR when HI = 0, HI > D or LO ≥ HI. -/
def Queue.setWm {α : Type} (q : Queue α) (hi lo : Nat) : Queue α :=
  if hi = 0 ∨ q.depth < hi ∨ hi ≤ lo then { q with wmErr := true } else { q with hi := hi, lo := lo }

/-- The status flags of a queue that W1C writes clear: HI_SEEN, LO_SEEN, UNDERRUN, WM_ERR. -/
def Queue.w1c {α : Type} (q : Queue α) (v : Word) : Queue α :=
  { q with
    hiSeen := q.hiSeen && !wbit v 17, loSeen := q.loSeen && !wbit v 18
    underrun := q.underrun && !wbit v 19, wmErr := q.wmErr && !wbit v 21 }

/-- QSTAT. -/
def Queue.stat {α : Type} (q : Queue α) : Word :=
  word (q.items.length + 2 ^ 16 * b2n q.levelAbove + 2 ^ 17 * b2n q.hiSeen + 2 ^ 18 * b2n q.loSeen
    + 2 ^ 19 * b2n q.underrun + 2 ^ 20 * b2n q.gapOpen + 2 ^ 21 * b2n q.wmErr)

/-- Crossings of a ring's level (R362, R404). -/
def RingQ.settle (q : RingQ) (old new : Nat) : RingQ :=
  if old < q.hi ∧ q.hi ≤ new then
    { q with hiSeen := true, levelAbove := true, crossings := min (q.crossings + 1) 65535 }
  else if q.lo < old ∧ new ≤ q.lo ∧ q.levelAbove then
    { q with loSeen := true, levelAbove := false, crossings := min (q.crossings + 1) 65535 }
  else q

/-- QWM of a ring of depth d (R38). -/
def RingQ.setWm (q : RingQ) (d hi lo : Nat) : RingQ :=
  if hi = 0 ∨ d < hi ∨ hi ≤ lo then { q with wmErr := true } else { q with hi := hi, lo := lo }

/-- QSTAT of a ring whose level is n. -/
def RingQ.stat (q : RingQ) (n : Nat) : Word :=
  word (n + 2 ^ 16 * b2n q.levelAbove + 2 ^ 17 * b2n q.hiSeen + 2 ^ 18 * b2n q.loSeen + 2 ^ 21 * b2n q.wmErr)

/-- W1C of a ring's QSTAT. -/
def RingQ.w1c (q : RingQ) (v : Word) : RingQ :=
  { q with hiSeen := q.hiSeen && !wbit v 17, loSeen := q.loSeen && !wbit v 18, wmErr := q.wmErr && !wbit v 21 }

/-! ### Interrupts (12 R359, R360) -/

/-- Sends an MSI-X vector (PF1 vectors count from 64), or sets its PBA bit while it is masked (R360).
(PRESUMED: log entry 25.) -/
def Dev.vector (s : Dev) (v : Nat) : Dev :=
  if tget false s.gen.msixOpen v then
    { s with gen := { s.gen with msixSent := tmod 0 s.gen.msixSent v (· + 1) } }
  else { s with gen := { s.gen with msixPba := tset false s.gen.msixPba v true } }

/-- A cause of GEN_IRQ_STATUS arises: its bit rises, and vector 25 + n is sent when the mask enables it (R359, R360). -/
def Dev.irq (s : Dev) (n : Nat) : Dev :=
  if s.gen.irqStatus.getLsbD n then s
  else
    let s := { s with gen := { s.gen with irqStatus := s.gen.irqStatus ||| BitVec.ofNat 12 (2 ^ n) } }
    if s.gen.irqMask.getLsbD n then s.vector (25 + n) else s

/-- A cause arises if a condition holds. -/
def Dev.irqIf (s : Dev) (n : Nat) (b : Bool) : Dev := if b then s.irq n else s

/-- GEN_STATUS.CFG_REJECT: a register write was refused (01 R39, 00 R497). -/
def Dev.cfgReject (s : Dev) : Dev :=
  { s with gen := { s.gen with cfgReject := true } }.irqIf 0 (!s.gen.cfgReject)

/-! ### Free values -/

/-- The next word of the DRBG: a free value. (DESIGN CHOICE: log entry 6.) -/
def Dev.draw (s : Dev) : Word × Dev := (Config.freeWord s.free, { s with free := s.free + 1 })

/-! ### Records (16_event_recorder) -/

/-- Depth and refill interval of a severity's buckets at delivery (R446): INFO, WARN, FAULT. -/
def sevDefault : Nat → Nat × Nat
  | 0 => (8, 60)
  | 1 => (16, 10)
  | _ => (64, 1)

/-- Depth and refill interval in force for a code (R446). -/
def Dev.bucketCfg (s : Dev) (code : Nat) : Nat × Nat :=
  (s.bucket code).own.getD ((tget none s.evr.sevCfg (code / 2 ^ 14)).getD (sevDefault (code / 2 ^ 14)))

/-- Healthy staging pages (R453). -/
def Recorder.healthy (r : Recorder) : Nat := ((List.range 32).filter fun i => !r.retired.getLsbD i).length

/-- A flush starts, or the trigger joins the one that runs (R449). In STORE_FAIL only CMP26 and PFW_N start one (R452). -/
def Dev.flush (s : Dev) : Dev :=
  if s.evr.flushing then { s with evr := { s.evr with flushN := s.evr.staged } }
  else if s.evr.storeFail then s
  else { s with evr := { s.evr with flushing := true, flushN := s.evr.staged, badPage := false, retry := false } }

/-- The healthy staging pages hold 256 records each; with none, only the record being written (R453). -/
def Recorder.room (r : Recorder) : Nat := max 1 (256 * r.healthy)

/-- The oldest record of a newest-first list that is still staged and is not a founding-area record gives way (R452). -/
def giveWay (founding : List Rec) : List Rec → List Rec
  | [] => []
  | r :: rs =>
    let later := giveWay founding rs
    if later.length < rs.length ∨ r.page.isSome ∨ founding.any (fun f => f.rnum == r.rnum) then r :: later else rs

/-- Enters a committed record: the next RNUM, the circulating area, the founding area for the first 1,024, staging
(R447, R448, R452); it starts a flush when the record is fault-class or 84 are staged (R449). -/
def Dev.commitRec (s : Dev) (r : Rec) : Dev :=
  let r := { r with rnum := s.evr.next }
  let e := s.evr
  let left := if e.room ≤ e.staged then giveWay e.founding e.circ else e.circ
  let s := { s with evr := { e with
    next := (e.next + 1) % 2 ^ 32, total := e.total + 1
    circ := (r :: left).take 16384
    founding := if e.total < 1024 then e.founding ++ [r] else e.founding
    staged := e.staged + 1 - (e.circ.length - left.length) } }
  let fault := decide (2 ≤ r.code.toNat / 2 ^ 14)
  let s := s.irqIf 6 fault
  let s := if fault || decide (84 ≤ s.evr.staged) then s.flush else s
  if fault && s.evr.flushing then { s with evr := { s.evr with flushExempt := true } } else s

/-- A record of a code as it stands at this moment (R442). -/
def Dev.mkRec (s : Dev) (code : Nat) (slot : Byte) (payload : List Byte) (supp : Nat) (sentinel : Bool) : Rec :=
  let tai := s.evr.taiEn && s.timeValid
  { rnum := 0, opTime := s.opSec, pcycle := s.evr.pcycle, tai := tai, suppSat := decide (255 < supp)
    sentinel := sentinel, retained := false, code := BitVec.ofNat 16 code, slot := slot
    supp := min supp 255, payload := fitTo 16 payload, epoch := if tai then s.epoch else 0 }

/-- A record offered under a code (R446): committed when it finds a token, and otherwise counted as suppressed; SAFETY
records are never suppressed. While a clear runs, records wait (R456). (DEDUCED: log entry 121.) -/
def Dev.recordRaw (s : Dev) (code : Nat) (slot : Byte) (payload : List Byte) : Dev :=
  let b := s.bucket code
  if s.evr.clearing then
    { s with evr := { s.evr with waiting := s.evr.waiting ++ [{ code := BitVec.ofNat 16 code, slot := slot, payload := payload }] } }
  else if code / 2 ^ 14 < 3 ∧ (s.bucketCfg code).1 ≤ b.missing then
    s.bucketMod code fun b => { b with pending := b.pending + 1 }
  else
    let r := s.mkRec code slot payload b.pending false
    (s.bucketMod code fun b => { b with
      pending := 0, missing := if code / 2 ^ 14 < 3 then b.missing + 1 else b.missing }).commitRec r

/-- A record that concerns no machine slot. (DESIGN CHOICE: log entry 20.) -/
def Dev.log (s : Dev) (code : Nat) (payload : List Byte) : Dev := s.recordRaw code 0xFF payload

/-- A record that concerns a machine slot. -/
def Dev.logSlot (s : Dev) (code slot : Nat) (payload : List Byte) : Dev :=
  s.recordRaw code (BitVec.ofNat 8 slot) payload

/-- Code of a record that the chapters mention without one (16 R445): severity, group, and an EVENT of firmware's choice
(log entry 20). -/
def fwCode (sev group ev : Nat) : Nat := sev * 2 ^ 14 + group * 2 ^ 8 + ev

/-! ### Host memory and transfer areas (13 R386, 14 R409) -/

/-- A cell list with one byte set, addresses strictly rising. -/
def cellSet : List Host.Cell → Nat → Byte → List Host.Cell
  | [], a, b => [(a, b)]
  | (a', b') :: m, a, b =>
    if a < a' then (a, b) :: (a', b') :: m else if a = a' then (a, b) :: m else (a', b') :: cellSet m a b

/-- Bytes written from an address on. -/
def cellsSet (m : List Host.Cell) (a : Nat) : List Byte → List Host.Cell
  | [] => m
  | b :: bs => cellsSet (cellSet m a b) (a + 1) bs

/-- The canonical form of host memory: addresses strictly rising. An address that is not listed holds what the host put
there, which the device does not know, so no byte stands for it. -/
def Memory.wf : List Host.Cell → Bool
  | x :: y :: m => decide (x.1 < y.1) && Memory.wf (y :: m)
  | _ => true

/-- The byte that the device has written at an address, if any. -/
def Memory.read (m : List Host.Cell) (a : Nat) : Option Byte := (m.find? fun c => c.1 == a).map Prod.snd

/-- The device writes bytes into host memory. (DESIGN CHOICE: log entry 9.) -/
def Dev.dma (s : Dev) (a : Nat) (bs : List Byte) : Dev := { s with writes := s.writes ++ [(a, bs)] }

/-- The address that names a channel's transfer area (13 R386). -/
def xferAddr : Nat := 0xFFFFFFFFFFFFF000

/-- Bytes set in a transfer area from an offset on. -/
def xferSet (t : Tab Byte) (ofs : Nat) : List Byte → Tab Byte
  | [] => t
  | b :: bs => xferSet (tset 0 t ofs b) (ofs + 1) bs

/-- Writes bytes into the transfer area of a channel; the area ends at 352 bytes. -/
def Dev.xferWrite (s : Dev) (ch ofs : Nat) (bs : List Byte) : Dev :=
  { s with mbx := { s.mbx with
    xfer := tmod [] s.mbx.xfer ch fun t => xferSet t ofs (bs.take (352 - ofs)) } }

/-- A byte of a channel's transfer area. (DESIGN CHOICE: log entry 9.) -/
def Dev.xferByte (s : Dev) (ch ofs : Nat) : Byte := tget 0 (tget [] s.mbx.xfer ch) ofs

/-- Writes the data of a read to the buffer a command names: host memory, or the transfer area of its channel.
(DESIGN CHOICE: log entry 9.) -/
def Dev.toBuffer (s : Dev) (p : Path) (a : Nat) (bs : List Byte) : Dev :=
  match p with
  | .mbx ch => if 8 ≤ ch.val ∧ ch.val ≤ 11 ∧ a = xferAddr then s.xferWrite ch.val 0 bs else s.dma a bs
  | _ => s.dma a bs

/-! ### Arrival paths (13 R396, 01 R40) -/

/-- Rank of a path's authority class: 1 LOCAL, 2 SITE, 3 SERVICE, 4 FIELD; INTERNAL channels carry no catalogue command
(R383), which rank 7 shows. -/
def pathRank : Path → Nat
  | .mbx ch => if ch.val ≤ 11 ∨ ch.val = 15 then 1 else if ch.val = 12 then 3 else 7
  | .ring _ => 1
  | .mgmt => 1
  | .site => 2
  | .field => 4

/-- The path comes from HPF0: channels 0 to 7 and 15, and the rings (13 R398). -/
def fromHpf0 : Path → Bool
  | .mbx ch => ch.val ≤ 7 || ch.val == 15
  | .ring _ => true
  | _ => false

/-- Arrival port in the encoding of TXN_STATUS; 5 for the radio and ESTOP paths (01 R40, 14 R499). -/
def pathPort : Path → Nat
  | .mbx ch => if ch.val ≤ 7 ∨ ch.val = 15 then 0 else if ch.val ≤ 11 then 2 else if ch.val = 12 then 4 else 5
  | .ring _ => 0
  | .mgmt => 1
  | .site => 3
  | .field => 5

/-- Key of a path in the path counters. -/
def pathKey : Path → Nat
  | .mbx ch => ch.val
  | .ring r => 32 + r.val
  | .mgmt => 48
  | .site => 49
  | .field => 50

/-- The path's channel has the secure core as endpoint B (13 R383, R385). -/
def Dev.secPath (s : Dev) : Path → Bool
  | .mbx ch => ch.val == 15 || (ch.val == 11 && s.mbx.bind11)
  | _ => false

/-! ### Replies -/

/-- What a command's own meaning answers: a code and response words, or nothing yet, and the state it leaves. -/
structure Res where
  code : Option Rc
  words : List Word
  st : Dev

/-- A command refused with a code, nothing changed. -/
def refuse (s : Dev) (c : Rc) : Res := ⟨some c, [], s⟩

/-- A command that succeeds with response words. -/
def done (s : Dev) (ws : List Word) : Res := ⟨some .success, ws, s⟩

/-- A command that completes later. -/
def later' (s : Dev) : Res := ⟨none, [], s⟩

/-- The model's output register takes an answer. (DESIGN CHOICE: log entry 4.) -/
def Dev.answer (s : Dev) (code : Rc) (tag : BitVec 8) (ws : List Word) (epoch : Word) : Dev :=
  { s with reply := { code := code, tag := tag, words := ws, epoch := epoch, pendingDone := false } }

/-- The model's output register takes the data of a register read. (DESIGN CHOICE: log entry 4.) -/
def Dev.readOut (s : Dev) (ws : List Word) : Dev := { s with reply := { words := ws, epoch := s.epoch } }

/-- The writes of a step reach host memory in their order. -/
def applyWrites (m : List Host.Cell) (ws : List (Nat × List Byte)) : List Host.Cell :=
  ws.foldl (fun m x => cellsSet m x.1 x.2) m

/-- The machine after a step that leaves the device as `d`. (DESIGN CHOICE: log entry 9.) -/
def State.after (s : State) (d : Dev) : State :=
  { s with dev := { d with writes := [] }, hostMem := applyWrites s.hostMem d.writes }

/-- The outcome of every step: a next state, in which the device is what `f` makes of it. -/
def act (s : State) (f : Dev → Dev) : Host.Outcome State Fault Refusal := .next (s.after (f s.dev))

/-- Master identities as keys of the latches. -/
def masterKey : Master → Nat
  | .sec => 0 | .safe => 1 | .sup => 2 | .clu => 3 | .hpf0 => 4 | .hpf1 => 5 | .spih => 6 | .uart => 7 | .dbg => 8

/-- The debug port is open (15 R422, R440). -/
def Dev.debugOpen (s : Dev) : Bool := s.sec.lc == 0 || s.sec.lc == 3 || s.sec.debug

/-- A write of this master reaches the registers of PF0 BAR0: SPIH may write mailbox registers alone (12 R368), and HPF1 and
UART carry no register access of this map (13 R382). (DEDUCED: log entry 33.) -/
def Dev.reaches (s : Dev) (m : Master) : Bool :=
  !s.blw.off && !s.blw.backup && (match m with
    | .spih | .uart | .hpf1 => false
    | .dbg => s.debugOpen
    | _ => true)

/-- A register write that changes nothing; SPIH reports it with WRITE_REFUSED (12 R368).
(DEDUCED: log entries 33, 135.) -/
def Dev.turnAway (s : Dev) (m : Master) : Dev :=
  if m = .spih then { s with ifc := { s.ifc with spiWr := true } } else s

/-- The response words of a refusal: ORC_REQUEST has 3 on every refusal, and names no grant (06 R195). -/
def refusalWords (op : Op) : List Word := if op = .orcRequest then [0xFFFF, 0, 0] else []

end Sys2Proof.Machine
end

