-- ==== Sys2Proof/Machine/Histogram.lean ====
section
/-! DEFINITION. The recorder's histograms and extreme trackers (16_event_recorder R457): their delivery configuration, and
the samples that every family offers them. -/
namespace Sys2Proof.Machine

/-- Histogram k at delivery (R457). -/
def Dev.histDefault (s : Dev) (k : Nat) : Hist :=
  let mk (src par : Nat) (lo : Int) (w : Nat) : Hist :=
    { en := true, source := src, param := par, nbins := 32, lo := lo, width := w }
  if k = 0 then mk 0 0 (-40) 5
  else if k = 1 then mk 2 0 864 2
  else if k = 2 then mk 3 0 0 100
  else if 3 ≤ k ∧ k ≤ 10 then { mk 4 (k - 3) (-110) 3 with en := s.full || decide (k < 7) }
  else if k = 11 then mk 5 0 0 13
  else if k = 12 then mk 6 0 0 1
  else {}

/-- Extreme tracker k at delivery (R457). -/
def extDefault (k : Nat) : Extreme :=
  if k < 16 then { en := true, source := 1, param := k } else if k = 16 then { en := true, source := 3 } else {}

/-- Histogram k. -/
def Dev.hist (s : Dev) (k : Nat) : Hist := (tget none s.evr.hists k).getD (s.histDefault k)

/-- Extreme tracker k. -/
def Dev.ext (s : Dev) (k : Nat) : Extreme := (tget none s.evr.exts k).getD (extDefault k)

/-- Replaces histogram k. -/
def Dev.setHist (s : Dev) (k : Nat) (h : Hist) : Dev :=
  { s with evr := { s.evr with hists := tset none s.evr.hists k (some h) } }

/-- Replaces extreme tracker k. -/
def Dev.setExt (s : Dev) (k : Nat) (x : Extreme) : Dev :=
  { s with evr := { s.evr with exts := tset none s.evr.exts k (some x) } }

/-- A source whose samples PARAM tells apart. (DEDUCED: log entry 134.) -/
def hasParam (source : Nat) : Bool := source == 1 || source == 2 || source == 4 || source == 8

/-- The bin of a value (R457). -/
def Hist.bin (h : Hist) (v : Int) : Nat := min ((v - h.lo) / h.width).toNat (h.nbins - 1)

/-- A histogram takes a value. -/
def Hist.take (h : Hist) (v : Int) : Hist := { h with bins := tinc h.bins (h.bin v) }

/-- An extreme tracker takes a value at an operating time. -/
def Extreme.take (x : Extreme) (v : Int) (op : Nat) : Extreme :=
  { x with
    min := if x.min.elim true fun m => decide (v < m.1) then some (v, op) else x.min
    max := if x.max.elim true fun m => decide (m.1 < v) then some (v, op) else x.max }

/-- A sample of a source is offered to every enabled histogram and extreme tracker of it (R457).
(DEDUCED: log entry 134.) -/
def Dev.sample (s : Dev) (source param : Nat) (v : Int) : Dev :=
  let mine (en : Bool) (src par : Nat) : Bool := en && src == source && (!hasParam source || par == param)
  let s := (List.range 64).foldl (fun s k =>
    let h := s.hist k
    if mine h.en h.source h.param then s.setHist k (h.take v) else s) s
  (List.range 128).foldl (fun s k =>
    let x := s.ext k
    if mine x.en x.source x.param then s.setExt k (x.take v s.opSec) else s) s

end Sys2Proof.Machine
end

