-- ==== Sys2Proof/Machine/Sched.lean ====
section
/-! DEFINITION. The event scheduler: classes, ordering domains, admission, dispatch, preemption and the trace (chapter 11
R322 to R332, R338, R346). -/
namespace Sys2Proof.Machine

/-- Class of a command event, by its opcode (R323). -/
def opClass (op : Op) : Nat :=
  let c := (opInfo op).code
  if op = .bglStop then 0
  else if 0x0500 ≤ c ∧ c ≤ 0x09FF then 1
  else if 0x0300 ≤ c ∧ c ≤ 0x04FF then 2
  else if 0x0A00 ≤ c ∧ c ≤ 0x0AFF then 3
  else 4

/-- A domain that R324 gives events to; machine slots are those of the part (R20). -/
def Dev.domainOk (s : Dev) (d : Nat) : Bool :=
  !(d < 192 && s.nSlots ≤ d) && !(d == 270 || d == 271) && !(333 ≤ d && d ≤ 335) && !(371 ≤ d && d ≤ 1023)

/-- The class configuration at delivery (SCH_CLASS_CFG). -/
def clsDefault (c : Nat) : ClsCfg :=
  { sup := c == 0 || c == 3 || c == 4
    quota := if c = 2 then 3000 else if c = 3 then 2000 else if c = 4 then 500 else 0 }

/-- The class configuration in force. -/
def Dev.clsCfg (s : Dev) (c : Nat) : ClsCfg := (tget none s.sch.cls c).getD (clsDefault c)

/-- A core whose domain runs: all in RUN, CLU0 and the supervisor in DOZE, the supervisor in NIGHT (R333, R338). -/
def Dev.coreRuns (s : Dev) (k : Nat) : Bool :=
  match s.blw.st with
  | .run => true
  | .doze => k < 4 || k == 16
  | .night => k == 16

/-- A core that the class configuration allows an event (R331). -/
def maskHas (c : ClsCfg) (k : Nat) : Bool := if k = 16 then c.sup else c.mask.getLsbD k

/-- The cores an event may run on: core 16 for a command (R331); otherwise its mask, cut to the running cores, and cores 0
to 3 where nothing is left of it in DOZE (R338). -/
def Dev.coresOf (s : Dev) (e : Ent) : List Nat :=
  if e.cmd then [16]
  else
    let l := (List.range 17).filter fun k => maskHas (s.clsCfg e.cls) k && s.coreRuns k
    if l.isEmpty && decide (s.blw.st = .doze) then [0, 1, 2, 3] else l

/-- The admitted events with their entry numbers. -/
def Dev.ents (s : Dev) : List (Nat × Ent) := s.sch.ents.filterMap fun p => p.2.map fun e => (p.1, e)

/-- A core that executes no event. -/
def Dev.coreFree (s : Dev) (k : Nat) : Bool := s.ents.all fun p => p.2.core != some k

/-- The throttle level limits a class (R346). -/
def Dev.limited (s : Dev) (c : Nat) : Bool :=
  (c == 4 && decide (1 ≤ s.blw.level)) || (c == 3 && decide (2 ≤ s.blw.level)) || (c == 2 && decide (3 ≤ s.blw.level))

/-- An event's class quota of the tick is not spent; flushes that a fault-class record or PFW_N triggered are exempt (R346).
While PFW_N stands, classes MEASURE, NET and BULK are halted (R341). -/
def Dev.quotaOk (s : Dev) (e : Ent) : Bool :=
  (e.domain == 369 && s.evr.flushExempt)
    || (!(s.sch.halted && decide (2 ≤ e.cls))
      && (!s.limited e.cls || decide (tget 0 s.sch.used e.cls < (s.clsCfg e.cls).quota)))

/-- The trace takes an item (R332): decisions of traced classes and domains while EN = 1; ADMIT and COMPLETE with DETAIL. -/
def Dev.trace (s : Dev) (action reason core entry : Nat) (e : Ent) : Dev :=
  let c := s.sch
  let detail := action == 0 || action == 2
  if c.trcEn && c.trcMask.getLsbD e.cls && decide (c.domLo ≤ e.domain) && decide (e.domain ≤ c.domHi)
      && (!detail || c.trcDetail) then
    let it : Trc := {
      action := action, ofs := s.tbs.time % epU / (100 * nsU), reason := reason, epochLo := s.gen.epochFull % 65536
      domain := e.domain, cls := e.cls, core := core, entry := entry, source := e.source, seq := c.trcSeq }
    let r := c.trc.push it true
    { s with sch := { c with
      trc := r.1, trcSeq := (c.trcSeq + 1) % 65536, trcEn := !(c.trcFreeze && r.2) } }.irqIf 7 r.2
  else s

/-- Entries of a pool in use (R326). -/
def Dev.poolUsed (s : Dev) (p : Nat) : Nat := (s.ents.filter fun x => x.2.pool == p).length

/-- Entries of each pool (R326): SAFETY, FLEET and MEASURE reserves, shared. -/
def poolSize : Nat → Nat
  | 0 => 32
  | 1 => 576
  | 2 => 64
  | _ => 352

/-- The pools an event draws on, in order (R326). -/
def poolsOf (cls : Nat) (cmd : Bool) : List Nat :=
  if cls = 0 then [0, 3] else if cls = 1 ∧ !cmd then [1, 3] else if cls = 2 then [2, 3] else [3]

/-- The first of some pools that has an entry free. -/
def Dev.poolFor (s : Dev) (cls : Nat) (cmd : Bool) : Option Nat :=
  (poolsOf cls cmd).find? fun p => decide (s.poolUsed p < poolSize p)

/-- The lowest free entry (log entry 21). -/
def Dev.freeEntry (s : Dev) : Nat := ((List.range 1024).find? fun k => (tget none s.sch.ents k).isNone).getD 1023

/-- Changes an admitted event. -/
def Dev.entMod (s : Dev) (k : Nat) (g : Ent → Ent) : Dev :=
  { s with sch := { s.sch with ents := tmod none s.sch.ents k (Option.map g) } }

/-- Starts an event on a core (R328), with the reason of the decision. -/
def Dev.startOn (s : Dev) (k core reason : Nat) (e : Ent) : Dev :=
  let s := s.entMod k fun e => { e with core := some core, preempted := false, waiting := false, start := s.tbs.mono }
  let lat := (s.tbs.mono - e.at_) / (100 * nsU)
  let last := tget none s.sch.lastCore e.domain
  let s := { s with sch := { s.sch with
    dispatched := min (s.sch.dispatched + 1) 0xFFFFFFFF
    migrations := if last.isSome && last != some core then min (s.sch.migrations + 1) 0xFFFFFFFF else s.sch.migrations
    lastCore := tset none s.sch.lastCore e.domain (some core)
    longest := if e.cls = 0 then max s.sch.longest (min lat 65535) else s.sch.longest } }
  s.trace 1 reason core k e

/-- Where an event goes now (R329, R331): a core with the reason of the decision, or none while it waits. -/
def Dev.place (s : Dev) (e : Ent) : Option (Nat × Nat) :=
  let cores := s.coresOf e
  let firstFree := cores.find? s.coreFree
  let last := tget none s.sch.lastCore e.domain
  if e.cmd then firstFree.map fun k => (k, 4)
  else match last with
    | none => firstFree.map fun k => (k, 3)
    | some l =>
      if e.cls = 0 then firstFree.map fun k => (k, if k = l then 0 else 2)
      else if cores.contains l && s.coreFree l then some (l, if e.waiting then 1 else 0)
      else if e.expired || !cores.contains l || (s.clsCfg e.cls).wait == 0 then firstFree.map fun k => (k, 2)
      else none

/-- The candidates of R328, in order: the oldest waiting event of each domain in which no event executes, quota not
spent. -/
def Dev.candidates (s : Dev) : List (Nat × Ent) :=
  let l := s.ents
  let c := l.filter fun x =>
    x.2.core.isNone && s.quotaOk x.2
      && l.all fun y => y.2.domain != x.2.domain || (y.2.core.isNone && decide (x.2.order ≤ y.2.order))
  sortBy (fun a b => decide (a.2.cls < b.2.cls) || (a.2.cls == b.2.cls && decide (a.2.order ≤ b.2.order))) c

/-- One dispatch decision, if some candidate finds its core. -/
def Dev.dispatchOne (s : Dev) : Option Dev :=
  s.candidates.findSome? fun c => (s.place c.2).map fun p => s.startOn c.1 p.1 p.2 c.2

/-- Dispatch until no candidate finds a core; at most one decision for each core. -/
def Dev.dispatchN : Nat → Dev → Dev
  | 0, s => s
  | n + 1, s =>
    match s.dispatchOne with
    | some t => Dev.dispatchN n t
    | none => s

/-- Candidates that find the core of their domain busy start their affinity wait (R329). -/
def Dev.markWaits (s : Dev) : Dev :=
  s.candidates.foldl (fun s c =>
    if c.2.cls ≠ 0 ∧ !c.2.cmd ∧ (tget none s.sch.lastCore c.2.domain).isSome ∧ !c.2.expired then
      s.entMod c.1 fun e => { e with waiting := true }
    else s) s

/-- Class quotas that hold events back are traced once an event is admitted to a spent class (R332). -/
def Dev.dispatch (s : Dev) : Dev := (Dev.dispatchN 17 s).markWaits

/-- A SAFETY event that finds no core of its mask free preempts the latest admitted non-SAFETY event there (R330). -/
def Dev.preempt (s : Dev) (k : Nat) : Dev :=
  match tget none s.sch.ents k with
  | some e =>
    if e.cls = 0 ∧ e.core.isNone then
      let cores := s.coresOf e
      let vs := s.ents.filter fun x => x.2.cls != 0 && cores.any fun c => x.2.core == some c
      match sortBy (fun a b => decide (b.2.order ≤ a.2.order)) vs with
      | v :: _ =>
        let core := v.2.core.getD 16
        let s := s.trace 3 0 core v.1 v.2
        let s := s.entMod v.1 fun e => { e with core := none, preempted := true }
        let s := { s with sch := { s.sch with preemptions := min (s.sch.preemptions + 1) 0xFFFFFFFF } }
        s.startOn k core (if tget none s.sch.lastCore e.domain = some core then 0 else 2) e
      | [] => s
    else s
  | none => s

/-- An event takes an entry, is traced, and dispatch runs (R326, R328, R330). (DESIGN CHOICE: log entry 21.) -/
def Dev.admitIn (s : Dev) (pool : Nat) (e : Ent) : Dev :=
  let k := s.freeEntry
  let e := { e with pool := pool, order := s.sch.nextOrder, at_ := s.tbs.mono }
  let s := { s with sch := { s.sch with
    ents := tset none s.sch.ents k (some e), nextOrder := s.sch.nextOrder + 1 } }
  let s := { s with sch := { s.sch with peaks := tmod 0 s.sch.peaks pool fun p => max p (s.poolUsed pool) } }
  let s := s.trace 0 0 31 k e
  let s := if s.quotaOk e then s else s.trace 4 1 31 k e
  s.dispatch.preempt k

/-- Admits an event where its class finds an entry free (R326, R327). -/
def Dev.admitAny (s : Dev) (e : Ent) : Option Dev := (s.poolFor e.cls e.cmd).map fun p => s.admitIn p e

/-- Offers an event of a source (R327): it is admitted, merges into the pending event of its compare unit or lane, or is held
at its source. -/
def Dev.offer (s : Dev) (e : Ent) : Dev :=
  let same := s.ents.filter fun x => x.2.domain == e.domain
  let held := s.trace 4 0 31 0 e
  if e.source = 2 ∧ 320 ≤ e.domain ∧ e.domain ≤ 327 ∧ 2 ≤ same.length then
    match sortBy (fun a b => decide (b.2.order ≤ a.2.order)) same with
    | x :: _ => (s.entMod x.1 fun e => { e with overrun := e.overrun + 1 }).trace 5 1 31 x.1 x.2
    | [] => s
  else if e.source = 1 ∧ (e.domain = 264 ∨ e.domain = 265) ∧ 32 ≤ same.length then held
  else match s.admitAny e with
    | some t => t
    | none =>
      if e.source = 3 then
        match sortBy (fun a b => decide (b.2.order ≤ a.2.order)) same with
        | x :: _ => (s.entMod x.1 fun e => { e with overrun := e.overrun + 1 }).trace 5 0 31 x.1 x.2
        | [] => held
      else held

/-- EVENT_ADMIT (R326): an event of one of the domains of R324 is offered. -/
def execEventAdmit (e : EventIn) (s : State) : Host.Outcome State Fault Refusal := act s fun s =>
  (if s.domainOk e.domain then
    s.offer { cls := e.cls.val, domain := e.domain.val, source := e.source.val, pool := 3, order := 0, at_ := 0 }
  else s)

/-- AFFINITY_WAIT_EXPIRY (R329): the wait of an event expires, and it goes to the lowest free core of its mask. -/
def execAffinityWaitExpiry (entry : Fin 1024) (s : State) : Host.Outcome State Fault Refusal := act s fun s =>
  (match tget none s.sch.ents entry with
  | some e => if e.waiting then (s.entMod entry fun e => { e with expired := true }).dispatch else s
  | none => s)

/-- An executing event finishes: its core time counts against the quota of its class (R346), its entry and its core become
free, and dispatch runs (R325, R326, R328). -/
def Dev.finish (s : Dev) (k : Nat) (restarted : Bool) : Dev :=
  match tget none s.sch.ents k with
  | some e =>
    match e.core with
    | some c =>
      let us := (s.tbs.mono - e.start) / usU
      let s := s.trace 2 (b2n restarted) c k e
      let s := { s with sch := { s.sch with
        ents := tset none s.sch.ents k none
        used := tmod 0 s.sch.used e.cls (· + us) } }
      s.dispatch
    | none => s
  | none => s

/-- An item of the trace as TRC_DATA reads it (R332). -/
def trcWord : QItem Trc → Nat
  | .data t _ =>
    4 + 2 ^ 3 * t.action + 2 ^ 8 * (t.ofs % 2 ^ 20) + 2 ^ 28 * t.reason + 2 ^ 32 * t.epochLo + 2 ^ 48 * t.domain
      + 2 ^ 60 * t.cls + 2 ^ 64 * t.core + 2 ^ 72 * t.entry + 2 ^ 88 * t.source + 2 ^ 112 * t.seq
  | .gap n => 2 + 4 + 2 ^ 96 * n

/-- TRC_DATA_READ (R332): word 0 dequeues the item and latches it for the words of the same master; 4 reads all 128
bits. -/
def execTrcDataRead (m : Master) (w : Fin 5) (s : State) : Host.Outcome State Fault Refusal := act s fun s =>
  let rd (s : Dev) (v : Nat) := s.readOut ((List.range 4).map fun i => word (v / 2 ^ (32 * i)))
  if w.val = 0 ∨ w.val = 4 then
    let r := s.sch.trc.pop
    let v := (r.1.map trcWord).getD 0
    let s := { s with sch := { s.sch with trc := r.2, trcLatch := tset 0 s.sch.trcLatch (masterKey m) v } }
    if w.val = 4 then (rd s v) else (s.readOut [word v])
  else (s.readOut [word (tget 0 s.sch.trcLatch (masterKey m) / 2 ^ (32 * w.val))])

end Sys2Proof.Machine
end

