-- ==== Sys2Proof/Machine/Stops.lean ====
section
/-! DEFINITION. Bugle's hash chains, the stops in force, and the demand that raises one (08 R226 to R237, R242 to R248). -/
namespace Sys2Proof.Machine

/-! ### Chains -/

/-- The first 16 bytes of a SHA-256 digest (R226). -/
def sha16 (bs : List Byte) : List Byte := (beBytes 32 (Config.sha256 bs).toNat).take 16

/-- Go step (R226). -/
def goStep (gen i : Nat) (v : List Byte) : List Byte := sha16 (ascii "PQGO" ++ beBytes 2 gen ++ beBytes 4 i ++ v)

/-- Stop step (R226). -/
def stopStep (gen k : Nat) (v : List Byte) : List Byte := sha16 (ascii "PQST" ++ beBytes 2 gen ++ beBytes 4 k ++ v)

/-- Tag key (R226). (DEDUCED: log entry 133.) -/
def tagKey (gen i : Nat) (v : List Byte) : List Byte :=
  beBytes 32 (Config.sha256 (ascii "PQGK" ++ beBytes 2 gen ++ beBytes 4 i ++ v)).toNat

/-- n steps down a chain from the element of index `top` (R227). (DEDUCED: log entry 133.) -/
def chainDown (stp : Nat → List Byte → List Byte) (top : Nat) : Nat → List Byte → List Byte
  | 0, v => v
  | n + 1, v => chainDown stp (top - 1) n (stp top v)

/-- Last index of a go chain (R227). -/
def goM : Nat := 2 ^ 24 - 1
/-- Last index of a stop chain (R227). -/
def stopP : Nat := 2 ^ 20 - 1

/-- KIND byte of a derivation: T under the test root, P otherwise (15 R427). -/
def Dev.kindByte (s : Dev) : List Byte := ascii (if s.bgl.testRoot then "T" else "P")

/-- Seed of a chain generation: HKDF from the chain secret of slot 2 (15 R427). -/
def Dev.chainSeed (s : Dev) (label : String) (gen : Nat) : List Byte :=
  Config.hkdfExpand (s.kslot 2).key (s.kindByte ++ ascii label ++ beBytes 2 gen) 16

/-- Go element i of generation g (R227), from the pebbles that the island holds. (DEDUCED: log entry 133.) -/
def Dev.goElem (s : Dev) (g i : Nat) : List Byte :=
  chainDown (goStep g) goM (goM - i) (tget [] s.bgl.goSeeds g)

/-- Stop element k of generation g (R227). (DEDUCED: log entry 133.) -/
def Dev.stopElem (s : Dev) (g k : Nat) : List Byte :=
  chainDown (stopStep g) stopP (stopP - k) (tget [] s.bgl.stopSeeds g)

/-- The bits of a port's 24 machine slots in a slot mask (01 R19). -/
def portBits (m : BitVec 192) (p : Nat) : Nat := nbits m.toNat (24 * p) 24

/-! ### Conditions -/

/-- DEPLOYED with the production root and debug locked (R238 bit 6). -/
def Dev.lifecycleOk (s : Dev) : Bool := s.sec.lc == 2 && !s.bgl.testRoot && !s.sec.debug

/-- A fleet-scope stop is in force. -/
def Dev.stopFleet (s : Dev) : Bool := s.bgl.stops.any Stop.fleet

/-- The slots that slot-scope stops cover. -/
def Dev.stopSlots (s : Dev) : BitVec 192 :=
  s.bgl.stops.foldl (fun m x => if x.fleet then m else m ||| x.slots) 0

/-- A stop covers slot k. -/
def Dev.slotStopped (s : Dev) (k : Nat) : Bool := s.stopFleet || s.stopSlots.getLsbD k

/-- GEN_IRQ_STATUS.BUGLE: GO_ACTIVE, STOP_FLEET, STOP_SLOTS or DISCREPANCY differs from an earlier state (12 R359). -/
def Dev.bglIrq (s old : Dev) : Dev :=
  s.irqIf 1 (s.goActive != old.goActive || s.stopFleet != old.stopFleet
    || (s.stopSlots == 0) != (old.stopSlots == 0) || s.bgl.discrep != old.bgl.discrep)

/-- STOP_OUT follows the stops in force and the island's health (R244). -/
def Dev.driveStopOut (s : Dev) : Dev :=
  if s.bgl.up then
    { s with bgl := { s.bgl with stopOut := if s.stopFleet || s.bgl.fault then .low else .high } }
  else { s with bgl := { s.bgl with stopOut := .hiZ } }

/-! ### Stop events -/

/-- Every registered machine has confirmed the anchor of the next stop generation (R237). -/
def Dev.stopNextConfirmed (s : Dev) : Bool :=
  (List.range s.nSlots).all fun k =>
    let r := s.rslot k
    !(r.st = .active || r.st = .silent || r.st = .registering)
      || r.gens.getD 3 0 == s.bgl.stopGen + 1 || r.gens.getD 2 0 == s.bgl.stopGen + 1

/-- The switch to the next stop generation at a stop event (R237). -/
def Dev.stopGenSwitch (s : Dev) : Dev :=
  let b := s.bgl
  if b.stopNext && (s.stopNextConfirmed || decide (stopP - b.stopIdx ≤ 16)) then
    { s with bgl := { b with
      stopGen := b.stopGen + 1, stopIdx := 0, markStop := 0, markGen := (b.markGen.1, b.stopGen + 1)
      stopNext := false, reserve := 16 } }
  else s

/-- Reveals the next stop element, if one is held (R228, R234); its index marks the high water (R229). In a tamper response
the reserve is used up (R248). The next generation is built when 65,536 elements are left (R237). -/
def Dev.revealStop (s : Dev) : Dev × Bool :=
  let s := s.stopGenSwitch
  let b := s.bgl
  if b.stopBuilt && decide (0 < b.reserve) && decide (b.stopIdx < stopP) then
    let k := b.stopIdx + 1
    let few := decide (stopP - k ≤ 65536) && !b.stopNext && !b.stopNextBusy
    ({ s with bgl := { b with
      stopIdx := k, markStop := k, markGen := (b.markGen.1, b.stopGen)
      reserve := if s.gen.tamper then b.reserve - 1 else min 16 (stopP - k)
      unflushed := b.unflushed + 1
      stopNextBusy := b.stopNextBusy || few } }, true)
  else (s, false)

/-- Adds a stop to those in force, joined with one of its cause and scope. -/
def joinStop (x : Stop) : List Stop → List Stop
  | [] => [x]
  | y :: l =>
    if y.cause = x.cause ∧ y.fleet = x.fleet then { y with slots := y.slots ||| x.slots } :: l else y :: joinStop x l

/-- Payload of STOP_RAISED and STOP_RELEASED (16 R444). (DEDUCED: log entry 38.) -/
def stopPayload (cause : Nat) (fleet new : Bool) (port idx slots : Nat) : List Byte :=
  leBytes 1 cause ++ leBytes 1 (b2n fleet + 2 * b2n new) ++ [0] ++ leBytes 1 port ++ leBytes 4 idx ++ leBytes 8 slots

/-- Records of a stop event: one for each port with a slot concerned; one for a fleet-scope event.
(DEDUCED: log entry 38.) -/
def Dev.logStop (s : Dev) (code cause : Nat) (fleet new : Bool) (slots : BitVec 192) : Dev :=
  if fleet then s.log code (stopPayload cause true new 0 s.bgl.stopIdx 0xFFFFFF)
  else (List.range s.nPorts).foldl (fun s p =>
    if portBits slots p = 0 then s
    else s.log code (stopPayload cause false new p s.bgl.stopIdx (portBits slots p))) s

/-- A stop demand reaches Bugle (R234, R245 to R247): whether it reveals an element, the stop it puts in force, the latch,
STOP_OUT, the demand that bursts wait for, and the record. An island fault reveals none and sends no burst (R245). A demand
that names no slot does nothing; before the island is released nothing is latched (R244). (DEDUCED: log entry 38.) -/
def Dev.stopDemand (s : Dev) (cause : Nat) (fleet : Bool) (slots : BitVec 192) : Dev × Bool :=
  if !s.bgl.up || (!fleet && slots == 0) then (s, false)
  else
    let old := s
    let wider := !s.stopFleet && (fleet || slots &&& ~~~s.stopSlots != 0)
    let r := if wider && !s.bgl.fault then s.revealStop else (s, false)
    let s := r.1
    let b := s.bgl
    let s := { s with bgl := { b with
      stops := joinStop ⟨cause, fleet, if fleet then 0 else slots⟩ b.stops
      lastCause := cause
      enable := b.enable && !fleet
      demandAt := if b.demandAt.isNone && (r.2 || !b.bursting) then some s.tbs.mono else b.demandAt } }
    let s := s.driveStopOut
    ((s.logStop 0xC801 cause fleet r.2 slots).bglIrq old, r.2)

/-- A fleet-scope demand of an internal cause. -/
def Dev.fleetStop (s : Dev) (cause : Nat) : Dev := (s.stopDemand cause true 0).1

/-- A slot-scope demand of an internal cause. -/
def Dev.slotStop (s : Dev) (cause k : Nat) : Dev := (s.stopDemand cause false (BitVec.ofNat 192 (2 ^ k))).1

/-- Go tokens end until the next reset (R13, R32, R193). -/
def Dev.endTokens (s : Dev) : Dev := { s with bgl := { s.bgl with noToken := true } }

/-- A safety-island fault (R244): STOP_OUT low, and a fleet stop with cause ISLAND. -/
def Dev.islandFault (s : Dev) : Dev :=
  if s.bgl.up then ({ s with bgl := { s.bgl with fault := true } }.fleetStop 9).driveStopOut else s

/-- The burst payload of a port (R233): MASK carries the stopped slots of the port. (DEDUCED: log entry 96.) -/
def Dev.burstPayload (s : Dev) (p : Nat) : List Byte :=
  let b := s.bgl
  leBytes 1 1 ++ leBytes 1 (b2n s.stopFleet + 2 * p + 16 * b2n b.testRoot) ++ leBytes 2 b.stopGen
    ++ leBytes 3 b.stopIdx ++ leBytes 3 (portBits s.stopSlots p) ++ s.stopElem b.stopGen b.stopIdx

end Sys2Proof.Machine
end

