-- ==== Sys2Proof/Machine/Path.lean ====
section
/-! DEFINITION. Track geometry, the path of a profile channel, and the kinematics of stopping (14 R418, 06 R175, R184, 07
R200 to R207). Path positions count 2^-32 mm; speeds count pm per tick; geometry is rounded to the mm (log entries 12 and
13). -/
namespace Sys2Proof.Machine

/-- 2^32: one mm of path. -/
def mmF : Nat := 2 ^ 32

/-! ### Tracks -/

/-- Length of a track, mm (R418). -/
def Track.len (t : Track) : Nat := (t.pts.length - 1) * t.spacing

/-- The track holds an image. -/
def Track.loaded (t : Track) : Bool := decide (2 ≤ t.pts.length) && decide (0 < t.spacing)

/-- Point k of a track. -/
def Track.pt (t : Track) (k : Nat) : TrackPt := t.pts.getD k ⟨0, 0, 0, 0⟩

/-- Linear interpolation between a and b at f of n, rounded to the nearest. (DESIGN CHOICE: log entry 13.) -/
def lerp (a b : Int) (f n : Nat) : Int := a + (2 * (b - a) * f + n) / (2 * n)

/-- Position at a station (R418). (DESIGN CHOICE: log entry 13.) -/
def Track.at (t : Track) (sta : Nat) : Int × Int :=
  let sta := min sta t.len
  let k := min (sta / t.spacing) (t.pts.length - 2)
  let f := sta - k * t.spacing
  let a := t.pt k
  let b := t.pt (k + 1)
  (lerp a.e b.e f t.spacing, lerp a.n b.n f t.spacing)

/-- Heading at a station, microdegrees, interpolated along the shorter arc (R418). (DESIGN CHOICE: log entry 13.) -/
def Track.headingAt (t : Track) (sta : Nat) : Nat :=
  let sta := min sta t.len
  let k := min (sta / t.spacing) (t.pts.length - 2)
  let f := sta - k * t.spacing
  let a := (t.pt k).heading
  let d : Int := (((t.pt (k + 1)).heading : Int) - a + 540000000) % 360000000 - 180000000
  (lerp a (a + d) f t.spacing % 360000000).toNat

/-- Curvature at a station, 10^-6 m^-1. -/
def Track.kappaAt (t : Track) (sta : Nat) : Int :=
  let sta := min sta t.len
  let k := min (sta / t.spacing) (t.pts.length - 2)
  lerp (t.pt k).kappa (t.pt (k + 1)).kappa (sta - k * t.spacing) t.spacing

/-- π × 10^18 (log entry 15). -/
def piE18 : Nat := 3141592653589793238

/-- The terms of the sine or cosine series from term t of degree k on, at x × 10^-18. (DESIGN CHOICE: log entry 13.) -/
def trigSum (x : Int) : Nat → Nat → Int → Int
  | 0, _, _ => 0
  | n + 1, k, t => t + trigSum x n (k + 2) (-(t * x / 10 ^ 18 * x / 10 ^ 18) / ((k + 1) * (k + 2)))

/-- Sine and cosine of an angle in microdegrees, × 10^18. (DESIGN CHOICE: log entry 13.) -/
def sinCos (h : Nat) : Int × Int :=
  let x : Int := h % 90000000 * piE18 / 180000000
  let s := trigSum x 12 1 x
  let c := trigSum x 12 0 (10 ^ 18)
  match h / 90000000 % 4 with
  | 0 => (s, c)
  | 1 => (c, -s)
  | 2 => (-s, -c)
  | _ => (-c, s)

/-! ### The path of a channel -/

/-- A leg of the path: a track driven from a station, rising or falling, from a path position on; its length in mm, none
for the last leg, which goes on along its track and beyond. -/
structure Leg where
  track : Nat
  sta : Nat
  rising : Bool
  start : Nat
  len : Option Nat
deriving DecidableEq, Repr

/-- Length of a segment, mm. -/
def Seg.len (g : Seg) : Nat := if g.sta0 ≤ g.sta1 then g.sta1 - g.sta0 else g.sta0 - g.sta1

/-- Legs of queued segments from a path position on; the last one is followed by its continuation. -/
def legsOf : Nat → List Seg → List Leg
  | _, [] => []
  | x, [g] => [⟨g.track, g.sta0, g.rising, x, some g.len⟩, ⟨g.track, g.sta1, g.rising, x + g.len * mmF, none⟩]
  | x, g :: gs => ⟨g.track, g.sta0, g.rising, x, some g.len⟩ :: legsOf (x + g.len * mmF) gs

/-- The path of a channel: its queued segments, or the continuation of the last one it held (R184, R200).
(DEDUCED: log entry 56.) -/
def Prf.legs (p : Prf) : List Leg :=
  match p.queue, p.rest with
  | [], some g => [⟨g.track, g.sta1, g.rising, p.entry, none⟩]
  | q, _ => legsOf p.entry q

/-- The commanded path position, 2^-32 mm. (DESIGN CHOICE: log entry 12.) -/
def Prf.pos (p : Prf) : Nat := p.acc * 1000

/-- Station of a path position on a leg; stations end at 0. -/
def Leg.staAt (l : Leg) (x : Nat) : Nat :=
  let d := (x - l.start) / mmF
  if l.rising then l.sta + d else l.sta - d

/-- The leg that holds a path position. -/
def legAt (ls : List Leg) (x : Nat) : Option Leg :=
  ls.find? fun l => match l.len with
    | some n => decide (x < l.start + n * mmF)
    | none => true

/-- Distances along a leg, from dx to dy mm, of its end points and of the track vertices between them. -/
def Leg.marks (l : Leg) (t : Track) (dx dy : Nat) : List Nat :=
  let sp := t.spacing
  let inner := (List.range (dy / sp + 2 - dx / sp)).filterMap fun n =>
    let d := if l.rising then (l.sta + dx) / sp * sp + n * sp - l.sta
      else l.sta - (l.sta - dx) / sp * sp + (n - 1) * sp
    if dx < d ∧ d < dy then some d else none
  dx :: (inner.dedup ++ [dy])

/-- Points of the straight line beyond a track's end in the direction of travel, d mm out (R184). -/
def Track.beyond (t : Track) (rising : Bool) (d : Nat) : Int × Int :=
  let sta := if rising then t.len else 0
  let p := t.at sta
  let sc := sinCos (t.headingAt sta)
  let sg : Int := if rising then 1 else -1
  (p.1 + (2 * sg * sc.1 * d + 10 ^ 18) / (2 * 10 ^ 18), p.2 + (2 * sg * sc.2 * d + 10 ^ 18) / (2 * 10 ^ 18))

/-- The point of a leg d mm from its start: on its track, or on the straight line beyond the track's end. -/
def Leg.pointAt (l : Leg) (t : Track) (d : Nat) : Int × Int :=
  let room := if l.rising then t.len - l.sta else min l.sta t.len
  if room < d then t.beyond l.rising (d - room) else t.at (if l.rising then l.sta + d else l.sta - d)

/-- Points of a leg between two path positions that lie on it, each with its path position in mm. -/
def Leg.points (l : Leg) (t : Track) (x y : Nat) : List (Nat × Int × Int) :=
  let dx := (x - l.start) / mmF
  let dy := (y - l.start + mmF - 1) / mmF
  let room := if l.rising then t.len - l.sta else min l.sta t.len
  let ds := if room ≤ dx then [dx, dy] else if room < dy then l.marks t dx room ++ [dy] else l.marks t dx dy
  ds.map fun d => (l.start / mmF + d, l.pointAt t d)

/-- Points of the path between two path positions, each with its path position in mm (R184). -/
def Dev.pathMarks (s : Dev) (x y : Nat) : List Leg → List (Nat × Int × Int)
  | [] => []
  | l :: ls =>
    let stop := match l.len with
      | some n => min y (l.start + n * mmF)
      | none => y
    if x < stop ∨ (x = stop ∧ (ls = [] ∨ y = x)) then
      l.points (s.track l.track) (max x l.start) stop ++ (if stop < y then Dev.pathMarks s x y ls else [])
    else Dev.pathMarks s x y ls

/-- Points of the path between two path positions. -/
def Dev.pathPoints (s : Dev) (x y : Nat) (ls : List Leg) : List (Int × Int) := (s.pathMarks x y ls).map Prod.snd

/-- The field point of a path position. -/
def Dev.pointAt (s : Dev) (p : Prf) (x : Nat) : Option (Int × Int) := (s.pathPoints x x p.legs).head?

/-! ### Stopping (R184, R205, R207) -/

/-- Deceleration in force, mm/s² (R184, R225). -/
def Prf.decel (p : Prf) : Nat := if p.st = .off then p.decelDef else p.aF.getD p.decelDef

/-- Jerk in force, mm/s³. -/
def Prf.jerk (p : Prf) : Nat := if p.st = .off then p.jerkDef else p.jF.getD p.jerkDef

/-- Stopping distance D in mm, rounded up, at v pm per tick with T_REACT in ms, a and j (R184). -/
def stopDist (v tReact a j : Nat) : Nat :=
  cdiv (v * tReact * 2 * a * j * 1000 + v * v * j + v * a * a * 10 ^ 6) (2 * a * j * 10 ^ 12)

/-- Stopping time T_stop, 2^-32 ns (R184). -/
def stopTime (v tReact a j : Nat) : Nat :=
  tReact * msU + secU * (v * 2 * j + a * a * 10 ^ 6) / (2 * a * j * 10 ^ 6)

/-- 2 A n for the largest n with A n² + B n ≤ C, exact but for the square root, which is rounded down to a whole number
(R205); 0 when it would be negative. -/
def quad (a b c : Nat) : Nat := 2 * a * isqrt ((b * b + 4 * a * c) / (4 * a * a)) - b

/-- 2 j × brake(d, v_end) in 2^-48 pm per tick (R205); d in 2^-32 mm, w = v_end² × 2^96 in mm²/s². -/
def brake (d w a j : Nat) : Nat :=
  quad (j * 10 ^ 12) (a * a * 10 ^ 6 * 2 ^ 48) (2 * a * j * d * 2 ^ 64 + j * w)

/-- 2 j × v_cov in 2^-48 pm per tick: the largest v with D(v) ≤ d (R207). -/
def vCov (d tReact a j : Nat) : Nat :=
  quad (j * 10 ^ 12) (a * a * 10 ^ 6 * 2 ^ 48 + 2 * a * j * tReact * 1000 * 2 ^ 48) (2 * a * j * d * 2 ^ 64)

/-- √(A_LAT / |κ|) in 2^-48 m per tick, rounded down; none on a straight (R203). -/
def vCurv (aLat : Nat) (kappa : Int) : Option Nat :=
  if kappa = 0 then none else some (isqrt (aLat * 2 ^ 96 / (kappa.natAbs * 1000)))

end Sys2Proof.Machine
end

