-- ==== Sys2Proof/Machine/Orchard.lean ====
section
/-! DEFINITION. Orchard: the tile grid, conflicts, requests, releases, claims, frozen holders and the stopping envelope
(chapter 06). Units are full counts of 10 ms since the origin; the manual's numbers are those modulo 2^32. -/
namespace Sys2Proof.Machine

/-! ### Units and holders -/

/-- One Orchard unit, 10 ms (R167). -/
def unitU : Nat := 10 * msU

/-- The unit of now (R167). -/
def Dev.unitNow (s : Dev) : Nat := s.tbs.time / unitU

/-- The full count of a unit number, nearest to a full count `base` (R22, R167). -/
def fullUnit (base : Nat) (u : Word) : Int := (base : Int) + (u - word base).toInt

/-- Type of a zone holder: 0 KEEP_OUT, 1 PEOPLE, 2 DEPOT. -/
def Dev.zoneType (s : Dev) (h : Nat) : Nat := tget 0 s.orc.zones (h - 192)

/-- Two holders exclude each other (R171). -/
def Dev.excludes (s : Dev) (a b : Nat) : Bool :=
  if a < 192 then
    if b < 192 then a != b else s.zoneType b != 2 || !(s.oslot a).depot
  else if b < 192 then s.zoneType a != 2 || !(s.oslot b).depot
  else false

/-- An interval without an end: OPEN_END, or frozen (R171, R189). -/
def Interval.noEnd (x : Interval) : Bool := x.openEnd || x.frozen

/-- Two intervals of one tile meet in time under the guard (R171). -/
def Dev.meets (s : Dev) (x y : Interval) : Bool :=
  (y.noEnd || decide (x.tStart < y.tEnd + s.orc.guard)) && (x.noEnd || decide (y.tStart < x.tEnd + s.orc.guard))

/-- Two intervals conflict (R171). -/
def Dev.conflict (s : Dev) (x y : Interval) : Bool :=
  x.i == y.i && x.j == y.j && s.excludes x.holder y.holder && s.meets x y

/-- A claim of a zone or a disc, as opposed to an interval of a committed transaction (R187). -/
def Interval.claim (x : Interval) : Bool := x.pending && x.txn.isNone

/-! ### Rasterisation (R175, R176) -/

/-- The tile side, mm. -/
def Grid.side (g : Grid) : Nat := 1000 * 2 ^ g.log2

/-- h of R175. -/
def Grid.h (g : Grid) : Nat :=
  match g.log2 with
  | 0 => 708 | 1 => 1415 | 2 => 2829 | 3 => 5657 | _ => 11314

/-- Centre of a tile. -/
def Grid.centre (g : Grid) (i j : Int) : Int × Int := (g.e0 + i * g.side + g.side / 2, g.n0 + j * g.side + g.side / 2)

/-- The tile lies inside the grid. -/
def Grid.inside (g : Grid) (i j : Int) : Bool :=
  decide (0 ≤ i) && decide (i < g.ni) && decide (0 ≤ j) && decide (j < g.nj)

/-- A point lies within r of a segment. -/
def nearSeg (p a b : Int × Int) (r : Nat) : Bool :=
  let dx := b.1 - a.1
  let dy := b.2 - a.2
  let px := p.1 - a.1
  let py := p.2 - a.2
  let l2 := dx * dx + dy * dy
  let t := px * dx + py * dy
  let r2 : Int := (r : Int) * r
  if t ≤ 0 then decide (px * px + py * py ≤ r2)
  else if l2 ≤ t then
    let qx := p.1 - b.1
    let qy := p.2 - b.2
    decide (qx * qx + qy * qy ≤ r2)
  else
    let c := dx * py - dy * px
    decide (c * c ≤ r2 * l2)

/-- The integers from a to b. -/
def intsTo (a b : Int) : List Int := (List.range (b + 1 - a).toNat).map fun (k : Nat) => a + (k : Int)

/-- Tiles of one segment's box, rows first, near the segment and near no segment of `before`.
(DESIGN CHOICE: log entry 13.) -/
def Grid.segTiles (g : Grid) (r : Nat) (before : List ((Int × Int) × (Int × Int))) (a b : Int × Int) :
    List (Int × Int) :=
  let sd : Int := g.side
  let half : Int := g.side / 2
  let lo (o v : Int) : Int := -((-(v - r - o - half)) / sd)
  let hi (o v : Int) : Int := (v + r - o - half) / sd
  let is := intsTo (lo g.e0 (min a.1 b.1)) (hi g.e0 (max a.1 b.1))
  let js := intsTo (lo g.n0 (min a.2 b.2)) (hi g.n0 (max a.2 b.2))
  js.flatMap fun j => is.filterMap fun i =>
    let c := g.centre i j
    if nearSeg c a b r && !before.any fun q => nearSeg c q.1 q.2 r then some (i, j) else none

/-- Tiles of the segments of a polyline, in the order of R176. -/
def Grid.lineTiles (g : Grid) (r : Nat) : List ((Int × Int) × (Int × Int)) → List (Int × Int) → List (Int × Int)
  | before, a :: b :: ps => g.segTiles r before a b ++ g.lineTiles r (before ++ [(a, b)]) (b :: ps)
  | [], [a] => g.segTiles r [] a a
  | _, _ => []

/-- The tiles that a polyline swept by a disc of radius r covers (R175, R176). -/
def Grid.cover (g : Grid) (r : Nat) (ps : List (Int × Int)) : List (Int × Int) := g.lineTiles (r + g.h) [] ps

/-! ### The stopping envelope (R183, R184) -/

/-- The newest position of a slot with a status other than NONE. -/
def Dev.lastGood (s : Dev) (k : Nat) : Option Pos :=
  ((s.fslot k).newest.toList ++ (s.fslot k).hist).find? fun p => p.status != 0

/-- The newest position with a status other than NONE received since the slot became ACTIVE (R189). -/
def Dev.lastSince (s : Dev) (k : Nat) : Option Pos :=
  ((s.fslot k).newest.toList ++ (s.fslot k).hist).find? fun p => p.status != 0 && decide ((s.rslot k).activeAt ≤ p.rx)

/-- U: the HPL of the newest position (R184). -/
def Dev.uOf (s : Dev) (k : Nat) : Nat :=
  match (s.fslot k).newest with
  | some p => if p.status = 0 then 65535 else p.hpl
  | none => 65535

/-- The last two beacons on air (R183): the beacon frozen for the coming epoch is not yet one. -/
def Dev.lastTwo (s : Dev) : List (Option (BitVec 192)) :=
  (if s.tbs.frozen then s.bgl.beacons.drop 1 else s.bgl.beacons).take 2

/-- The newest position reports a speed above 50 mm/s (R183). -/
def Dev.posFast (s : Dev) (k : Nat) : Bool :=
  let f := s.fslot k
  match f.newest with
  | none => false
  | some p =>
    if f.mode = 2 then
      match f.hist.find? fun o => decide (o.inst + 500 * msU ≤ p.inst) with
      | some o =>
        if s.tbs.mono ≤ o.instMono + 2 * secU then
          let de := p.e - o.e
          let dn := p.n - o.n
          let dt : Int := p.inst - o.inst
          decide (50 * dt * (50 * dt) < (de * de + dn * dn) * (secU * secU : Nat))
        else decide (s.tbs.mono < p.instMono + 2 * secU)
      | none => decide (s.tbs.mono < p.instMono + 2 * secU)
    else decide (2500 < p.ve * p.ve + p.vn * p.vn)

/-- Slot k is moving (R183). -/
def Dev.moving (s : Dev) (k : Nat) : Bool :=
  (s.lastTwo.any fun b => (b.getD 0).getLsbD k) || decide (0 < (s.pch k).v) || s.posFast k

/-- The slot has an allotted track (R184). -/
def Prf.hasTrack (p : Prf) : Bool := p.st != .off && p.everHeld

/-- The polyline of an envelope from the commanded position d mm ahead, or the point of a slot without a track (R184). -/
def Dev.envLine (s : Dev) (k : Nat) (p : Prf) (d : Nat) : Option (List (Int × Int)) :=
  if p.hasTrack then some (s.pathPoints p.pos (p.pos + d * mmF) p.legs)
  else (s.lastGood k).map fun q => [(q.e, q.n)]

/-- The intervals from unit `cur` on reach past unit `last` together. -/
def coversTo (ivs : List Interval) (last : Nat) : Nat → Nat → Bool
  | 0, _ => false
  | n + 1, cur =>
    if last < cur then true
    else
      let next := ivs.foldl (fun m x =>
        if x.tStart ≤ cur then (if x.openEnd then max m (last + 1) else max m x.tEnd) else m) cur
      if next = cur then false else coversTo ivs last n next

/-- The granted intervals of a holder on a tile. -/
def Dev.granted (s : Dev) (h i j : Nat) : List Interval :=
  s.orc.store.filter fun x => x.i == i && x.j == j && x.holder == h && !x.pending

/-- A pending claim lies on a tile against a holder (R186, R207). -/
def Dev.claimed (s : Dev) (h i j : Nat) : Bool :=
  s.orc.store.any fun x => x.i == i && x.j == j && x.claim && s.excludes x.holder h

/-- Tiles all hold granted intervals of holder k that cover the units u to v together (R184). -/
def Dev.tilesHeld (s : Dev) (k u v : Nat) (ts : List (Int × Int)) : Bool :=
  match s.orc.grid with
  | none => false
  | some g => ts.all fun t =>
      g.inside t.1 t.2
        && (let ivs := s.granted k t.1.toNat t.2.toNat
            coversTo ivs v (ivs.length + 1) u)

/-- The envelope of slot k with channel state p, from TAI t, with D raised by `extra` mm, lies inside its reservation
(R184). -/
def Dev.envOk (s : Dev) (k : Nat) (p : Prf) (t extra : Nat) : Bool :=
  match s.orc.grid with
  | none => false
  | some g =>
    let o := s.oslot k
    let d := if p.hasTrack then stopDist p.v o.tReact p.decel p.jerk + extra else 0
    match s.envLine k p d with
    | none => false
    | some ps => s.tilesHeld k (t / unitU) ((t + stopTime p.v o.tReact p.decel p.jerk) / unitU) (g.cover (o.foot + s.uOf k) ps)

/-- A pending claim lies against holder k's intervals (R186, R188, R246). -/
def Dev.claimAgainst (s : Dev) (k : Nat) : Bool :=
  s.orc.store.any fun x => x.claim && s.orc.store.any fun y =>
    y.holder == k && !y.claim && y.i == x.i && y.j == x.j && s.excludes x.holder k && s.meets x y

/-! ### Grants (R181, R188) -/

/-- The live grant identifiers; what a committed transaction holds is not yet a grant (R180). -/
def Dev.liveGrants (s : Dev) : List Nat := ((s.orc.store.filter fun x => x.txn.isNone).map (·.grant)).dedup

/-- The live grants of a holder. -/
def Dev.grantsOf (s : Dev) (h : Nat) : List Nat :=
  ((s.orc.store.filter fun x => x.holder == h && x.txn.isNone).map (·.grant)).dedup

/-- The first of n identifiers from k on that is neither live nor ended within 1 s (R181). (DEDUCED: log entry 75.) -/
def Dev.nextId (s : Dev) : Nat → Nat → Option Nat
  | 0, _ => none
  | n + 1, k =>
    let k := k % 0xFFFF
    if s.orc.store.any (fun x => x.grant == k)
        || s.orc.ended.any (fun x => x.1 == k && decide (s.tbs.mono < x.2 + secU)) then
      Dev.nextId s n (k + 1)
    else some k

/-- The store without the intervals that `drop` names; grants that lose their last interval end (R169, R181). -/
def Dev.dropIvs (s : Dev) (gone : Interval → Bool) : Dev :=
  let out := (s.orc.store.filter gone).map (·.grant)
  let keep := s.orc.store.filter fun x => !gone x
  let ended := out.dedup.filter fun g => !keep.any fun x => x.grant == g
  { s with orc := { s.orc with
    store := keep
    ended := ended.map (fun g => (g, s.tbs.mono)) ++ s.orc.ended.filter fun x => decide (s.tbs.mono < x.2 + secU) } }

/-- Claims against which no conflicting machine interval remains become granted; a grant whose last claim is granted is
recorded (R188). -/
def Dev.promote (s : Dev) : Dev :=
  let stays (x : Interval) : Bool := s.orc.store.any fun y =>
    decide (y.holder < 192) && !y.claim && s.conflict x y
  let up := s.orc.store.filter fun x => x.claim && !stays x
  let store := s.orc.store.map fun x => if x.claim && !stays x then { x with pending := false } else x
  let s := { s with orc := { s.orc with store := store } }
  (up.map fun x => (x.holder, x.grant)).dedup.foldl (fun s x =>
    if s.orc.store.any fun y => y.grant == x.2 && y.claim then s
    else s.log (fwCode 0 0x06 0x10) (leBytes 1 x.1 ++ leBytes 2 x.2)) s

/-- A zone or disc laid over machines (R187, R190): each machine in conflict loses RES_OK, is stopped as an internal cause,
and is recorded. -/
def Dev.stopUnder (s : Dev) (holder : Nat) (ms : List Nat) : Dev :=
  ms.foldl (fun s k =>
    let s := { s with orc := { s.orc with resOk := s.orc.resOk &&& ~~~(BitVec.ofNat 192 (2 ^ k)) } }
    (s.slotStop 4 k).logSlot 0xC601 k (leBytes 1 holder)) s

/-! ### Requests (R173 to R180) -/

/-- A corridor request as its words give it. -/
structure OrcReq where
  holder : Nat
  npts : Nat
  openEnd : Bool
  force : Bool
  replaces : Option Nat
  tStart : Word
  tEnd : Word
  halfW : Nat
  margin : Nat
  pts : List (Int × Int)
deriving DecidableEq, Repr

/-- A request that has passed checks 1 to 9 of R173. -/
structure OrcJob where
  req : OrcReq
  ts : Nat
  te : Nat
  clipped : Bool
  tiles : List (Nat × Nat)
deriving DecidableEq, Repr

/-- Vertices 1 on: each adds a step of 2 mm units. -/
def orcVertices (c : Cmd) : Nat → Nat → Int × Int → List (Int × Int)
  | 0, _, _ => []
  | n + 1, w, p =>
    let q := (p.1 + 2 * signed 16 (argF c w 0 16), p.2 + 2 * signed 16 (argF c w 16 16))
    q :: orcVertices c n (w + 1) q

/-- The request of an ORC_REQUEST. -/
def orcParse (c : Cmd) : OrcReq :=
  let n := argF c 0 8 4
  let p0 := (argI c 4, argI c 5)
  { holder := argF c 0 0 8, npts := n, openEnd := argB c 0 12, force := argB c 0 13
    replaces := if argF c 0 16 16 = 0xFFFF then none else some (argF c 0 16 16)
    tStart := arg c 1, tEnd := arg c 2, halfW := argF c 3 0 15, margin := argF c 3 16 14
    pts := p0 :: orcVertices c (n - 1) 6 p0 }

/-- Length of a polyline, each segment rounded up to the mm (R173 check 6). -/
def lineLen : List (Int × Int) → Nat
  | a :: b :: ps =>
    isqrtUp (((b.1 - a.1) * (b.1 - a.1) + (b.2 - a.2) * (b.2 - a.2)).toNat) + lineLen (b :: ps)
  | _ => 0

/-- The corridor has length 0 (R174). -/
def OrcReq.point (q : OrcReq) : Bool := q.pts.all fun p => p == q.pts.headD (0, 0)

/-- Response words of a request (Requests). -/
def orcWords (grant : Nat) (clipped pending : Bool) (tiles : Nat) (ch ci cj : Nat) (ct : Word) : List Word :=
  [word (grant + 2 ^ 16 * b2n clipped + 2 ^ 17 * b2n pending + 2 ^ 19 * tiles), word (ch + 2 ^ 8 * ci + 2 ^ 18 * cj), ct]

/-- A machine holder, or a zone holder, of the part (R4). -/
def Dev.holderOk (s : Dev) (h : Nat) : Bool := decide (h < s.nSlots) || decide (192 ≤ h)

/-- Checks 1 to 9 of R173. (DEDUCED: log entry 44.) -/
def Dev.orcCheck (s : Dev) (q : OrcReq) : Except (Rc × List Word) OrcJob :=
  let no (r : Rc) : Except (Rc × List Word) OrcJob := .error (r, orcWords 0xFFFF false false 0 0 0 0 0)
  let now := s.unitNow
  if q.openEnd && decide (q.holder < 192) && !q.point || q.force && decide (q.holder < 192) then no .reservedValue
  else if !s.holderOk q.holder then no .notFitted
  else if (s.froz q.holder).frozen then no .orcFrozen
  else if q.replaces.any fun g => !(s.grantsOf q.holder).contains g then no .orcNoGrant
  else
    let a := fullUnit now q.tStart
    let clipped := decide (a < now)
    let ts : Nat := if clipped then now else a.toNat
    let b := fullUnit now q.tEnd
    let bad (r : Rc) (n : Nat) : Except (Rc × List Word) OrcJob :=
      .error (r, orcWords 0xFFFF clipped false (min n 8191) 0 0 0 0)
    if !q.openEnd && (decide (b ≤ ts) || decide (now + 65535 < b)) then bad .orcHorizon 0
    else if 64000 < lineLen q.pts then bad .orcTooLong 0
    else if 192 ≤ q.holder ∧ s.zoneType q.holder = 1 ∧ q.margin < s.orc.peopleMin then bad .orcMargin 0
    else match s.orc.grid with
      | none => bad .orcOutOfGrid 0
      | some g =>
        let ts' := g.cover (q.halfW + q.margin) q.pts
        if !ts'.all fun t => g.inside t.1 t.2 then bad .orcOutOfGrid ts'.length
        else if 4096 < ts'.length then bad .orcTooBig ts'.length
        else .ok ⟨q, ts, b.toNat, clipped, ts'.map fun t => (t.1.toNat, t.2.toNat)⟩

/-- The interval of a job on a tile. -/
def OrcJob.iv (b : OrcJob) (grant : Nat) (t : Nat × Nat) : Interval :=
  { i := t.1, j := t.2, holder := b.req.holder, grant := grant, tStart := b.ts, tEnd := b.te, openEnd := b.req.openEnd }

/-- The conflicting interval of a tile with the earliest start, and among equal starts the lowest holder (R177). -/
def Dev.tileConflict (s : Dev) (x : Interval) : Option Interval :=
  s.orc.store.foldl (fun best y =>
    if s.conflict x y then
      match best with
      | none => some y
      | some z => if y.tStart < z.tStart ∨ (y.tStart = z.tStart ∧ y.holder < z.holder) then some y else best
    else best) none

/-- The first conflict of a job (R177). -/
def Dev.firstConflict (s : Dev) (b : OrcJob) : Option Interval := b.tiles.findSome? fun t => s.tileConflict (b.iv 0 t)

/-- Some conflicting interval of a machine lies on the tile (R187). -/
def Dev.machineConflicts (s : Dev) (x : Interval) : List Nat :=
  ((s.orc.store.filter fun y => decide (y.holder < 192) && s.conflict x y).map (·.holder)).dedup

/-- The room of check 11, in a state that the replaced grant has left (R173). -/
def Dev.orcRoom (s : Dev) (b : OrcJob) : Option Rc :=
  if 262144 < s.orc.store.length + b.tiles.length then some .orcStoreFull
  else if 4096 ≤ s.liveGrants.length
      ∨ (if b.req.holder < 192 then 32 else 64) ≤ (s.grantsOf b.req.holder).length then some .orcGrantsFull
  else none

/-- Enters the intervals of a job under a new grant: claims where a forced zone meets machines (R187). -/
def Dev.enterJob (s : Dev) (b : OrcJob) (txn : Option Nat) : Dev × Nat × Bool :=
  let id := (s.nextId 0xFFFF s.orc.nextGrant).getD s.orc.nextGrant
  let ivs := b.tiles.map fun t =>
    let x := b.iv id t
    { x with pending := (b.req.force && !(s.machineConflicts x).isEmpty) || txn.isSome, txn := txn }
  let pend := ivs.any Interval.claim
  let ms := (ivs.flatMap fun x => if x.claim then s.machineConflicts x else []).dedup
  let s := { s with orc := { s.orc with store := s.orc.store ++ ivs, nextGrant := (id + 1) % 0xFFFF } }
  (s.stopUnder b.req.holder ms, id, pend)

/-- The first moving slot of some slots whose envelope lies outside its reservation. -/
def Dev.uncovered (s : Dev) (ks : List Nat) : Option Nat :=
  ks.find? fun k => s.moving k && !s.envOk k (s.pch k) s.tbs.time 0

/-- ORC_REQUEST (R173): granted whole or refused. A denial, as ORC_STATUS counts it, is a refusal with ORC_DENIED.
(DEDUCED: log entry 44.) -/
def orcRequestRun (c : Cmd) (s : Dev) : Res :=
  let q := orcParse c
  let deny (r : Rc) (ws : List Word) : Res :=
    let n := b2n (r = .orcDenied)
    ⟨some r, ws, { s with orc := { s.orc with
      denials := min (s.orc.denials + n) 0xFFFFFFFF, denWin := s.orc.denWin + n } }⟩
  match s.orcCheck q with
  | .error e => deny e.1 e.2
  | .ok b =>
    let n := b.tiles.length
    match if q.force then none else s.firstConflict b with
    | some x => deny .orcDenied
        (orcWords 0xFFFF b.clipped false n x.holder x.i x.j (word (max b.ts (x.tStart - s.orc.guard))))
    | none =>
      let s1 := match q.replaces with
        | some g => s.dropIvs fun x => x.holder == q.holder && x.grant == g
        | none => s
      match s1.orcRoom b with
      | some r => deny r (orcWords 0xFFFF b.clipped false n 0 0 0 0)
      | none =>
        let r := s1.enterJob b none
        match if q.replaces.isSome ∧ q.holder < 192 then r.1.uncovered [q.holder] else none with
        | some k => deny .orcInvariant (orcWords 0xFFFF b.clipped false n k 0 0 0)
        | none =>
          let t := r.1.promote
          done { t with orc := { t.orc with grants := min (t.orc.grants + 1) 0xFFFFFFFF } }
            (orcWords r.2.1 b.clipped r.2.2 n 0 0 0 0)

/-- Fields of ORC_REQUEST. -/
def orcRequestFields : List FieldRule :=
  [fAny 0 0 8, fIn 0 8 4 1 9, fAny 0 12 1, fAny 0 13 1, fAny 0 16 16, fWord 1, fWord 2, fAny 3 0 15,
   fIn 3 16 14 0 10000, fWord 4, fWord 5] ++ fWords 6 8

/-! ### Releases (R182, R191) -/

/-- Fields of ORC_RELEASE and ORC_RELEASE_FROZEN. -/
def orcReleaseFields : List FieldRule := [fAny 0 0 8, fAny 0 16 16]

/-- ORC_RELEASE without the test for uncovered envelopes, which a staged release leaves to R47 and R48 (R180). -/
def Dev.orcReleaseRaw (s : Dev) (h g : Nat) : Except Rc Dev :=
  if !s.holderOk h then .error .notFitted
  else if (s.froz h).frozen then .error .orcFrozen
  else if g ≠ 0xFFFF ∧ !(s.grantsOf h).contains g then .error .orcNoGrant
  else .ok (s.dropIvs fun x => x.holder == h && (g == 0xFFFF || x.grant == g) && x.txn.isNone)

/-- ORC_RELEASE (R182): one grant or all of a holder. -/
def orcReleaseRun (c : Cmd) (s : Dev) : Res :=
  let h := argF c 0 0 8
  match s.orcReleaseRaw h (argF c 0 16 16) with
  | .error r => refuse s r
  | .ok t =>
    match if h < 192 then t.uncovered [h] else none with
    | some _ => refuse s .orcInvariant
    | none => done t.promote []

/-- A disc or standing point reservation of a machine, laid as R190 and R191 say: clipped to the grid, claims where it
meets other holders; `was` tells how the tiles of the disc before it stood. -/
def Dev.layPoint (s : Dev) (h : Nat) (e n : Int) (r : Nat) (frozen : Bool) (was : List Interval) : Dev × Nat :=
  match s.orc.grid with
  | none => (s, 0xFFFF)
  | some g =>
    let id := (s.nextId 0xFFFF s.orc.nextGrant).getD s.orc.nextGrant
    let ts := (g.cover r [(e, n)]).filter fun t => g.inside t.1 t.2
    let ivs : List (Interval × Bool) := ts.map fun t =>
      let x : Interval := {
        i := t.1.toNat, j := t.2.toNat, holder := h, grant := id, tStart := s.unitNow, tEnd := 0, openEnd := true
        frozen := frozen }
      match was.find? fun y => y.i == x.i && y.j == x.j with
      | some y => ({ x with pending := y.pending }, true)
      | none => ({ x with pending := s.orc.store.any fun y => s.conflict x y }, false)
    let ms := (ivs.flatMap fun x => if x.1.pending && !x.2 then s.machineConflicts x.1 else []).dedup
    let s := { s with orc := { s.orc with
      store := s.orc.store ++ ivs.map Prod.fst, nextGrant := (id + 1) % 0xFFFF } }
    (s.stopUnder h ms, id)

/-- Ends the frozen state of a holder in one step: its frozen grants and disc go, and a standing point reservation takes
their place where a position is given (R191). -/
def Dev.thaw (s : Dev) (h : Nat) (at_ : Option Pos) : Dev :=
  let disc := (s.froz h).disc.map fun d : Nat × Int × Int × Nat => d.1
  let was := s.orc.store.filter fun x => x.holder == h && some x.grant == disc
  let s := (s.dropIvs fun x => x.holder == h && x.frozen).frozMod h fun _ => {}
  match at_ with
  | some p => (s.layPoint h p.e p.n ((s.oslot h).foot + p.hpl) false was).1.promote
  | none => s.promote

/-- Freezes a holder whose slot has fallen silent (R189, R190). -/
def Dev.freezeHolder (s : Dev) (k : Nat) : Dev :=
  if (s.froz k).frozen then s
  else
    let s := { s with orc := { s.orc with
      store := s.orc.store.map fun x : Interval =>
        if x.holder = k ∧ x.txn = none then { x with frozen := true } else x } }
    let o := s.oslot k
    let p := s.pch k
    let a := p.decel
    let j := p.jerk
    match s.lastSince k with
    | none => s.frozMod k fun _ => { frozen := true }
    | some q =>
      let age := s.tbs.mono - q.instMono
      -- FOOT + U + V (A + 400 ms + T_REACT) + V² / 2a + V a / 2j, rounded up to the mm
      let v := o.vMax
      let rf := o.foot + q.hpl
        + cdiv (v * (age + (400 + o.tReact) * msU) * 2 * a * j + v * v * j * secU + v * a * a * secU) (2 * a * j * secU)
      let r := s.layPoint k q.e q.n rf true []
      r.1.frozMod k fun _ => { frozen := true, disc := if r.2 = 0xFFFF then none else some (r.2, q.e, q.n, rf) }

/-- POS_OK of slot k at a sampling (05 R159). -/
def Dev.posOk (s : Dev) (k : Nat) : Bool :=
  let f := s.fslot k
  match f.newest with
  | none => false
  | some p =>
    f.mode != 0 && decide (s.tbs.mono ≤ p.instMono + 300 * msU) && (p.status == 3 || (p.status == 2 && f.floatOk))
      && decide (p.hpl ≤ f.hal) && decide (p.vpl ≤ f.val)

/-- A position arrives at a frozen holder whose machine has re-registered (R191): the first one with POS_OK inside the disc
thaws it; the first one outside is a breach, with a record. -/
def Dev.thawOn (s : Dev) (k : Nat) (z : Pos) : Dev :=
  let f := s.froz k
  if !f.frozen || !f.awaiting || !s.posOk k then s
  else
    let s := s.frozMod k fun f => { f with awaiting := false }
    let inside := match f.disc with
      | some d =>
        decide ((z.e - d.2.1) * (z.e - d.2.1) + (z.n - d.2.2.1) * (z.n - d.2.2.1) ≤ (d.2.2.2 : Int) * d.2.2.2)
      | none => false
    if inside then s.thaw k (some z) else s.logSlot (fwCode 3 0x06 0x12) k []

/-- ORC_RELEASE_FROZEN (R182, R191): ends a freeze; a standing point reservation stays at an ACTIVE slot's newest position
with POS_OK = 1. -/
def orcReleaseFrozenRun (c : Cmd) (s : Dev) : Res :=
  let h := argF c 0 0 8
  if !s.holderOk h then refuse s .notFitted
  else if !(s.froz h).frozen then refuse s .orcNoGrant
  else
    let p := if (s.rslot h).st = .active ∧ s.posOk h then (s.fslot h).newest else none
    done (s.thaw h p) []

/-! ### Configuration and status (R165, R166, R171, R172, R195, R196) -/

/-- Fields of ORC_GRID_CFG. -/
def orcGridFields : List FieldRule := [fIn 0 0 3 0 4, fIn 0 3 10 0 1023, fIn 0 13 10 0 1023, fWord 1, fWord 2]

/-- ORC_GRID_CFG (R166): halted, while no interval and no claim stands; a repeated grid is no change (R39). -/
def orcGridCfgRun (c : Cmd) (s : Dev) : Res :=
  let g : Grid := { log2 := argF c 0 0 3, ni := argF c 0 3 10 + 1, nj := argF c 0 13 10 + 1, e0 := argI c 1, n0 := argI c 2 }
  if s.orc.grid = some g then done s []
  else if !s.orc.store.isEmpty then refuse s .notHalted
  else done { s with orc := { s.orc with grid := some g } } []

/-- Fields of ORC_GLOBAL_CFG. -/
def orcGlobalFields : List FieldRule := [fIn 0 0 8 0 100, fIn 0 8 14 0 10000]

/-- ORC_GLOBAL_CFG (R171, R172). -/
def orcGlobalCfgRun (c : Cmd) (s : Dev) : Res :=
  done { s with orc := { s.orc with guard := argF c 0 0 8, peopleMin := argF c 0 8 14 } } []

/-- Fields of ORC_SLOT_CFG. -/
def orcSlotFields : List FieldRule :=
  [fAny 0 0 8, fAny 0 8 1, fIn 0 16 16 100 20000, fIn 1 0 16 1 16000, fIn 1 16 16 0 2000]

/-- ORC_SLOT_CFG (R196): refused for a moving slot. -/
def orcSlotCfgRun (c : Cmd) (s : Dev) : Res :=
  let k := argF c 0 0 8
  if s.nSlots ≤ k then refuse s .notFitted
  else if s.moving k then refuse s .slotMoving
  else done (s.oslotMod k fun _ => {
    depot := argB c 0 8, foot := argF c 0 16 16, vMax := argF c 1 0 16, tReact := argF c 1 16 16 }) []

/-- Fields of ORC_ZONE_CFG. -/
def orcZoneFields : List FieldRule := [fAny 0 0 8, fIn 0 8 2 0 2]

/-- ORC_ZONE_CFG (R172): halted while the zone holds an interval or a claim; the type in force is no change. A holder below
192 is no zone of the part (R4). -/
def orcZoneCfgRun (c : Cmd) (s : Dev) : Res :=
  let h := argF c 0 0 8
  let t := argF c 0 8 2
  if h < 192 then refuse s .notFitted
  else if s.zoneType h = t then done s []
  else if s.orc.store.any fun x => x.holder == h then refuse s .notHalted
  else done { s with orc := { s.orc with zones := tset 0 s.orc.zones (h - 192) t } } []

/-- Orchard is healthy (R193). (DEDUCED: log entry 37.) -/
def Dev.orcHealthy (s : Dev) : Bool := s.orc.grid.isSome && !s.orc.overrun && !s.orc.fault && !s.orc.ueHit

/-- An entry of ORC_TILE_READ: holder, grant, start, end and flags (14 R409). -/
def tileEntry (x : Interval) : List Byte :=
  leBytes 1 x.holder ++ leBytes 1 (b2n x.openEnd + 2 * b2n x.pending + 4 * b2n x.frozen) ++ leBytes 2 x.grant
    ++ leBytes 4 x.tStart ++ leBytes 4 x.tEnd ++ leBytes 4 0

/-- As many whole entries of a list as n bytes hold. -/
def wholeFit (n : Nat) : List (List Byte) → List (List Byte)
  | [] => []
  | e :: es => if e.length ≤ n then e :: wholeFit (n - e.length) es else []

/-- A snapshot read (14 R409): whole entries as far as they fit; the bytes written, TRUNC, the epoch and 0. -/
def snapshot (c : Cmd) (s : Dev) (entries : List (List Byte)) : Res :=
  let fit := wholeFit (arg c 3).toNat entries
  let bs := fit.flatten
  done (s.toBuffer c.path (arg64 c 1) bs) [word bs.length, word (b2n (fit.length < entries.length)), s.epoch, 0]

/-- Fields of ORC_TILE_READ. -/
def orcTileReadFields : List FieldRule := [fAny 0 0 20, fWord 1, fWord 2, fWord 3]

/-- ORC_TILE_READ (R195): a tile's intervals by start, holder and grant. -/
def orcTileReadRun (c : Cmd) (s : Dev) : Res :=
  let i := argF c 0 0 10
  let j := argF c 0 10 10
  match s.orc.grid with
  | none => refuse s .orcOutOfGrid
  | some g =>
    if !g.inside i j then refuse s .orcOutOfGrid
    else
      let key (x y : Interval) : Bool :=
        decide (x.tStart < y.tStart) || (x.tStart == y.tStart
          && (decide (x.holder < y.holder) || (x.holder == y.holder && decide (x.grant ≤ y.grant))))
      snapshot c s ((sortBy key (s.orc.store.filter fun x => x.i == i && x.j == j)).map tileEntry)

/-- ORC_STATUS (14 status responses): grants and denials are those since the last read. (DEDUCED: log entry 39.) -/
def orcStatusRun (_c : Cmd) (s : Dev) : Res :=
  let o := s.orc
  let fr := ((List.range 192).filter fun k => (s.froz k).frozen).length
  done { s with orc := { o with grants := 0, denials := 0 } }
    [word (b2n s.orcHealthy + 2 * b2n o.fault + 2 ^ 16 * fr), sat32 o.store.length,
     sat32 ((o.store.map fun x => (x.i, x.j)).dedup.length), sat32 s.liveGrants.length,
     sat32 ((o.store.filter Interval.claim).length), sat32 o.sweeps, sat32 o.grants, sat32 o.denials]

/-! ### Events of Orchard (R169, R170, R192, R193) -/

/-- Orchard's part of a boundary (R169, R170): intervals that have ended retire, and the T_START of old endless ones is
raised. -/
def Dev.orcBoundary (s : Dev) : Dev :=
  let u := s.unitNow
  let s := s.dropIvs fun x => !x.noEnd && !x.pending && decide (x.tEnd ≤ u)
  { s with orc := { s.orc with
    store := s.orc.store.map fun x : Interval =>
      if x.noEnd ∧ x.tStart + 2 ^ 30 < u then { x with tStart := u } else x } }.promote

/-- After a large step every interval that is neither OPEN_END nor frozen is released (R192); pending transaction intervals
follow R60. -/
def Dev.orcStep (s : Dev) : Dev :=
  let gone (x : Interval) : Bool := !x.noEnd && x.txn.isNone
  let n := (s.orc.store.filter gone).length
  (s.dropIvs gone).promote.log (fwCode 1 0x06 0x11) (leBytes 4 n)

/-- The first tile with two granted intervals in conflict (R193). -/
def Dev.auditFail (s : Dev) : Option (Nat × Nat) :=
  (s.orc.store.find? fun x => !x.pending && s.orc.store.any fun y => !y.pending && s.conflict x y).map fun x => (x.i, x.j)

/-- ORCHARD_AUDIT (R193): a sweep completes, and with it any operation before it (R178); or it finds a conflict: FAULT, a record, no more tokens, and a fleet stop.
(DEDUCED: log entry 37.) -/
def execOrchardAudit (s : State) : Host.Outcome State Fault Refusal := act s fun s =>
  (match s.auditFail with
  | none => { s with orc := { s.orc with sweeps := s.orc.sweeps + 1, overrun := false } }
  | some t =>
    let s := { s with orc := { s.orc with fault := true } }
    ((s.log 0xC602 (leBytes 2 t.1 ++ leBytes 2 t.2)).endTokens).fleetStop 8)

/-- ORCHARD_OP_OVERRUN (R193): an operation in progress for more than 20 ms: Orchard is not healthy.
(DEDUCED: log entry 37.) -/
def execOrchardOpOverrun (s : State) : Host.Outcome State Fault Refusal := act s fun s =>
  { s with orc := { s.orc with overrun := true } }

end Sys2Proof.Machine
end

