-- ==== Sys2Proof/Machine/Profile.lean ====
section
/-! DEFINITION. The profile engine: the tick law, coverage, stops, retargets, windows, the lag test and the profile commands
(chapter 07). -/
namespace Sys2Proof.Machine

/-! ### The tick of one channel -/

/-- What a channel's tick needs from outside: the tracks, the slot's ORC_SLOT_CFG, and the conditions of R211 that lie with
Bugle: the permission of two beacons, and no stop in force. -/
structure PEnv where
  trk : Nat → Track
  tReact : Nat
  vMax : Nat
  permit : Bool
  noStop : Bool
  /-- A tick of the engine, not one of a projection: only then may a start be set (R211, R216). -/
  live : Bool

/-- Heading change at the joint of two segments, microdegrees, 0 to 180° (R204). -/
def jointAngle (v : PEnv) (g h : Seg) : Nat :=
  let dir (x : Seg) (sta : Nat) : Int := (v.trk x.track).headingAt sta + if x.rising then 0 else 180000000
  let d := ((dir h h.sta0 - dir g g.sta1) % 360000000).toNat
  min d (360000000 - d)

/-- The square of a speed cap, × 2^96 (R204, R205). -/
def capW (mmS : Nat) : Nat := mmS * mmS * 2 ^ 96

/-- The square of the corner speed of a joint, × 2^96 in mm²/s² (R204): 0 at a rest point. -/
def cornerW (v : PEnv) (p : Prf) (g h : Seg) : Nat :=
  let th := jointAngle v g h
  if 45000000 < th || g.rising != h.rising || g.rev != h.rev || g.len == 0 || h.len == 0 || decide (0 < g.dwell) then 0
  else
    let cap := min (capW g.vCap) (capW h.vCap)
    if th = 0 then cap
    else
      let n := isqrt (p.aLat * 2000 * 180000000 * 2 ^ 96 * 10 ^ 18 / (th * piE18 * 10 ^ 12))
      min cap (n * n * 10 ^ 12)

/-- The segments that have taken effect in epoch `ep` (R208). -/
def Prf.liveSegs (p : Prf) (ep : Nat) : List Seg := p.queue.takeWhile fun g => decide (g.eff ≤ ep)

/-- Joints ahead up to the next rest point: the end of each segment with the corner there (R204, R205). The last live
segment ends in a rest point. -/
def jointsFrom (v : PEnv) (p : Prf) : Nat → List Seg → List (Nat × Nat)
  | _, [] => []
  | x, [g] => [(x + g.len * mmF, 0)]
  | x, g :: h :: gs =>
    let y := x + g.len * mmF
    let w := cornerW v p g h
    if w = 0 then [(y, 0)] else (y, w) :: jointsFrom v p y (h :: gs)

/-- 2 j × the speed target of the tick in 2^-48 pm per tick, and whether coverage binds it (R203, R205, R207). -/
def Prf.target' (v : PEnv) (ep : Nat) (p : Prf) : Nat × Bool :=
  match p.queue with
  | [] => (0, false)
  | g :: _ =>
    if ep < g.eff then (0, false) else
    let a := p.decel
    let j := p.jerk
    let js := jointsFrom v p p.entry (p.liveSegs ep)
    let js := match p.stopAt with
      | some x => (x, 0) :: js
      | none => js
    let cap := g.vCap * 10 ^ 6 * 2 ^ 48
    let l : Leg := ⟨g.track, g.sta0, g.rising, p.entry, none⟩
    let curv := match vCurv p.aLat ((v.trk g.track).kappaAt (l.staAt p.pos)) with
      | some n => min cap (n * 10 ^ 12)
      | none => cap
    let path := js.foldl (fun m x => min m (brake (x.1 - p.pos) x.2 a j)) (curv * 2 * j)
    let cov := vCov (p.sLimEff - p.pos) v.tReact a j
    (min path cov, decide (cov < path))

/-- The computation of R205 towards a speed target, given as 2 j × the target. (DESIGN CHOICE: log entry 12.) -/
def Prf.law (p : Prf) (tgt au : Nat) : Prf :=
  let j : Int := p.jerk
  let e : Int := tgt - (p.v * 2 * j + p.a * p.a.natAbs) * 2 ^ 48
  let want : Int := if 2 * j * j * 2 ^ 48 < e then au * 1000 else if e < -(2 * j * j * 2 ^ 48) then -(p.decel * 1000 : Nat) else 0
  let a := p.a + max (-j) (min j (want - p.a))
  let w := (p.v + a).toNat
  { p with a := if w = 0 ∧ tgt = 0 then 0 else a, v := w, acc := p.acc + w * 2 ^ 32 / 10 ^ 12 }

/-- Path position at which the head ends. -/
def Prf.headEnd (p : Prf) : Nat := p.entry + (p.queue.head?.elim 0 Seg.len) * mmF

/-- The head needs a dwell (R202). -/
def Seg.dwells (g : Seg) : Bool := g.len == 0 || decide (0 < g.dwell)

/-- A deceleration and a jerk are requested (R212): harsher ones apply, gentler ones wait. -/
def Prf.request (p : Prf) (d j : Nat) : Prf :=
  let d' := min d p.decelCap
  let p := { p with clamped := p.clamped || decide (p.decelCap < d) }
  let p := if p.decel < d' then { p with aF := some d', waitA := none }
    else if d' = p.decel then { p with aF := some d', waitA := none } else { p with waitA := some d', aF := some p.decel }
  let p := if p.jerk ≤ j then { p with jF := some j, waitJ := none } else { p with waitJ := some j, jF := some p.jerk }
  { p with waitEff := none }

/-- A live head that has not yet taken over does so (R212). -/
def Prf.takeOver (p : Prf) (ep : Nat) : Prf :=
  match p.queue with
  | g :: gs =>
    if g.eff ≤ ep ∧ !g.cur then { p.request g.decel g.jerk with queue := { g with cur := true } :: gs } else p
  | [] => p

/-- The head retires (R202): the next segment becomes head at its end; the last one leaves the channel IDLE.
(DEDUCED: log entry 42.) -/
def Prf.retire (p : Prf) (ep : Nat) : Prf :=
  match p.queue with
  | [] => p
  | g :: gs =>
    let p := { p with entry := p.headEnd, queue := gs, rest := some g, dwelt := 0, reversing := false, stopAt := none }
    if gs.isEmpty then { p with st := .idle, stopped := false, waitPermit := false, covLimit := false } else p.takeOver ep

/-- Motion may begin but for the permission (R211): no stop, LAG clear, no target behind unless its reverse move may run,
coverage ahead. -/
def Prf.ready (p : Prf) (v : PEnv) : Bool :=
  v.noStop && !p.lag && (!p.behind || p.reversing) && (p.reversing || decide (p.pos < p.sLim)) && !p.queue.isEmpty

/-- The waiting deceleration and jerk apply (R213). -/
def Prf.applyWait (p : Prf) : Prf :=
  { p with
    aF := p.waitA.or p.aF, jF := p.waitJ.or p.jF, waitA := none, waitJ := none, waitEff := none }

/-- The reverse move of R215 takes the head's place. -/
def Prf.startReverse (p : Prf) (ep : Nat) : Prf :=
  match p.queue, p.target with
  | g :: _, some sta =>
    let l : Leg := ⟨g.track, g.sta0, g.rising, p.entry, none⟩
    let here := l.staAt p.pos
    let r : Seg := { g with
      rev := !g.rev, sta0 := here, sta1 := sta, rising := decide (here ≤ sta), vCap := min g.vCap p.revVMax
      dwell := 0, eff := ep, cur := true }
    { p with
      queue := [r], entry := p.pos, behind := false, target := none, stopAt := none
      sLim := p.pos + r.len * mmF, sLimEff := p.pos + r.len * mmF }
  | _, _ => p

/-- Changes whose window base is the start of this epoch apply (R208): S_LIM, segments, a farther end, motion from rest, and
waiting values (when `waitOk`, R213, holds). (DEDUCED: log entry 40.) -/
def Prf.base (v : PEnv) (ep : Nat) (waitOk : Bool) (p : Prf) : Prf :=
  let p := { p with sLimEff := min p.sLim (max p.sLimWin p.sLimEff) }
  let p := match p.retarget, p.queue with
    | some (sta, e), g :: gs =>
      if e ≤ ep then { p with queue := { g with sta1 := sta } :: gs, retarget := none } else p
    | _, _ => p
  let p := match p.waitEff with
    | some e => if e ≤ ep && waitOk then p.applyWait else p
    | none => p
  let p := p.takeOver ep
  match p.startAt with
  | some e =>
    if e ≤ ep && p.ready v && v.permit && (p.st = .idle || p.st = .hold) then
      let p := if p.behind then p.startReverse ep else p
      { p with st := .run, stopped := false, waitPermit := false, covLimit := false, startAt := none }
    else p
  | none => p

/-- The head stands at its end and its dwell runs (R202). -/
def Prf.dwelling (p : Prf) : Bool :=
  match p.queue with
  | g :: _ => g.dwells && decide (p.v = 0) && decide (p.headEnd ≤ p.pos) && (p.st = .dwell || p.st = .hold || p.st = .stopping)
  | [] => false

/-- The dwell count (R202, R211): at its end the head retires, and a channel in DWELL runs on if motion is allowed.
(DEDUCED: log entry 42.) -/
def Prf.dwellTick (v : PEnv) (ep : Nat) (p : Prf) : Prf :=
  match p.queue with
  | g :: _ =>
    if p.dwelling then
      if g.dwell ≤ p.dwelt then
        let was := p.st
        let p := p.retire ep
        if p.queue.isEmpty then { p with st := .idle }
        else if was = .dwell then { p with st := if p.ready v && v.permit then .run else .hold }
        else p
      else { p with dwelt := p.dwelt + 1 }
    else p
  | [] => p

/-- Segments whose ends the commanded position has reached retire (R202), each without a dwell of its own. A change of direction
or of REVERSE waits for speed 0 (R206). -/
def Prf.passJoints (ep : Nat) : Nat → Prf → Prf
  | 0, p => p
  | n + 1, p =>
    match p.liveSegs ep with
    | g :: h :: _ =>
      if p.headEnd ≤ p.pos && !g.dwells && g.rising == h.rising && g.rev == h.rev then
        Prf.passJoints ep n (p.retire ep)
      else p
    | _ => p

/-- The end of a tick: coming to rest, reaching an end, coverage or the stop point, and what follows (R202, R205,
R207, R210, R214). -/
def Prf.arrive (ep tgt : Nat) (p : Prf) : Prf :=
  let p := if p.st = .run then p.passJoints ep 16 else p
  let restAt := match p.stopAt with
    | some x => min x p.headEnd
    | none => p.headEnd
  let p := if p.st = .run ∧ p.v = 0 ∧ p.queue ≠ [] ∧ p.pos < restAt ∧ restAt < p.pos + mmF then
    { p with acc := cdiv restAt 1000 } else p
  let last : Bool := match p.queue with
    | [g] => p.target.isNone && !g.dwells && decide (g.eff ≤ ep)
    | _ => false
  if p.v ≠ 0 then if (p.st == .run) && last && decide (p.headEnd ≤ p.pos) then p.retire ep else p
  else match p.st with
    | .stopping => { p with st := .hold, stopped := p.stopped || !p.lag }
    | .run =>
      match p.queue with
      | [] => { p with st := .idle }
      | g :: _ =>
        if p.stopAt.isSome ∧ restAt ≤ p.pos then { p with st := .hold, behind := true, stopAt := none }
        else if p.headEnd ≤ p.pos ∧ g.eff ≤ ep then
          if p.target.isSome then { p with st := .hold, behind := true }
          else if g.dwells then { p with st := .dwell, dwelt := 0 } else p.retire ep
        else if p.covLimit && decide (tgt = 0) then { p with st := .hold } else p
    | _ => p

/-- Stop conditions and the flags of a channel at rest (R198, R210, R211); `next` is the epoch of the next window base.
(DEDUCED: log entry 42.) -/
def Prf.gate (v : PEnv) (next : Nat) (p : Prf) : Prf :=
  let p := if p.lag ∧ (p.st = .run ∨ p.st = .dwell) then { p with st := .stopping } else p
  if p.st = .hold ∨ p.st = .idle then
    let rdy := p.ready v && !p.dwelling
    let p := { p with
      stopped := p.stopped || (p.st == .hold && !v.noStop && !p.lag)
      waitPermit := rdy && !v.permit, covLimit := decide (p.st = .hold) && decide (p.sLim ≤ p.pos) && !p.queue.isEmpty
      startAt := if rdy && v.permit then (if v.live then some (p.startAt.getD next) else p.startAt) else none }
    if p.st = .idle ∧ p.queue ≠ [] then { p with st := .hold } else p
  else p

/-- A channel at rest whose live head is a dwell point there passes to DWELL, unless a stop, LAG or a target behind holds it
(R198, R202). (DEDUCED: log entry 42.) -/
def Prf.settle (v : PEnv) (ep : Nat) (p : Prf) : Prf :=
  match p.queue with
  | g :: _ =>
    if (p.st == .hold || p.st == .idle) && g.dwells && decide (g.eff ≤ ep) && decide (p.v = 0) && decide (p.headEnd ≤ p.pos)
        && v.noStop && !p.lag && !p.behind && !p.stopped then
      { p with st := .dwell, covLimit := false, waitPermit := false, startAt := none }
    else p
  | [] => p

/-- One tick j of epoch `ep` (R205). (DEDUCED: log entry 42.) -/
def Prf.tick (v : PEnv) (ep j : Nat) (waitOk : Bool) (p : Prf) : Prf :=
  if p.st = .off then p
  else
    let p := { p with sLimEff := min p.sLimEff p.sLim }
    let p := if j = 0 then p.base v ep waitOk else p
    let p := p.gate v (if j ≤ 60 then ep + 1 else ep + 2)
    let p := (p.settle v ep).dwellTick v ep
    let t := if p.st = .run then p.target' v ep else (0, false)
    let p := if p.st = .run then { p with covLimit := t.2 } else p
    (p.law t.1 (p.queue.head?.elim 0 Seg.accel)).arrive ep t.1

/-- n ticks ahead, no further change assumed (R186, R216): the epoch and tick numbers run on.
(DEDUCED: log entries 40, 41.) -/
def Prf.ahead (v : PEnv) : Nat → Nat → Nat → Prf → Prf
  | 0, _, _, p => p
  | n + 1, ep, j, p => Prf.ahead v n (if j = 99 then ep + 1 else ep) (if j = 99 then 0 else j + 1) (p.tick v ep j true)

/-! ### The channel in its state -/

/-- What channel k's tick needs (R211). -/
def Dev.penv (s : Dev) (k : Nat) : PEnv :=
  { trk := s.track, tReact := (s.oslot k).tReact, vMax := (s.oslot k).vMax
    permit := (s.lastTwo.length == 2) && s.lastTwo.all fun b => (b.getD 0).getLsbD k
    noStop := !s.slotStopped k, live := true }

/-- The same for a projection: no further change is assumed, and no start is set in it (R186, R216).
(DEDUCED: log entry 41.) -/
def Dev.penvAhead (s : Dev) (k : Nat) : PEnv := { s.penv k with live := false }

/-- The epoch at whose start the first window built from now on has its base (R208, R216). -/
def Dev.nextBase (s : Dev) : Nat :=
  if s.tbs.resync then s.tbs.resumeAt + 1 else s.gen.epochFull + if 60 < s.tbs.ticksFired then 2 else 1

/-- The path position of the whole millimetre d mm beyond the one that holds the commanded position (R207). -/
def Prf.mmAhead (p : Prf) (d : Nat) : Nat := max p.pos ((p.pos / mmF + d) * mmF)

/-- The stretch of d mm ahead is covered for holder k (R207). -/
def Dev.stretchHeld (s : Dev) (k : Nat) (p : Prf) (legs : List Leg) (d : Nat) : Bool :=
  match s.orc.grid with
  | none => false
  | some g =>
    let o := s.oslot k
    let a := p.decel
    let j := p.jerk
    let u := s.unitNow
    let w := (s.tbs.time + stopTime (o.vMax * 10 ^ 6) o.tReact a j) / unitU
    let ts := g.cover (o.foot + s.uOf k) (s.pathPoints p.pos (p.mmAhead d) legs)
    s.tilesHeld k u w ts && ts.all fun t => !s.claimed k t.1.toNat t.2.toNat

/-- The largest d in lo to hi for which a monotone test holds, lo known good. (DESIGN CHOICE: log entry 14.) -/
def bisect (f : Nat → Bool) : Nat → Nat → Nat → Nat
  | 0, lo, _ => lo
  | n + 1, lo, hi =>
    if hi ≤ lo then lo
    else
      let m := (lo + hi + 1) / 2
      if f m then bisect f n m hi else bisect f n lo (m - 1)

/-- Grows a stretch by doubling until the test fails or the whole length holds, then bisects.
(DESIGN CHOICE: log entry 14.) -/
def gallop (f : Nat → Bool) (len : Nat) : Nat → Nat → Nat
  | 0, d => d
  | n + 1, d =>
    let e := min len (2 * d + 1000)
    if e ≤ d then d else if f e then gallop f len n e else bisect f 40 d (e - 1)

/-- The farthest covered path position along some legs of total length `len` mm (R207).
(DESIGN CHOICE: log entry 14.) -/
def Dev.sLimAlong (s : Dev) (k : Nat) (p : Prf) (legs : List Leg) (len : Nat) : Nat :=
  if s.stretchHeld k p legs 0 then p.mmAhead (gallop (s.stretchHeld k p legs) len 40 0) else p.pos

/-- Length of the queued path ahead, mm. -/
def Prf.aheadLen (p : Prf) : Nat :=
  (p.entry + (p.queue.foldl (fun n g => n + g.len) 0) * mmF) / mmF - p.pos / mmF

/-- The path with an accepted farther end of the head, which takes effect at its window base (R208, R214). -/
def Prf.farEnd (p : Prf) : Prf :=
  match p.retarget, p.queue with
  | some x, g :: gs => { p with queue := { g with sta1 := x.1 } :: gs }
  | _, _ => p

/-- Orchard recomputes S_LIM of channel k, and whether the reverse move of R215 may run (R207, R215).
(DESIGN CHOICE: log entry 14.) -/
def Dev.slimOne (s : Dev) (k : Nat) : Dev :=
  let p := s.pch k
  if p.st = .off then s
  else
    let x := s.sLimAlong k p p.farEnd.legs p.farEnd.aheadLen
    let rev := match p.queue, p.target with
      | g :: _, some sta =>
        if p.behind && p.reverseOk && decide (p.v = 0) then
          let here := (Leg.staAt ⟨g.track, g.sta0, g.rising, p.entry, none⟩ p.pos)
          let n := if here ≤ sta then sta - here else here - sta
          let legs : List Leg := [⟨g.track, here, decide (here ≤ sta), p.pos, none⟩]
          s.stretchHeld k p legs 0 && s.stretchHeld k p legs n
        else false
      | _, _ => false
    s.pchMod k fun p => { p with sLim := x, reversing := if p.behind then rev else p.reversing }

/-- SLIM_RECOMPUTE (R207): every channel's S_LIM. -/
def execSlimRecompute (s : State) : Host.Outcome State Fault Refusal := act s fun s =>
  ((List.range s.nSlots).foldl Dev.slimOne s)

/-- RES_OK of slot k with channel state p, the next tick being tick j of epoch `ep`, from TAI t over 500 ms (R186): each
unit's envelope, with D raised by the distance of the unit. The state at an instant is that after the instant's tick. -/
def Dev.resOkRun (s : Dev) (k : Nat) (v : PEnv) : Nat → Nat → Nat → Nat → Prf → Bool
  | 0, _, _, _, _ => true
  | n + 1, t, ep, j, p =>
    let left := (10 - j % 10) % 10 + 1
    let q := p.ahead v left ep j
    s.envOk k p t (cdiv (q.pos - p.pos) mmF)
      && Dev.resOkRun s k v n ((t / unitU + 1) * unitU) (if 100 ≤ j + left then ep + 1 else ep) ((j + left) % 100) q

/-- RES_OK (R186) for channel state p of slot k, the next tick being tick j of epoch `ep`. -/
def Dev.resOkFor (s : Dev) (k ep j : Nat) (p : Prf) : Bool :=
  !(s.froz k).frozen && !s.claimAgainst k
    && s.resOkRun k (s.penvAhead k) 51 s.tbs.time ep j p
    && (s.moving k || !(s.grantsOf k).isEmpty)

/-- RES_OK of slot k now (R186). -/
def Dev.resOk (s : Dev) (k : Nat) : Bool :=
  s.resOkFor k (s.gen.epochFull + s.tbs.ticksFired / 100) (s.tbs.ticksFired % 100) (s.pch k)

/-- R213 for the waiting values of channel k at tick j. -/
def Dev.waitOk (s : Dev) (k j : Nat) : Bool :=
  let p := s.pch k
  if p.waitA.isNone && p.waitJ.isNone then false
  else
    let q := p.applyWait
    decide (p.pos + stopDist p.v (s.oslot k).tReact q.decel q.jerk * mmF ≤ p.sLimEff) && s.resOkFor k s.gen.epochFull j q

/-- The history of the last 2.0 s at 10 ms resolution (R220): TAI, path position in mm, field position. -/
def Dev.histAdd (s : Dev) (p : Prf) : Prf :=
  match s.pointAt p p.pos with
  | some q => { p with hist := ((s.tbs.time, p.pos / mmF, q.1, q.2) :: p.hist).take 201 }
  | none => p

/-- A channel enters STOPPING (R210). -/
def Prf.stop (p : Prf) : Prf :=
  match p.st with
  | .run => { p with st := .stopping }
  | .dwell => { p with st := .stopping }
  | _ => p

/-- Tick j of channel k (R205, R210, R213, R220). At tick 0 a beacon without a token, or with the slot's bit cleared,
stops it. -/
def Dev.tickOne (j : Nat) (s : Dev) (k : Nat) : Dev :=
  let p := s.pch k
  let p := if j = 0 ∧ !((s.lastTwo.headD none).getD 0).getLsbD k then p.stop else p
  if p.st = .off then s
  else
    let w := s.waitOk k j
    let p := if p.waitA.isSome || p.waitJ.isSome then
        { p with waitEff := if w then some (p.waitEff.getD s.nextBase) else none } else p
    let p := p.tick (s.penv k) s.gen.epochFull j w
    let p := if j % 10 = 0 ∧ p.everHeld then s.histAdd p else p
    s.pchMod k fun _ => p

/-- After a large step (R223): speeds are 0, channels hold with STOPPED, and the lag history is discarded. -/
def Dev.profileStep (s : Dev) : Dev :=
  (List.range 192).foldl (fun s k =>
    let p := s.pch k
    if p.st = .off then s
    else s.pchMod k fun p => { p with
      v := 0, a := 0, hist := [], startAt := none
      st := if p.st = .idle then .idle else .hold
      stopped := p.stopped || decide (p.st ≠ .idle)
      queue := p.queue.map fun g : Seg => if s.gen.epochFull < g.eff then { g with eff := s.nextBase } else g }) s

/-! ### Track windows (R216 to R218) -/

/-- The points of a window: path positions, mm, at each 100 ms of the 2.0 s after the base; the largest speed; and the number of
segments queued at its end. -/
def windowPoints (v : PEnv) : Nat → Nat → Nat → Prf → Nat → List Nat × Nat × Nat
  | 0, _, _, p, m => ([], m, p.queue.length)
  | n + 1, ep, j, p, m =>
    let p := p.tick v ep j true
    let m := max m p.v
    let r := windowPoints v n (if j = 99 then ep + 1 else ep) (if j = 99 then 0 else j + 1) p m
    (if n % 100 = 0 then p.pos / mmF :: r.1 else r.1, r.2)

/-- The quantum of a band, mm (R217). -/
def bandQ (b : Nat) : Nat := 2 ^ b
/-- The upper bound of a band, pm per tick. -/
def bandU : Nat → Nat
  | 0 => 500 * 10 ^ 6 | 1 => 1000 * 10 ^ 6 | 2 => 2000 * 10 ^ 6 | 3 => 4000 * 10 ^ 6 | _ => 16000 * 10 ^ 6 + 1

/-- The band of a window (R217). -/
def bandOf (old vmax : Nat) : Nat :=
  if bandU old ≤ vmax then ((List.range 5).find? fun b => decide (vmax < bandU b)).getD 4
  else min old (((List.range 5).find? fun b => decide (10 * vmax < 9 * bandU b)).getD 4)

/-- 12-bit codes packed two to three bytes, point 1 first (R130, R218). -/
def pack12 : List Nat → List Byte
  | a :: b :: l => leBytes 3 (a % 4096 + 4096 * (b % 4096)) ++ pack12 l
  | [a] => leBytes 2 (a % 4096)
  | [] => []

/-- Segments with the path positions, mm, at which they are entered. (DEDUCED: log entry 57.) -/
def segStarts : Nat → List Seg → List (Seg × Nat)
  | _, [] => []
  | x, g :: gs => (g, x) :: segStarts (x + g.len * mmF) gs

/-- A SEGTAB entry (R218). (DEDUCED: log entry 57.) -/
def segEntry (g : Seg) (ofs sta : Nat) : List Byte :=
  leBytes 2 g.track ++ leBytes 2 g.seg ++ leBytes 2 ofs
    ++ leBytes 1 (b2n (!g.rising) + 2 * b2n g.rev + 4 * b2n (decide (0 < g.dwell))) ++ [0] ++ leBytes 4 sta

/-- SEGTAB from the position `base` on (R218): the head and every segment that becomes head by the end of the window, where `left` segments are queued.
(DEDUCED: log entry 57.) -/
def segTab (p : Prf) (base left : Nat) : List (List Byte) :=
  let gone := p.queue.isEmpty
  let segs := match p.queue, p.rest with
    | [], some g => [({ g with sta0 := g.sta1 }, p.entry)]
    | q, _ => segStarts p.entry q
  let es := segs.take (min 16 (p.queue.length - left + 1)) |>.map fun x =>
    let st := x.2 / mmF
    if base ≤ st then segEntry x.1 (st - base) x.1.sta0
    else
      let d := if gone then base - st else min (base - st) x.1.len
      segEntry x.1 0 (if x.1.rising then x.1.sta0 + d else x.1.sta0 - d)
  if es.isEmpty then [List.replicate 12 0] else es

/-- WINDOW_BUILD (R216): channel k builds its window at tick 60, after that tick's computation. The state at an instant is
that after the tick of the instant (R217 counts the ticks after the base up to base + 2.0 s): 40 ticks lead to the base.
(DEDUCED: log entries 40, 42, 43.) -/
def Dev.windowOne (s : Dev) (k : Nat) : Dev :=
  let p := s.pch k
  if p.st = .off then s
  else
    let v := s.penvAhead k
    let ep := s.gen.epochFull
    let p := { p with sLimWin := p.sLim }
    let b := p.ahead v 40 ep 61
    let r := windowPoints v 2000 (ep + 1) 1 b 0
    let band := bandOf p.qband r.2.1
    let q := bandQ band
    let base := b.pos / mmF
    let codes := r.1.map fun x => (x - base + q / 2) / q
    let segs := segTab b base r.2.2
    let bs := leBytes 1 1
      ++ leBytes 1 (band + 8 * b2n (p.st = .stopping) + 16 * b2n (p.st = .hold) + 32 * b2n p.lag)
      ++ leBytes 2 (ep + 1) ++ leBytes 6 base ++ leBytes 1 segs.length ++ leBytes 1 k ++ pack12 codes ++ segs.flatten
    s.pchMod k fun _ => { p with qband := band, window := bs }

/-! ### The lag test (R220, R221) -/

/-- The nearest point of a polyline with path positions to a field point, as (squared distance, path position), among equals
the one nearest `near`. -/
def nearest (q : Int × Int) (near : Nat) : List (Nat × Int × Int) → Option (Int × Nat)
  | a :: b :: l =>
    let dx := b.2.1 - a.2.1
    let dy := b.2.2 - a.2.2
    let l2 := dx * dx + dy * dy
    let t := max 0 (min l2 ((q.1 - a.2.1) * dx + (q.2 - a.2.2) * dy))
    let px := a.2.1 + (if l2 = 0 then 0 else (2 * t * dx + l2) / (2 * l2))
    let py := a.2.2 + (if l2 = 0 then 0 else (2 * t * dy + l2) / (2 * l2))
    let pos := (a.1 + (if l2 = 0 then 0 else (t * ((b.1 : Int) - a.1)) / l2)).toNat
    let c : Int × Nat := ((q.1 - px) * (q.1 - px) + (q.2 - py) * (q.2 - py), pos)
    let gap (x : Nat) : Nat := if near ≤ x then x - near else near - x
    match nearest q near (b :: l) with
    | none => some c
    | some r => if c.1 < r.1 ∨ (c.1 = r.1 ∧ gap c.2 ≤ gap r.2) then some c else some r
  | _ => none

/-- The cause of a failed lag test, with d in mm and τ in ms (R220); none when it passes or does not run. -/
def Dev.lagTest (s : Dev) (k : Nat) (z : Pos) : Option (Nat × Int × Nat) × Int × Nat :=
  let p := s.pch k
  match p.hist.find? fun h => decide (h.1 ≤ z.inst) with
  | none => (none, 0, 0)
  | some c =>
    let reach := p.lagMm + 1000
    let back := (p.hist.filter fun h => decide (c.2.1 ≤ h.2.1 + reach)).reverse.map fun h => (h.2.1, h.2.2.1, h.2.2.2)
    let fore := s.pathMarks p.pos ((c.2.1 + reach) * mmF) p.legs
    match nearest (z.e, z.n) c.2.1 (back ++ fore) with
    | none => (none, 0, 0)
    | some r =>
      let d : Int := (c.2.1 : Int) - r.2
      let tau : Nat := match p.hist.find? fun h => decide (h.1 ≤ z.inst) && decide (h.2.1 ≤ r.2) with
        | some h => (z.inst - h.1) / msU
        | none => 2000
      let run : Bool := p.st == .run || p.st == .dwell
      let rest : Bool := run || p.st == .hold || p.st == .idle
      let x2 : Int := p.xtrack * p.xtrack
      let slow : Bool := Nat.blt p.lagMs tau
      let cause : Nat :=
        if rest && decide ((p.lagMm : Int) < d) then 1
        else if run && decide ((p.deadMm : Int) ≤ d) && slow then 2
        else if rest && decide ((p.lagMm : Int) < -d) then 3
        else if rest && decide (x2 < r.1) then 4
        else 0
      (if cause = 0 then none else some (cause, d, tau), d, tau)

/-- A new position of slot k is tested, and a failed test latches LAG and demands a stop (R220, R221). -/
def Dev.lagCheck (s : Dev) (k : Nat) (z : Pos) : Dev :=
  let p := s.pch k
  if p.st = .off ∨ p.st = .stopping ∨ !p.everHeld ∨ z.status = 0 then s
  else
    let r := s.lagTest k z
    let s := s.pchMod k fun p => { p with lagD := r.2.1, lagTau := r.2.2 }
    match r.1 with
    | none => s
    | some f =>
      if p.lag then s
      else
        let s := s.pchMod k fun p => { p with
          lag := true, lagCause := f.1, lagCount := min (p.lagCount + 1) 0xFFFFFFFF }
        (s.slotStop 3 k).logSlot 0xC701 k
          (leBytes 1 f.1 ++ [0] ++ leBytes 2 (low 16 f.2.1) ++ leBytes 2 f.2.2)

/-! ### Commands (R225) -/

/-- Fields of a word that names a slot alone. -/
def slotFields : List FieldRule := [fAny 0 0 8]

/-- Fields of PRF_CHAN_CFG. -/
def prfChanFields : List FieldRule :=
  [fAny 0 0 8, fAny 0 8 1, fAny 0 9 1, fIn 0 16 16 100 5000, fIn 1 0 16 50 10000, fIn 1 16 16 50 10000,
   fIn 2 0 16 100 50000, fIn 2 16 16 50 10000, fIn 3 0 16 100 50000, fIn 3 16 16 100 4000]

/-- PRF_CHAN_CFG (R197, R199): halted; a repeated configuration is no change (R39). Enabling starts a new path (R200). -/
def prfChanCfgRun (c : Cmd) (s : Dev) : Res :=
  let k := argF c 0 0 8
  if s.nSlots ≤ k then refuse s .notFitted
  else if argF c 1 16 16 < argF c 2 16 16 ∨ argF c 2 0 16 < argF c 3 0 16 then refuse s .reservedValue
  else
    let p := s.pch k
    let en := argB c 0 8
    let q : Prf := { p with
      reverseOk := argB c 0 9, aLat := argF c 0 16 16, accelCap := argF c 1 0 16, decelCap := argF c 1 16 16
      jerkCap := argF c 2 0 16, decelDef := argF c 2 16 16, jerkDef := argF c 3 0 16, revVMax := argF c 3 16 16 }
    let fresh : Prf := {
      en := en, st := if en then .idle else .off, reverseOk := q.reverseOk, aLat := q.aLat, accelCap := q.accelCap
      decelCap := q.decelCap, jerkCap := q.jerkCap, decelDef := q.decelDef, jerkDef := q.jerkDef, revVMax := q.revVMax
      lagMm := p.lagMm, lagMs := p.lagMs, deadMm := p.deadMm, xtrack := p.xtrack, lag := p.lag, lagCause := p.lagCause
      lagCount := p.lagCount }
    let q := if en = p.en then q else fresh
    if q = p then done s []
    else if p.v ≠ 0 ∨ s.moving k then refuse s .notHalted
    else done (s.pchMod k fun _ => q) []

/-- Fields of PRF_LAG_CFG. -/
def prfLagFields : List FieldRule :=
  [fAny 0 0 8, fIn 0 8 13 100 5000, fIn 0 21 11 100 1900, fIn 1 0 10 0 500, fIn 1 10 14 100 10000]

/-- PRF_LAG_CFG (R220). -/
def prfLagCfgRun (c : Cmd) (s : Dev) : Res :=
  let k := argF c 0 0 8
  if s.nSlots ≤ k then refuse s .notFitted
  else done (s.pchMod k fun p => { p with
    lagMm := argF c 0 8 13, lagMs := argF c 0 21 11, deadMm := argF c 1 0 10, xtrack := argF c 1 10 14 }) []

/-- Fields of PRF_SEG_PUSH. -/
def prfSegFields : List FieldRule :=
  [fAny 0 0 8, fAny 0 8 1, fAny 0 16 16, fAny 1 0 16, fAny 1 16 16, fWord 2, fWord 3, fIn 4 0 16 1 16000,
   fIn 4 16 16 50 10000, fIn 5 0 16 50 10000, fIn 5 16 16 100 50000]

/-- PRF_SEG_PUSH (R201). -/
def prfSegPushRun (c : Cmd) (s : Dev) : Res :=
  let k := argF c 0 0 8
  let p := s.pch k
  let tr := argF c 0 16 16
  let t := s.track tr
  let sta0 := (arg c 2).toNat
  let sta1 := (arg c 3).toNat
  let start := t.at sta0
  let prev := match p.queue.getLast? with
    | some g => some ((s.track g.track).at g.sta1)
    | none => if p.everHeld then s.pointAt p p.pos else none
  let far := match prev with
    | some q => decide (2500 < (q.1 - start.1) * (q.1 - start.1) + (q.2 - start.2) * (q.2 - start.2))
    | none => false
  if s.nSlots ≤ k then refuse s .notFitted
  else if p.st = .off then refuse s .prfOff
  else if 16 ≤ p.queue.length then refuse s .prfQueueFull
  else if !t.loaded then refuse s .prfNoTrack
  else if t.len < sta0 ∨ t.len < sta1 then refuse s .prfRange
  else if far then refuse s .prfJoint
  else if argB c 0 8 && !p.reverseOk then refuse s .prfNoReverse
  else
    let vCap := argF c 4 0 16
    let acc := argF c 4 16 16
    let dec := argF c 5 0 16
    let jerk := argF c 5 16 16
    let vMax := (s.oslot k).vMax
    let before := (p.queue.getLast?.or p.rest).elim true Seg.rising
    let g : Seg := {
      track := tr, seg := argF c 1 0 16, rev := argB c 0 8, dwell := argF c 1 16 16, sta0 := sta0, sta1 := sta1
      vCap := min vCap vMax, accel := min acc p.accelCap, decel := min dec p.decelCap, jerk := min jerk p.jerkCap
      eff := s.nextBase, rising := if sta0 = sta1 then before else decide (sta0 < sta1) }
    let t := s.pchMod k fun p => { p with
      queue := p.queue ++ [g], everHeld := true, entry := if p.queue.isEmpty then p.pos else p.entry
      behind := p.behind && !p.queue.isEmpty, target := if p.queue.isEmpty then none else p.target }
    done (t.slimOne k)
      [word (b2n (vMax < vCap) + 2 * b2n (p.accelCap < acc) + 4 * b2n (p.decelCap < dec) + 8 * b2n (p.jerkCap < jerk)
        + 2 ^ 4 * (p.queue.length + 1))]

/-- The channel state at the end of a stop from the present one, at the a_f and j in force (R214). -/
def Prf.stopped' : Nat → Prf → Prf
  | 0, p => p
  | n + 1, p => if p.v ≤ p.jerk ∧ p.a.natAbs ≤ p.jerk then p else Prf.stopped' n (p.law 0 0)

/-- Path position at which a stop from the present state ends. (DEDUCED: log entry 56.) -/
def Prf.stopPos (p : Prf) : Nat := if p.v = 0 then p.pos else (p.stopped' 400000).pos

/-- PRF_FLUSH (R208): the queue is empty from the next tick; the channel comes to rest along its path.
(DEDUCED: log entry 56.) -/
def prfFlushRun (c : Cmd) (s : Dev) : Res :=
  let k := argF c 0 0 8
  let p := s.pch k
  if s.nSlots ≤ k then refuse s .notFitted
  else if p.st = .off then refuse s .prfOff
  else
    let q : Prf := match p.queue with
      | [] => p
      | g :: _ =>
        let d := min ((p.pos - p.entry) / mmF) g.len
        let here := if g.rising then g.sta0 + d else g.sta0 - d
        { p with
          queue := [], rest := some { g with sta1 := here }, entry := p.entry + d * mmF, target := none, retarget := none
          stopAt := none, startAt := none, dwelt := 0, reversing := false
          st := if p.v = 0 then .idle else p.st
          stopped := p.stopped && decide (p.v ≠ 0), waitPermit := false, covLimit := false }
    done ((s.pchMod k fun _ => q).slimOne k) []

/-- Fields of PRF_RETARGET. -/
def prfRetargetFields : List FieldRule := [fAny 0 0 8, fWord 1]

/-- PRF_RETARGET (R214): a target at or beyond the stop becomes the head's end; one short of it leaves the target behind. -/
def prfRetargetRun (c : Cmd) (s : Dev) : Res :=
  let k := argF c 0 0 8
  let p := s.pch k
  let sta := (arg c 1).toNat
  if s.nSlots ≤ k then refuse s .notFitted
  else if p.st = .off then refuse s .prfOff
  else match p.queue with
    | [] => refuse s .prfEmpty
    | g :: _ =>
      if (s.track g.track).len < sta then refuse s .prfRange
      else
        let x := p.stopPos
        let stopSta := Leg.staAt ⟨g.track, g.sta0, g.rising, p.entry, none⟩ x
        let ahead := if g.rising then decide (stopSta ≤ sta) else decide (sta ≤ stopSta)
        let farther := if g.rising then decide (g.sta1 < sta) else decide (sta < g.sta1)
        let p := { p with startAt := none, retarget := none }
        let q : Prf :=
          if ahead then
            let p := { p with behind := false, target := none, stopAt := none, reversing := false }
            if farther then { p with queue := [g], retarget := some (sta, s.nextBase) }
            else { p with queue := [{ g with sta1 := sta }] }
          else if p.v = 0 then { p with queue := [g], behind := true, target := some sta, st := .hold, stopAt := none }
          else { p with queue := [g], target := some sta, stopAt := some x }
        done ((s.pchMod k fun _ => q).slimOne k) []

/-- Fields of PRF_DECEL. -/
def prfDecelFields : List FieldRule := [fAny 0 0 8, fIn 0 8 16 50 10000]

/-- PRF_DECEL (R212, R213). -/
def prfDecelRun (c : Cmd) (s : Dev) : Res :=
  let k := argF c 0 0 8
  let d := argF c 0 8 16
  let p := s.pch k
  if s.nSlots ≤ k then refuse s .notFitted
  else if p.st = .off then refuse s .prfOff
  else
    let q := { p.request d (p.waitJ.getD p.jerk) with clamped := p.clamped || decide (p.decelCap < d) }
    done (s.pchMod k fun _ => q)
      [word (min d p.decelCap + 2 ^ 16 * b2n (p.decelCap < d) + 2 ^ 17 * b2n q.waitA.isSome)]

/-- PRF_CLEAR (R222). -/
def prfClearRun (c : Cmd) (s : Dev) : Res :=
  let k := argF c 0 0 8
  if s.nSlots ≤ k then refuse s .notFitted
  else if !(s.pch k).lag then done s []
  else if s.moving k then refuse s .slotMoving
  else done (s.pchMod k fun p => { p with lag := false, lagCause := 0 }) []

/-- State codes of R198. (DEDUCED: log entry 42.) -/
def prfCode : PrfSt → Nat
  | .off => 0 | .idle => 1 | .run => 2 | .dwell => 3 | .stopping => 4 | .hold => 5

/-- A signed value saturated to 16 bits. (DEDUCED: log entry 43.) -/
def sat16 (v : Int) : Nat := low 16 (max (-32768) (min 32767 v))

/-- PRF_STATUS (R225): the read clears DECEL_CLAMPED. (DEDUCED: log entry 43.) -/
def prfStatusRun (c : Cmd) (s : Dev) : Res :=
  let k := argF c 0 0 8
  let p := s.pch k
  if s.nSlots ≤ k then refuse s .notFitted
  else
    let pos := p.acc * 1000 / mmF
    let g := p.queue.head?
    let sta := match legAt p.legs p.pos, p.legs.getLast? with
      | some l, _ => l.staAt p.pos
      | none, some l => l.staAt p.pos
      | none, none => 0
    let flags := b2n (p.waitA.isSome || p.waitJ.isSome) + 2 * b2n p.clamped + 4 * b2n p.behind + 8 * b2n p.covLimit
      + 16 * b2n p.waitPermit + 32 * b2n p.lag + 64 * b2n p.reversing + 128 * b2n p.stopped
    done (s.pchMod k fun p => { p with clamped := false })
      [word (prfCode p.st + 2 ^ 4 * flags + 2 ^ 12 * p.lagCause + 2 ^ 16 * p.queue.length + 2 ^ 21 * p.qband),
       word pos, word (pos / 2 ^ 32 % 2 ^ 16 + 2 ^ 16 * (p.v / 10 ^ 6)),
       word (g.elim 0 fun g => g.track + 2 ^ 16 * g.seg), word sta, word (p.decel + 2 ^ 16 * p.waitA.getD 0),
       word (sat16 p.lagD + 2 ^ 16 * p.lagTau), sat32 p.lagCount]

/-! ### Track library (14 R418) -/

/-- The points of an image. -/
def trkPoints : Nat → List Byte → List TrackPt
  | 0, _ => []
  | n + 1, bs =>
    { e := signed 32 (leAt bs 0 4), n := signed 32 (leAt bs 4 4), heading := leAt bs 8 4, kappa := signed 32 (leAt bs 12 4) }
      :: trkPoints n (bs.drop 16)

/-- Consecutive points lie at most the spacing apart. -/
def trkNear (sp : Nat) : List TrackPt → Bool
  | a :: b :: l =>
    decide ((a.e - b.e) * (a.e - b.e) + (a.n - b.n) * (a.n - b.n) ≤ (sp * sp : Nat)) && trkNear sp (b :: l)
  | _ => true

/-- Some queued segment names the track. -/
def Dev.trkUsed (s : Dev) (t : Nat) : Nat :=
  s.prf.ch.foldl (fun n x => n + (x.2.queue.filter fun g => g.track == t).length) 0

/-- The images that staged commands hold: they occupy library room until their transaction applies, aborts or is rolled back
(R418). (DEDUCED: log entry 58.) -/
def Dev.heldImages (s : Dev) : List Cmd :=
  (s.txn.ports.flatMap (fun x => x.2.staged) ++ s.txn.committed.flatMap fun x => x.staged).filterMap fun x =>
    if x.op = .trkLoad then some x.cmd else none

/-- Check 7 of R418 for an image of n points: the tracks of the library, but for those that `gone` names, and the held images
leave room. (DEDUCED: log entry 58.) -/
def Dev.trkRoom (s : Dev) (gone : Nat → Bool) (n : Nat) : Bool :=
  let kept := s.prf.tracks.filter fun x => !gone x.1
  let held := s.heldImages.map fun c => leAt c.data 4 4
  let pts := (kept.map fun x => x.2.pts.length) ++ held
  decide (pts.length < 1024) && decide (16 * (pts.sum + n) ≤ 16 * 2 ^ 20)

/-- Checks 1 to 5 of R418 on an image, and the track it holds. -/
def trkImage (tr : Nat) (bs : List Byte) (len : Nat) : Except Rc Track :=
  let n := leAt bs 4 4
  let sp := leAt bs 8 2
  if len < 16 then .error .lengthShort
  else if leAt bs 0 1 ≠ 1 ∨ leAt bs 1 1 ≠ 0 ∨ leAt bs 2 2 ≠ tr ∨ n < 2 ∨ 1048576 < n ∨ sp < 100 ∨ 10000 < sp
      ∨ leAt bs 10 2 ≠ 0 then .error .trkFormat
  else if len < 16 + 16 * n then .error .lengthShort
  else
    let body := fitTo (16 * n) (bs.drop 16)
    let pts := trkPoints n body
    if crc32c body ≠ leAt bs 12 4 then .error .trkFormat
    else if !pts.all (fun p => decide (p.heading ≤ 359999999)) || !trkNear sp pts || decide (4294967295 < (n - 1) * sp) then
      .error .trkFormat
    else .ok { spacing := sp, pts := pts }

/-- The image of a TRK_LOAD. -/
def trkOf (c : Cmd) : Except Rc Track := trkImage (argF c 0 0 16) c.data (arg c 3).toNat

/-- The checks of a TRK_LOAD at staging: 1 to 5, and 7 beside everything the library holds (R418).
(DEDUCED: log entry 58.) -/
def Dev.trkStage (s : Dev) (c : Cmd) : Option Rc :=
  match trkOf c with
  | .error e => some e
  | .ok t => if s.trkRoom (fun _ => false) t.pts.length then none else some .trkStoreFull

/-- Fields of TRK_LOAD. -/
def trkLoadFields : List FieldRule := [fAny 0 0 16, fWord 1, fWord 2, fWord 3]

/-- The effect of a TRK_LOAD. -/
def Dev.trkStore (s : Dev) (c : Cmd) (t : Track) : Res :=
  done (s.trackMod (argF c 0 0 16) fun _ => t) [word (16 + 16 * t.pts.length)]

/-- TRK_LOAD (R418). -/
def trkLoadRun (c : Cmd) (s : Dev) : Res :=
  let tr := argF c 0 0 16
  match trkOf c with
  | .error e => refuse s e
  | .ok t =>
    if 0 < s.trkUsed tr then refuse s .trkInUse
    else if !s.trkRoom (fun x => x == tr) t.pts.length then refuse s .trkStoreFull
    else s.trkStore c t

/-- A staged TRK_LOAD at commit and at application: check 6; its room is held from staging on (R418). -/
def trkLoadHeld (c : Cmd) (s : Dev) : Res :=
  match trkOf c with
  | .error e => refuse s e
  | .ok t => if 0 < s.trkUsed (argF c 0 0 16) then refuse s .trkInUse else s.trkStore c t

/-- Fields of TRK_DELETE and TRK_INFO. -/
def trkFields : List FieldRule := [fAny 0 0 16]

/-- TRK_DELETE (R418). -/
def trkDeleteRun (c : Cmd) (s : Dev) : Res :=
  let tr := argF c 0 0 16
  if 0 < s.trkUsed tr then refuse s .trkInUse
  else if !(s.track tr).loaded then refuse s .prfNoTrack
  else done (s.trackMod tr fun _ => {}) []

/-- TRK_INFO (R418). -/
def trkInfoRun (c : Cmd) (s : Dev) : Res :=
  let tr := argF c 0 0 16
  let t := s.track tr
  if !t.loaded then refuse s .prfNoTrack
  else done s [word t.len, word t.pts.length, word t.spacing, word (s.trkUsed tr)]

end Sys2Proof.Machine
end

