-- ==== Sys2Proof/Machine/Timebase.lean ====
section
/-! DEFINITION. The timebase: its registers, steps, validity, PPS, launch gates and captures (02_timebase). -/
namespace Sys2Proof.Machine

/-! ### The count and its flags -/

/-- The nominal TBS_INCR of a REFSEL value (R52). -/
def nominalIncr (refsel : Bool) : Nat := if refsel then 0x2800000000 else 0x6400000000

/-- Full count of the next boundary: the resume boundary while RESYNC is set (R58). (DEDUCED: log entry 19.) -/
def Dev.nextBoundary (s : Dev) : Nat := if s.tbs.resync then s.tbs.resumeAt else s.gen.epochFull + 1

/-- Full count of the first boundary whose cut-off an EPOCH write meets now (01 R39). -/
def Dev.applyEpoch (s : Dev) : Nat := s.nextBoundary + b2n s.tbs.cutoff

/-- TIME_VALID and HOLDOVER are brought up to date; a change is a TIME cause (12 R359). -/
def Dev.refreshTime (s : Dev) : Dev :=
  { s with tbs := { s.tbs with timeValid := s.timeValid, holdover := s.holdover } }.irqIf 3
    (s.timeValid != s.tbs.timeValid || s.holdover != s.tbs.holdover)

/-- A steering write is refused (R53, R56, R61). (DEDUCED: log entry 47.) -/
def Dev.adjRefuse (s : Dev) (reason : Nat) : Dev :=
  { s with tbs := { s.tbs with adjReject := true, adjReason := reason } }.irq 3

/-- The master is the steering agent (R53): firmware with STEER = GNSS, HPF0 with STEER = HOST.
(DEDUCED: log entry 47.) -/
def Dev.isAgent (s : Dev) (m : Master) : Bool :=
  match s.tbs.steer with
  | 1 => m == .sup || m == .clu
  | 2 => m == .hpf0
  | _ => false

/-- Every capture and the GNSS block mark the first item after a step (R71, 03 R105). STEPPED belongs to the current epoch:
before the first boundary there is none (R498). (DEDUCED: log entry 45.) -/
def Dev.markStep (s : Dev) : Dev :=
  let s := { s with
    tbs := { s.tbs with stepped := decide (s.gen.epochFull ≠ 0) }
    gnss := { s.gnss with stepFlag := true } }
  (List.range 16).foldl (fun s n => s.captMod n fun c => { c with stepFlag := true }) s

/-- What a step of more than 999 ns does beside the count: TIME_VALID waits for a TBS_SYNC write (R62), Orchard releases
(06 R192), the profile engine holds (07 R223). -/
def Dev.largeStep (s : Dev) : Dev :=
  ({ s with tbs := { s.tbs with needSync := true } }.orcStep.profileStep).refreshTime

/-- The timebase waits for the resume boundary b (R58): the lowest unused epoch whose start lies at least 2 ms ahead. EPOCH
writes that wait apply there (R60). (DEDUCED: log entry 46.) -/
def Dev.startResync (s : Dev) : Dev :=
  { s with
    tbs := { s.tbs with
      resync := true, resumeAt := max (s.gen.epochFull + 1) (cdiv (s.tbs.time + 2 * msU) epU)
      rechecked := false, frozen := false, cutoff := false }
    shadow := s.shadow ++ s.shadowNext, shadowNext := [] }.irqIf 3 (!s.tbs.resync)

/-! ### Launch gates (R68 to R70) -/

/-- START of a gate on the time count. -/
def Lg.start (g : Lg) : Nat := g.startSec * secU + g.startNs * nsU

/-- The first START + k × PERIOD at or after t. -/
def Lg.from (g : Lg) (t : Nat) : Nat := g.start + cdiv (t - g.start) (g.period * nsU) * (g.period * nsU)

/-- The gate drives its edge: a pulse of WIDTH; a one-shot gate disarms (R68). -/
def Lg.fire (g : Lg) (mono : Nat) : Lg :=
  { g with
    fired := g.fired + 1, pulseEnd := mono + g.width * nsU, armed := g.periodic
    next := if g.periodic then g.next + g.period * nsU else g.next }

/-- Gate n fires at its instant. -/
def Dev.lgFire (s : Dev) (n : Nat) : Dev :=
  let g := s.lgate n
  if g.armed && s.tbs.en then
    let s := s.advanceTo g.next
    s.lgateMod n fun g => g.fire s.tbs.mono
  else s

/-- A forward step passes the instants of armed gates (R70). -/
def Dev.stepGates (s : Dev) : Dev :=
  (List.range 16).foldl (fun s n =>
    let g := s.lgate n
    if g.armed && decide (g.next ≤ s.tbs.time) then
      (s.lgateMod n fun g =>
        let f := g.fire s.tbs.mono
        { f with stepHit := true, next := if g.periodic then g.from (s.tbs.time + 1) else f.next }).irqIf 4 (!g.stepHit)
    else s) s

/-- CFG_ERR of a gate. (DEDUCED: log entry 31.) -/
def Dev.lgErr (s : Dev) (n : Nat) : Dev := (s.lgateMod n fun g => { g with cfgErr := true }).irqIf 4 (!(s.lgate n).cfgErr)

/-- The gate arms, with the late start of R68. -/
def Lg.arm (g : Lg) (now : Nat) : Lg :=
  if now + usU ≤ g.start then { g with armed := true, next := g.start }
  else if g.periodic then { g with armed := true, late := true, next := g.from (now + usU) }
  else { g with late := true }

/-- Arming is refused for this configuration (R69). (DEDUCED: log entry 31.) -/
def Lg.bad (g : Lg) : Bool :=
  decide (g.width < 10) || decide (g.period < 1000) || (g.periodic && decide (g.period < g.width + 10))

/-- A write of LG_CTRL (R68, R69). DISARM acts first, and whatever the other bits; a change of PERIODIC or POLARITY of an
armed gate is refused with CFG_ERR; ARM with a configuration that R69 bars is refused. (DEDUCED: log entry 32.) -/
def Dev.lgCtrl (s : Dev) (n : Nat) (v : Word) : Dev :=
  let g := s.lgate n
  let per := wbit v 2
  let pol := wbit v 3
  let clash := g.armed && (per != g.periodic || pol != g.polarity)
  if wbit v 1 then
    let s := s.lgateMod n fun g => { g with armed := false, pulseEnd := min g.pulseEnd s.tbs.mono }
    if clash then s.lgErr n else s.lgateMod n fun g => { g with periodic := per, polarity := pol }
  else if clash then s.lgErr n
  else if g.armed then s
  else
    let g' := { g with periodic := per, polarity := pol }
    if wbit v 0 then
      if g'.bad then s.lgErr n
      else
        let a := g'.arm s.tbs.time
        (s.lgateMod n fun _ => a).irqIf 4 (a.late && !g.late)
    else s.lgateMod n fun _ => g'

/-- LG_ARM (R68). -/
def execLgArm (m : Master) (n : Fin 16) (v : Word) (s : State) : Host.Outcome State Fault Refusal := act s fun s =>
  (if s.reaches m then s.lgCtrl n.val v else s.turnAway m)

/-- LG_DISARM (R69). -/
def execLgDisarm (m : Master) (n : Fin 16) (v : Word) (s : State) : Host.Outcome State Fault Refusal := act s fun s =>
  (if s.reaches m then s.lgCtrl n.val v else s.turnAway m)

/-! ### Increment, steps and synchronisation -/

/-- TBS_CTRL.EN starts the timebase from the held time, as a large step to that time under R58 (R498); TIME_VALID waits for a
TBS_SYNC write (R62). (DEDUCED: log entry 46.) -/
def Dev.startTimebase (s : Dev) : Dev :=
  if s.tbs.en then s
  else
    let s := { s with tbs := { s.tbs with en := true } }.startResync
    { s with tbs := { s.tbs with needSync := true } }.refreshTime

/-- A write of TBS_CTRL as a whole (R52, R53, R498): a reserved STEER, or a change of REFSEL while EN = 1, ignores it. -/
def Dev.tbsCtrl (s : Dev) (m : Master) (v : Word) : Dev :=
  let st := wbits v 2 2
  let rs := wbit v 1
  if !s.reaches m then s.turnAway m
  else if st = 3 ∨ (s.tbs.en ∧ rs ≠ s.tbs.refsel) then s.cfgReject
  else
    let s := if rs = s.tbs.refsel then s else { s with tbs := { s.tbs with refsel := rs, incr := nominalIncr rs } }
    let s :=
      if s.tbs.en then
        if st = s.tbs.steer ∧ s.tbs.steerNext.isNone then s
        else { s with tbs := { s.tbs with steerNext := some (st, s.applyEpoch) } }
      else { s with
        tbs := { s.tbs with steer := st, steerNext := none }
        ref := { s.ref with steered := s.ref.steered && st == s.tbs.steer } }
    if wbit v 0 then s.startTimebase else s

/-- TBS_EN (R498). -/
def execTbsEn (m : Master) (v : Word) (s : State) : Host.Outcome State Fault Refusal := act s fun s =>
  (s.tbsCtrl m v)

/-- TBS_REFSEL (R52). -/
def execTbsRefsel (m : Master) (v : Word) (s : State) : Host.Outcome State Fault Refusal := act s fun s =>
  (s.tbsCtrl m v)

/-- TBS_STEER (R53). -/
def execTbsSteer (m : Master) (v : Word) (s : State) : Host.Outcome State Fault Refusal := act s fun s =>
  (s.tbsCtrl m v)

/-- TBS_INCR, both words (R52, R53): refused when it lies more than 200 ppm from nominal. -/
def Dev.setIncr (s : Dev) (m : Master) (v : Nat) : Dev :=
  let v := v % 2 ^ 40
  let nom := nominalIncr s.tbs.refsel
  if !s.reaches m then s.turnAway m
  else if !s.isAgent m then s.adjRefuse 4
  else if nom < 5000 * ((v - nom) + (nom - v)) then { s with tbs := { s.tbs with incrReject := true } }
  else { s with tbs := { s.tbs with incr := v } }

/-- TBS_INCR_WRITE (R52): the write of the high word, with the low word written before it. -/
def execTbsIncrWrite (m : Master) (v : BitVec 64) (s : State) : Host.Outcome State Fault Refusal := act s fun s =>
  (s.setIncr m v.toNat)

/-- The XO32K residual drift is learned from the first error that is measured after a NIGHT, ns (09 R280): it goes into the
bin of the present die temperature, which keeps 4 values. (DEDUCED: log entry 50.) -/
def Dev.learnXo (s : Dev) (err : Int) : Dev :=
  match s.rad.nightLen with
  | some d =>
    let bin := ((s.blw.tj + 128) / 8).toNat
    { s with rad := { s.rad with
      nightLen := none
      drift32 := if d = 0 then s.rad.drift32 else tmod [] s.rad.drift32 bin fun l => (err * 10 ^ 9 / (d : Int) :: l).take 4 } }
  | none => s

/-- An accepted step of d ns while the timebase runs: it applies in the next period (R55). (DEDUCED: log entry 45.) -/
def Dev.applyStep (s : Dev) (d : Int) : Dev :=
  let s := s.advance (if s.tbs.on32k then s.tbs.incr32 else s.tbs.incr)
  let s := { s with tbs := { s.tbs with time := ((s.tbs.time : Int) + d * nsU).toNat } }.markStep
  let s := s.stepGates
  if 999 < d.natAbs then s.startResync.largeStep else s

/-- A write of the high word of TBS_ADJ, STEP = d ns (R53, R55, R56, R61, R498). A step below the origin of TAI is refused
as one too far back. (DEDUCED: log entry 48.) -/
def Dev.adjust (s : Dev) (m : Master) (d : Int) : Dev :=
  let big := decide (999 < d.natAbs)
  let t : Int := s.tbs.time + d * nsU
  if !s.reaches m then s.turnAway m
  else if !s.isAgent m then s.adjRefuse 4
  else if !s.tbs.en then
    if t < 0 then s.adjRefuse 3
    else
      let s := { s with tbs := { s.tbs with time := t.toNat } }.markStep
      let s := s.learnXo (-d)
      if big then s.largeStep else s
  else
    let refuse (r : Nat) : Dev := (s.adjRefuse r).log 0x4201 (leBytes 1 r ++ List.replicate 7 0 ++ leBytes 8 (low 64 d))
    let t := t + (if s.tbs.on32k then s.tbs.incr32 else s.tbs.incr)
    if s.goActive && big then refuse 1
    else if s.goActive && s.tbs.stepped then refuse 2
    else if d < 0 ∧ (t < 0 ∨ t + 60 * secU < (s.gen.epochFull + 1) * epU) then s.adjRefuse 3
    else (s.learnXo (-d)).applyStep d

/-- TBS_ADJ_WRITE (R55). -/
def execTbsAdjWrite (m : Master) (v : BitVec 64) (s : State) : Host.Outcome State Fault Refusal := act s fun s =>
  (s.adjust m v.toInt)

/-- A TBS_SYNC write is taken (R62). -/
def Dev.sync (s : Dev) (unc : Nat) : Dev :=
  { s with tbs := { s.tbs with syncSeen := true, needSync := false, unc := unc, syncAt := s.tbs.mono, spent32 := 0 } }.refreshTime

/-- A write of TBS_SYNC (R53, R62). -/
def Dev.syncWrite (s : Dev) (m : Master) (v : Word) : Dev :=
  if !s.reaches m then s.turnAway m
  else if s.isAgent m then s.sync (wbits v 0 24)
  else s.adjRefuse 4

/-- TBS_SYNC_WRITE (R53, R62). -/
def execTbsSyncWrite (m : Master) (v : Word) (s : State) : Host.Outcome State Fault Refusal := act s fun s =>
  (s.syncWrite m v)

/-- HOLDOVER_ENTRY (R62): 1.5 s after the latest TBS_SYNC write. -/
def execHoldoverEntry (s : State) : Host.Outcome State Fault Refusal := act s fun s =>
  (if s.tbs.syncSeen then (s.advanceMono (s.tbs.syncAt + 1500 * msU)).refreshTime else s)

/-- TIME_VALID_LOSS (R62): the first instant at which the error bound exceeds LIMIT_US; with no drift it never does. -/
def execTimeValidLoss (s : State) : Host.Outcome State Fault Refusal := act s fun s =>
  (if s.timeValid && decide (0 < s.drift) then
    (s.advanceMono (s.tbs.mono + (s.tbs.limitUs * 1000 * (10 ^ 9 * nsU) - s.errExact) / s.drift + 1)).refreshTime
  else s)

/-! ### Reads that latch (R24, R54) -/

/-- TBS_TIME of a time. -/
def timeWord (t : Nat) : Nat := t % nsU + 2 ^ 32 * (t % secU / nsU) + 2 ^ 64 * (t / secU % 2 ^ 48)

/-- The words of a 128-bit register that a read returns: one of them, or all four. -/
def words128 (v w : Nat) : List Word :=
  if w = 4 then (List.range 4).map fun i => word (v / 2 ^ (32 * i)) else [word (v / 2 ^ (32 * w))]

/-- TBS_TIME_READ (R54): word 0 and the 128-bit read latch. -/
def Dev.tbsTimeRead (s : Dev) (m : Master) (w : Fin 5) : Dev :=
  let s := if w.val = 0 ∨ w.val = 4 then
      { s with tbs := { s.tbs with timeLatch := tset 0 s.tbs.timeLatch (masterKey m) (timeWord s.tbs.time) } } else s
  (s.readOut (words128 (tget 0 s.tbs.timeLatch (masterKey m)) w.val))

/-- TBS_TIME_READ: the read as a step of its own. -/
def execTbsTimeRead (m : Master) (w : Fin 5) (s : State) : Host.Outcome State Fault Refusal := act s fun s => s.tbsTimeRead m w

/-- TBS_PPSIn (R67). -/
def PpsIn.word (p : PpsIn) : Nat :=
  stamp80 p.time + 2 ^ 80 * (p.time % nsU / 2 ^ 24) + 2 ^ 88 * p.count.toNat + 2 ^ 104 * b2n p.missing

/-- TBS_PPSI_READ (R54). -/
def Dev.tbsPpsiRead (s : Dev) (m : Master) (n : Fin 2) (w : Fin 5) : Dev :=
  let k := 2 * masterKey m + n.val
  let s := if w.val = 0 ∨ w.val = 4 then
      { s with tbs := { s.tbs with ppsLatch := tset 0 s.tbs.ppsLatch k (s.ppsIn n.val).word } } else s
  (s.readOut (words128 (tget 0 s.tbs.ppsLatch k) w.val))

/-- TBS_PPSI_READ: the read as a step of its own. -/
def execTbsPpsiRead (m : Master) (n : Fin 2) (w : Fin 5) (s : State) : Host.Outcome State Fault Refusal := act s fun s => s.tbsPpsiRead m n w

/-- The high word of GEN_EPOCH: SLOT and TICK (01 R24). -/
def Dev.epochHi (s : Dev) : Word := word (s.gen.slot + 2 ^ 8 * s.gen.tick)

/-- GEN_EPOCH_READ (01 R24): word 0 latches the high word for the master's next read of it; 2 reads 64 bits. -/
def Dev.genEpochRead (s : Dev) (m : Master) (w : Fin 3) : Dev :=
  let k := masterKey m
  match w.val with
  | 0 => ({ s with gen := { s.gen with epochLatch := tset none s.gen.epochLatch k (some s.epochHi) } }.readOut [s.epoch])
  | 1 =>
    ({ s with gen := { s.gen with epochLatch := tset none s.gen.epochLatch k none } }.readOut
      [(tget none s.gen.epochLatch k).getD s.epochHi])
  | _ => (s.readOut [s.epoch, s.epochHi])

/-- GEN_EPOCH_READ: the read as a step of its own. -/
def execGenEpochRead (m : Master) (w : Fin 3) (s : State) : Host.Outcome State Fault Refusal := act s fun s => s.genEpochRead m w

/-! ### PPS (R66, R67) -/

/-- The settings of PPS output n in force in TAI second k (R66). -/
def Dev.ppsAt (s : Dev) (n k : Nat) : PpsOut :=
  if tget 0 s.tbs.ppsFrom n ≤ k then tget {} s.tbs.ppsNext n else s.pps n

/-- New settings of PPS output n, from the next second (R66). -/
def Dev.ppsWrite (s : Dev) (n : Nat) (p : PpsOut) : Dev :=
  let k := s.tbs.time / secU
  { s with tbs := { s.tbs with
    ppsOut := tset {} s.tbs.ppsOut n (s.ppsAt n k), ppsNext := tset {} s.tbs.ppsNext n p
    ppsFrom := tset 0 s.tbs.ppsFrom n (k + 1) } }

/-- PPS_OUT_PULSE (R66): the next instant of output n that has not yet fired (R57). With GATE the output stays inactive
while TIME_VALID = 0. (DEDUCED: log entry 19.) -/
def execPpsOutPulse (n : Fin 2) (s : State) : Host.Outcome State Fault Refusal := act s fun s =>
  let k := max (tget 0 s.tbs.ppsDue n.val) (s.tbs.time / secU)
  let k := if s.tbs.time ≤ k * secU + (s.ppsAt n.val k).offset * nsU then k else k + 1
  let p := s.ppsAt n.val k
  if s.tbs.en && p.enable then
    let s := s.advanceTo (k * secU + p.offset * nsU)
    { s with tbs := { s.tbs with
      ppsDue := tset 0 s.tbs.ppsDue n.val (k + 1)
      ppsPulses := if p.gate && !s.timeValid then s.tbs.ppsPulses else tmod 0 s.tbs.ppsPulses n.val (· + 1) } }
  else s

/-- PPS_IN_EDGE (R67): a rising edge dt after now. -/
def execPpsInEdge (n : Fin 2) (dt : Nat) (s : State) : Host.Outcome State Fault Refusal := act s fun s =>
  let s := s.advance dt
  (s.ppsInMod n.val fun p => { p with time := s.tbs.time, count := p.count + 1, missing := false, mono := s.tbs.mono })

/-- PPS_MISSING (R67): 1.1 s after the latest edge. -/
def execPpsMissing (n : Fin 2) (s : State) : Host.Outcome State Fault Refusal := act s fun s =>
  ((s.advanceMono ((s.ppsIn n.val).mono + 1100 * msU)).ppsInMod n.val fun p => { p with missing := true })

/-! ### Captures (R71) -/

/-- A qualified edge on capture n (R71): counted in SEQ and entered when EDGE selects it. -/
def Dev.capture (s : Dev) (n : Nat) (falling : Bool) : Dev :=
  let c := s.capt n
  if s.tbs.en && c.edge.testBit (b2n falling) then
    let r := c.q.push { time := s.tbs.time, falling := falling, stepped := c.stepFlag, seq := c.seq + 1 } false
    let took := decide (c.q.items.length < c.q.depth - 1)
    (s.captMod n fun c => { c with q := r.1, seq := c.seq + 1, stepFlag := c.stepFlag && !took }).irqIf 5 r.2
  else s

/-- An item of a capture queue as CAP_DATA reads it (R71). -/
def capWord : QItem CapItem → Nat
  | .data i _ => stamp80 i.time + 2 ^ 80 * (i.time % nsU / 2 ^ 24) + 2 ^ 88 * b2n i.falling + 2 ^ 90 * b2n i.stepped
      + 2 ^ 112 * i.seq.toNat
  | .gap n => 2 ^ 89 + 2 ^ 96 * n

/-- CAP_DATA_READ (R71): word 0 and the 128-bit read dequeue and latch. -/
def Dev.capDataRead (s : Dev) (m : Master) (n : Fin 16) (w : Fin 5) : Dev :=
  let k := masterKey m
  let s := if w.val = 0 ∨ w.val = 4 then
      let r := (s.capt n.val).q.pop
      s.captMod n.val fun c => { c with q := r.2, latch := tset 0 c.latch k ((r.1.map capWord).getD 0) }
    else s
  (s.readOut (words128 (tget 0 (s.capt n.val).latch k) w.val))

/-- CAP_DATA_READ: the read as a step of its own. -/
def execCapDataRead (m : Master) (n : Fin 16) (w : Fin 5) (s : State) : Host.Outcome State Fault Refusal := act s fun s => s.capDataRead m n w

/-! ### Clocks and firmware timers (R15, R63, R64) -/

/-- REFCLK_LOSS (R63): the timebase moves to XO32K; outside NIGHT it is a safety-island fault (01 R15). -/
def execRefclkLoss (s : State) : Host.Outcome State Fault Refusal := act s fun s =>
  if s.gen.refclkOk then
    let s := { s with gen := { s.gen with refclkOk := false } }.setClock true
    ((if s.blw.st = PwrSt.night then s else s.islandFault).refreshTime)
  else s

/-- REFCLK_RETURN (R63): REFCLK_OK is set again, and outside NIGHT the timebase resumes on REFCLK without a step. -/
def execRefclkReturn (s : State) : Host.Outcome State Fault Refusal := act s fun s =>
  (({ s with gen := { s.gen with refclkOk := true } }.setClock (s.tbs.on32k && s.blw.st == PwrSt.night)).refreshTime)

/-- OSC_CHECK (01 R15): a deviation above 5 % is a safety-island fault. -/
def execOscCheck (devPpm : Nat) (s : State) : Host.Outcome State Fault Refusal := act s fun s =>
  (if 50000 < devPpm then s.islandFault else s)

/-- ISLAND_FAULT (08 R244). -/
def execIslandFault (s : State) : Host.Outcome State Fault Refusal := act s fun s =>
  s.islandFault

/-- FIRMWARE_TIMER (R64): one of CMP27 to CMP31 fires; none acts before EN (R498). -/
def execFirmwareTimer (n : Fin 5) (s : State) : Host.Outcome State Fault Refusal := act s fun s =>
  (if s.tbs.en then { s with tbs := { s.tbs with fwTimers := tinc s.tbs.fwTimers n.val } } else s)

end Sys2Proof.Machine
end

