-- ==== Sys2Proof/Machine/Bugle.lean ====
section
/-! DEFINITION. Bugle's commands and the events of its chains, its pins and its bursts (08_bugle R226 to R251). -/
namespace Sys2Proof.Machine

/-! ### Stops by command (R246, R251) -/

/-- Request layout of BGL_STOP and BGL_RELEASE. -/
def bglStopFields : List FieldRule := fAny 0 0 1 :: fWords 1 6

/-- The slot mask of words 1 to 6. -/
def slotMask (c : Cmd) : BitVec 192 := BitVec.ofNat 192 (leNat (argBytes c 1 6))

/-- The mask names a slot that the part lacks. -/
def Dev.maskUnfit (s : Dev) (m : BitVec 192) : Bool := decide (2 ^ s.nSlots ≤ m.toNat)

/-- BGL_STOP (R234, R251): INDEX of the latest element, and NEW. -/
def bglStopRun (c : Cmd) (s : Dev) : Res :=
  let m := slotMask c
  if s.maskUnfit m then refuse s .notFitted
  else
    let r := s.stopDemand 2 (argB c 0 0) m
    done r.1 [word (r.1.bgl.stopIdx + 2 ^ 20 * b2n r.2)]

/-- A stop's own release rule holds for the slots `m` of it (R246). -/
def Dev.releaseOk (s : Dev) (x : Stop) (m : BitVec 192) : Bool :=
  let named := (List.range s.nSlots).filter fun k => (x.slots &&& m).getLsbD k
  match x.cause with
  | 1 => s.bgl.pinA && s.bgl.pinB && !s.bgl.discrep
  | 3 => named.all fun k => !(s.pch k).lag
  | 4 => named.all fun k => !s.claimAgainst k
  | 5 => decide (10 ≤ s.bgl.hbGood)
  | _ => true

/-- A stop that BGL_RELEASE names. -/
def namedStop (fleet : Bool) (m : BitVec 192) (x : Stop) : Bool := if x.fleet then fleet else x.slots &&& m != 0

/-- BGL_RELEASE (R246, R247, R251): every named stop, or none. A partial release of a slot stop leaves the other slots
stopped. -/
def bglReleaseRun (c : Cmd) (s : Dev) : Res :=
  let fleet := argB c 0 0
  let m := slotMask c
  let named := s.bgl.stops.filter (namedStop fleet m)
  if s.maskUnfit m then refuse s .notFitted
  else if named.isEmpty then refuse s .bglNoStop
  else if named.any fun x => !s.releaseOk x m then refuse s .bglCausePresent
  else if named.any fun x => decide (6 ≤ x.cause) then refuse s .bglResetOnly
  else
    let left := (s.bgl.stops.map fun x : Stop => if x.fleet then x else { x with slots := x.slots &&& ~~~m }).filter
      fun x => if x.fleet then !fleet else x.slots != 0
    let old := s
    let s := { s with bgl := { s.bgl with stops := left, demandAt := if left.isEmpty then none else s.bgl.demandAt } }
    let s := named.foldl (fun s x => s.logStop 0xC802 x.cause x.fleet false (x.slots &&& m)) s
    done ((s.driveStopOut).bglIrq old) []

/-! ### The fleet-enable latch (R237, R247) -/

/-- Generations that the setting of the latch starts to build: the first ones, and those whose pebbles a reset has lost.
(DEDUCED: log entry 36.) -/
def Bgl.buildAt (b : Bgl) (epochFull : Nat) : Bgl :=
  let b := if b.goGen = 0 then { b with goGen := 1, goBase := epochFull + 50, goIdx := 0, goBusy := true }
    else if b.goBuilt then b else { b with goBusy := true }
  if b.stopGen = 0 then { b with stopGen := 1, stopIdx := 0, stopBusy := true }
  else if b.stopBuilt then b else { b with stopBusy := true }

/-- BGL_ENABLE (R247, R251). -/
def bglEnableRun (_c : Cmd) (s : Dev) : Res :=
  if s.stopFleet then refuse s .bglStopInForce
  else if !s.lifecycleOk then refuse s .bglLifecycle
  else done { s with bgl := { s.bgl.buildAt s.gen.epochFull with enable := true } } []

/-- BGL_DISABLE (R251): clears the latch without a stop. -/
def bglDisableRun (_c : Cmd) (s : Dev) : Res := done { s with bgl := { s.bgl with enable := false } } []

/-! ### Anchors (R237) -/

/-- The anchor record of a chain generation (R237): signed with the anchor-signing key of slot 1 (15 R425).
(DEDUCED: log entry 59.) -/
def Dev.anchorRecord (s : Dev) (go : Bool) (gen base : Nat) : List Byte :=
  let body := leBytes 1 1 ++ leBytes 1 ((if go then 1 else 2) + 128 * b2n s.bgl.testRoot) ++ leBytes 2 gen
    ++ leBytes 8 (if go then base else 0) ++ (if go then s.goElem gen 0 else s.stopElem gen 0)
    ++ leBytes 8 s.gen.deviceId.toNat ++ leBytes 4 0
  body ++ beBytes 96 (Config.ecdsaSign (s.kslot 1).key body).toNat

/-- The generation and base of an anchor, when that generation exists: KIND go or stop, current or published next. -/
def Dev.anchorOf (s : Dev) (go next : Bool) : Option (Nat × Nat) :=
  let b := s.bgl
  match go, next with
  | true, false => if b.goBuilt then some (b.goGen, b.goBase) else none
  | true, true => if b.roll then some (b.goGen + 1, b.goBase + goM) else none
  | false, false => if b.stopBuilt then some (b.stopGen, 0) else none
  | false, true => if b.stopNext then some (b.stopGen + 1, 0) else none

/-- Request layout of BGL_ANCHOR_READ. -/
def bglAnchorFields : List FieldRule := [fIn 0 0 2 1 2, fAny 0 2 1, fWord 1, fWord 2, fWord 3]

/-- BGL_ANCHOR_READ (R251): the record of 136 bytes goes to the buffer. -/
def bglAnchorReadRun (c : Cmd) (s : Dev) : Res :=
  let go := argF c 0 0 2 == 1
  match s.anchorOf go (argB c 0 2) with
  | none => refuse s .bglNoChain
  | some (gen, base) => done (s.toBuffer c.path (arg64 c 1) (s.anchorRecord go gen base)) [word gen]

/-- An ANCHOR container is queued for every ACTIVE machine when a next generation is published (09 R274).
(DEDUCED: log entry 59.) -/
def Dev.publishAnchor (s : Dev) (go : Bool) : Dev :=
  match s.anchorOf go true with
  | none => s
  | some (gen, base) =>
    (List.range s.nSlots).foldl (fun s k =>
      if (s.rslot k).st = .active then
        s.rslotMod k fun r => { r with queue := r.queue ++ [{ typ := 0x12, data := s.anchorRecord go gen base }] }
      else s) s

/-- The island holds the pebbles of a go chain. -/
def Dev.holdGo (s : Dev) (g : Nat) : Dev :=
  { s with bgl := { s.bgl with goSeeds := tset [] s.bgl.goSeeds g (s.chainSeed "PQ-GOSEED" g) } }

/-- The island holds the pebbles of a stop chain. -/
def Dev.holdStop (s : Dev) (g : Nat) : Dev :=
  { s with bgl := { s.bgl with stopSeeds := tset [] s.bgl.stopSeeds g (s.chainSeed "PQ-STSEED" g) } }

/-- CHAIN_BUILT (R227, R237): the generator hands the pebbles of a go or stop chain to the island. It builds none without
the chain secret, nor after a failed self-test (15 R434). (DEDUCED: log entry 36.) -/
def execChainBuilt (go : Bool) (s : State) : Host.Outcome State Fault Refusal := act s fun s =>
  let b := s.bgl
  if s.sec.testFail || !(s.kslot 2).full then s
  else (if go then
    if b.goBusy then { s with bgl := { b with goBusy := false, goBuilt := true } }.holdGo b.goGen
    else if b.goNextBusy then
      ({ s with bgl := { b with goNextBusy := false, roll := true } }.holdGo (b.goGen + 1)).publishAnchor true
    else s
  else
    if b.stopBusy then
      { s with bgl := { b with stopBusy := false, stopBuilt := true, reserve := min 16 (stopP - b.stopIdx) } }.holdStop b.stopGen
    else if b.stopNextBusy then
      ({ s with bgl := { b with stopNextBusy := false, stopNext := true } }.holdStop (b.stopGen + 1)).publishAnchor false
    else s)

/-- GO_GEN_BUILD_START (R237): 6,048,000 epochs before the last epoch of the current go generation. -/
def execGoGenBuildStart (s : State) : Host.Outcome State Fault Refusal := act s fun s =>
  let b := s.bgl
  (if b.goBuilt && !b.roll && decide (b.goBase + goM ≤ s.gen.epochFull + 6048000) then
    { s with bgl := { b with goNextBusy := true } } else s)

/-- MARK_FLUSH (R229): the marks go to the settings area. -/
def execMarkFlush (s : State) : Host.Outcome State Fault Refusal := act s fun s =>
  { s with bgl := { s.bgl with flashGo := s.bgl.markGo, flashStop := s.bgl.markStop, unflushed := 0 } }

/-! ### Heartbeat and bursts (R236, R238) -/

/-- HEARTBEAT (R238): the supervisor names the epoch being frozen. -/
def execHeartbeat (epoch : Word) (s : State) : Host.Outcome State Fault Refusal := act s fun s =>
  { s with bgl := { s.bgl with hb := some epoch } }

/-- BURST_FAULT of a port begins or ends (R236). -/
def Dev.burstFault (s : Dev) (p : Nat) (on : Bool) : Dev :=
  (s.bportMod p fun b => { b with fault := on }).log 0xC804
    (leBytes 1 p ++ leBytes 1 (b2n on) ++ [0, 0] ++ leBytes 3 (if on then 0xFFFFFF else 0))

/-- BURST_CONFIRM (R236): a transmit-done for a burst; or, while no stop is in force, for a beacon. -/
def execBurstConfirm (p : Fin 8) (s : State) : Host.Outcome State Fault Refusal := act s fun s =>
  let b := s.bport p.val
  if b.waiting then
    let s := s.bportMod p.val fun b => { b with waiting := false, miss := 0, okRun := min (b.okRun + 1) 100, quiet := 0 }
    (if b.fault ∧ 99 ≤ b.okRun then s.burstFault p.val false else s)
  else if s.bgl.stops.isEmpty then
    let s := s.bportMod p.val fun b => { b with quiet := min (b.quiet + 1) 100 }
    (if b.fault ∧ 99 ≤ b.quiet then s.burstFault p.val false else s)
  else s

/-- Start of the current radio slot (01 R21). -/
def Dev.slotStart (s : Dev) : Nat := s.gen.epochFull * epU + s.gen.slot * slotU

/-- BURST_CONFIRM_TIMEOUT (R236): no confirmation within 1 ms of B. -/
def execBurstConfirmTimeout (p : Fin 8) (s : State) : Host.Outcome State Fault Refusal := act s fun s =>
  let b := s.bport p.val
  if b.waiting then
    let s := s.advanceTo (s.slotStart + msU)
    let s := s.bportMod p.val fun b => { b with waiting := false, miss := min (b.miss + 1) 255, okRun := 0 }
    let s := s.rportMod p.val fun r => { r with missBurst := min (r.missBurst + 1) 0xFFFFFFFF }
    let s := s.log 0x4803 (leBytes 1 p.val ++ leBytes 1 (min (b.miss + 1) 255))
    (if 2 ≤ b.miss ∧ !b.fault then s.burstFault p.val true else s)
  else s

/-! ### ESTOP pins (R242, R243) -/

/-- Channel A or B (0 or 1) reads RUN or STOP. -/
def Bgl.setPin (b : Bgl) (ch : Nat) (run : Bool) : Bgl := if ch = 0 then { b with pinA := run } else { b with pinB := run }

/-- ESTOP_STOP (R242): a channel reads STOP; a fleet stop demand with cause ESTOP. -/
def execEstopStop (ch : Fin 2) (s : State) : Host.Outcome State Fault Refusal := act s fun s =>
  let b := s.bgl.setPin ch.val false
  let b := { b with
    bothStop := b.bothStop || (!b.pinA && !b.pinB)
    cycA := b.cycA || ch.val == 0, cycB := b.cycB || ch.val == 1 }
  ({ s with bgl := b }.fleetStop 1)

/-- ESTOP_RUN (R242, R243): a channel reads RUN. Both at RUN end a DISCREPANCY that has seen both at STOP, and a full
cycle. -/
def execEstopRun (ch : Fin 2) (s : State) : Host.Outcome State Fault Refusal := act s fun s =>
  let b := s.bgl.setPin ch.val true
  let both := b.pinA && b.pinB
  let cycle := both && b.cycA && b.cycB
  let b := { b with
    discrep := b.discrep && !(both && b.bothStop), bothStop := b.bothStop && !both
    cycA := b.cycA && !cycle, cycB := b.cycB && !cycle
    cycleAt := if cycle then s.tbs.mono else b.cycleAt, cycleDue := b.cycleDue && !cycle
    cycleRec := if cycle then none else b.cycleRec }
  ({ s with bgl := b }.bglIrq s)

/-- ESTOP_DISCREPANCY (R242): the channels have disagreed for more than 1 ms. -/
def execEstopDiscrepancy (s : State) : Host.Outcome State Fault Refusal := act s fun s =>
  (if s.bgl.pinA = s.bgl.pinB then s
    else { s with bgl := { s.bgl with discrep := true, bothStop := false } }.bglIrq s)

/-- PIN_CYCLE_DUE (R243): 168 h after the latest full cycle, and each day from then on, one record. -/
def execPinCycleDue (s : State) : Host.Outcome State Fault Refusal := act s fun s =>
  let hour := 3600 * secU
  let s := s.advanceMono (match s.bgl.cycleRec with | some t => t + 24 * hour | none => s.bgl.cycleAt + 168 * hour)
  let s := { s with bgl := { s.bgl with cycleDue := true, cycleRec := some s.tbs.mono } }
  (s.log (fwCode 1 0x08 0x10) (leBytes 4 ((s.tbs.mono - s.bgl.cycleAt) / hour)))

end Sys2Proof.Machine
end

