-- ==== Sys2Proof/Machine/Gen.lean ====
section
/-! DEFINITION. The GEN block's events: rate monitors, memory errors, the ledger; and the registers of the common queues
(01_architecture R12 to R18, R29 to R38). -/
namespace Sys2Proof.Machine

/-- RATE_MONITOR_WINDOW (01 R18): a 1 ms window of domain d ends with a measured ratio. AON and SAFE read 0x1000; a domain
that does not run reads 0 and its window does not count. -/
def execRateMonitorWindow (d : Fin 12) (ratio : BitVec 16) (s : State) : Host.Outcome State Fault Refusal := act s fun s =>
  (s.rateMonMod d.val fun m =>
    if m.pstate = .running then
      let r : BitVec 16 := if d.val < 2 then 0x1000 else ratio
      { m with ratio := r, valid := true, minRatio := if r < m.minRatio then r else m.minRatio }
    else { m with ratio := 0, valid := false })

/-- GEN_RATEMIN_RESTART (01 R18): RESTART sets MINRATIO to 0xFFFF. -/
def execGenRateminRestart (m : Master) (d : Fin 12) (v : Word) (s : State) : Host.Outcome State Fault Refusal := act s fun s =>
  (if !s.reaches m then s.turnAway m else if wbit v 31 then s.rateMonMod d.val fun r => { r with minRatio := 0xFFFF } else s)

/-- SCRUB_PASS (01 R12): single-bit errors are corrected in place and counted. -/
def execScrubPass (region : Fin 10) (errors : Nat) (s : State) : Host.Outcome State Fault Refusal := act s fun s =>
  { s with gen := { s.gen with sbe := tmod 0 s.gen.sbe region.val fun n => min (n + errors) 0xFFFFFFFF } }

/-- MEMORY_UE (01 R12, R13, R30): UE, its region and a record. In field memory, the safety island or the Orchard store it
ends token issue and stops the fleet; elsewhere the owning service restarts from its last checkpoint. -/
def execMemoryUe (region : Fin 10) (offset : Word) (s : State) : Host.Outcome State Fault Refusal := act s fun s =>
  let r := region.val
  let was := s.gen.ue
  let s := { s with gen := { s.gen with ue := true, ueRegion := r, void := true } }.irqIf 0 (!was)
  let s := s.log 0x8002 (leBytes 1 r ++ [0, 0, 0] ++ leBytes 4 offset.toNat)
  (if r = 0 ∨ r = 5 ∨ r = 7 then
    ({ s with orc := { s.orc with ueHit := s.orc.ueHit || r == 7 } }.endTokens).fleetStop 7
  else { s with gen := { s.gen with restarts := tinc s.gen.restarts r } })

/-- TOTAL of ledger pool n (01 R31). -/
def poolTotal : Nat → Nat
  | 0 => 512
  | 1 => 2048
  | 2 => 24576
  | 3 => 32768
  | 4 => 1024
  | 5 => 1024
  | 6 => 512
  | 7 => 262144
  | 8 => 16777216
  | _ => 1048576

/-- The sums a sweep finds: the counting pools as measured, and the present reveal indices (01 R31). -/
def Dev.ledgerSums (s : Dev) (found : Vector Nat 8) : List Nat := found.toList ++ [s.bgl.goIdx, s.bgl.stopIdx]

/-- The first pool that fails (01 R31): a counting pool that is not whole, or a reveal index that went back within its
generation. -/
def Dev.ledgerBad (s : Dev) (found : Vector Nat 8) : Option Nat :=
  let sums := s.ledgerSums found
  (List.range 10).find? fun n =>
    if n < 8 then sums.getD n 0 != poolTotal n
    else decide (sums.getD n 0 < s.gen.sums.getD n 0)
      && (if n = 8 then s.gen.sumGens.1 == s.bgl.goGen else s.gen.sumGens.2 == s.bgl.stopGen)

/-- LEDGER_CHECK (01 R31, R32): a sweep over all pools. The first failure sets FAULT, ends token issue and stops the fleet.
(DEDUCED: log entry 85.) -/
def execLedgerCheck (found : Vector Nat 8) (s : State) : Host.Outcome State Fault Refusal := act s fun s =>
  let bad := s.ledgerBad found
  let s := { s with gen := { s.gen with sums := s.ledgerSums found, sumGens := (s.bgl.goGen, s.bgl.stopGen) } }
  (match bad with
  | none => { s with gen := { s.gen with sweeps := s.gen.sweeps + 1 } }
  | some p =>
    if s.gen.ledgerFault then s
    else
      let s := { s with gen := { s.gen with ledgerFault := true, ledgerPool := p } }.irq 0
      ((s.log 0xC003 (leBytes 1 p ++ [0, 0, 0] ++ leBytes 4 (s.gen.sums.getD p 0) ++ leBytes 4 (poolTotal p))).endTokens).fleetStop 6)

/-! ### Registers of the common queues (R33 to R38) -/

/-- Changes the queue of an instance: f for a queue the device holds, g (with the depth D) for a ring in host memory. -/
def Dev.onQueue (s : Dev) (q : QId) (f : {α : Type} → Queue α → Queue α) (g : Nat → RingQ → RingQ) : Dev :=
  match q with
  | .cap n => s.captMod n.val fun c => { c with q := f c.q }
  | .rxq p => s.rportMod p.val fun r => { r with rxq := f r.rxq }
  | .txts p => s.rportMod p.val fun r => { r with txts := f r.txts }
  | .trc => { s with sch := { s.sch with trc := f s.sch.trc } }
  | .nq r => s.nqMod r.val fun n => { n with q := g (2 ^ n.log2) n.q }
  | .cr r => s.ringMod r.val fun n => { n with q := g (2 ^ n.cqLog) n.q }

/-- A write of this master reaches the queue's registers: those of the network rings lie in PF1 BAR0. -/
def Dev.queueReach (s : Dev) (m : Master) (q : QId) : Bool :=
  match q with
  | .nq _ => m == .hpf1
  | _ => s.reaches m

/-- QWM_WRITE (R38). -/
def execQwmWrite (m : Master) (q : QId) (v : Word) (s : State) : Host.Outcome State Fault Refusal := act s fun s =>
  let hi := wbits v 0 16
  let lo := wbits v 16 16
  (if s.queueReach m q then s.onQueue q (fun q => q.setWm hi lo) fun d r => r.setWm d hi lo else s.turnAway m)

/-- QCTL_DROP_PACKET (R36); on a ring in host memory it has no effect (12 R362, 13 R404). -/
def execQctlDropPacket (m : Master) (q : QId) (s : State) : Host.Outcome State Fault Refusal := act s fun s =>
  (if s.queueReach m q then s.onQueue q (fun q => q.dropPacket) fun _ r => r else s.turnAway m)

/-- QCTL_CLR_COUNT (R37). -/
def execQctlClrCount (m : Master) (q : QId) (s : State) : Host.Outcome State Fault Refusal := act s fun s =>
  (if s.queueReach m q then s.onQueue q (fun q => q.clrCount) fun _ r => { r with crossings := 0, drops := 0 }
    else s.turnAway m)

end Sys2Proof.Machine
end

