-- ==== Sys2Proof/Machine/Gnss.lean ====
section
/-! DEFINITION. Sample lanes, correlator channels, acquisition, the keep-up governor and the measurement block
(03_gnss_tracking). -/
namespace Sys2Proof.Machine

/-! ### Pending reads (R108) -/

/-- The command of a pending read. -/
def readOp : ReadKind → Op
  | .meas => .gnsMeasRead
  | .corr _ => .refCorrRead
  | .fix => .fixRead
  | .can _ => .canRead
  | .isb _ => .isbRead
  | .adc => .adcRead

/-- A final completion that firmware delivers (13 R395). -/
def Dev.owe (s : Dev) (path : Path) (tag : BitVec 8) (op : Op) (code : Rc) (ws : List Word) : Dev :=
  { s with asyncQ := s.asyncQ ++ [{ path := path, tag := tag, op := op, code := code, words := ws }] }

/-- A read is posted (R108): a path holds at most 16. (DEDUCED: log entry 83.) -/
def pendRead (kind : ReadKind) (c : Cmd) (s : Dev) : Res :=
  if 16 ≤ (s.reads.filter fun r => r.path == c.path).length then refuse s .readQueueFull
  else later' { s with reads := s.reads ++
    [{ kind := kind, path := c.path, tag := c.tag, addr := arg64 c 1, len := (arg c 3).toNat, at_ := s.tbs.mono }] }

/-- The response of a read: bytes written, TRUNC, epoch of the data, and 0 (14 R409). -/
def readWords (n : Nat) (trunc : Bool) (epoch : Word) : List Word := [word n, word (b2n trunc), epoch, 0]

/-- Completes every pending read of a kind with the bytes that `fit` gives for its length, and whether they were cut. -/
def Dev.serveReads (s : Dev) (kind : ReadKind) (epoch : Word) (fit : Nat → List Byte × Bool) : Dev :=
  let s' := { s with reads := s.reads.filter fun r => r.kind != kind }
  (s.reads.filter fun r => r.kind == kind).foldl (fun s r =>
    let d := fit r.len
    (s.toBuffer r.path r.addr d.1).owe r.path r.tag (readOp kind) .success (readWords d.1.length d.2 epoch)) s'

/-- READ_TIMEOUT (R108): the oldest pending read of a kind completes with NO_MEAS 1 s after its submission. -/
def execReadTimeout (k : ReadKind) (s : State) : Host.Outcome State Fault Refusal := act s fun s =>
  match s.reads.find? fun r => r.kind == k with
  | none => s
  | some r =>
    let s := s.advanceMono (r.at_ + secU)
    ({ s with reads := s.reads.erase r }.owe r.path r.tag (readOp k) .noMeas [])

/-! ### Signals and lanes (R77, R78, R83, R84) -/

/-- A signal: GNSS code, band group, centre and main lobe in Hz, cost. -/
structure Signal where
  gnss : Nat
  band : Nat
  centre : Nat
  lobe : Nat
  cost : Nat := 1

/-- The signals of R83; the centre of a GLONASS signal is that of FCN = 0. -/
def signal : Nat → Signal
  | 0 => ⟨0, 0, 1575420000, 2046000, 1⟩
  | 1 => ⟨0, 0, 1575420000, 4092000, 1⟩
  | 2 => ⟨0, 2, 1227600000, 2046000, 1⟩
  | 3 => ⟨0, 1, 1176450000, 20460000, 1⟩
  | 4 => ⟨1, 0, 1602000000, 1022000, 1⟩
  | 5 => ⟨1, 2, 1246000000, 1022000, 1⟩
  | 6 => ⟨2, 0, 1575420000, 4092000, 1⟩
  | 7 => ⟨2, 1, 1176450000, 20460000, 1⟩
  | 8 => ⟨2, 1, 1207140000, 20460000, 1⟩
  | 9 => ⟨2, 1, 1191795000, 51150000, 2⟩
  | 10 => ⟨2, 3, 1278750000, 10230000, 1⟩
  | 11 => ⟨3, 0, 1561098000, 4092000, 1⟩
  | 12 => ⟨3, 0, 1575420000, 4092000, 1⟩
  | 13 => ⟨3, 1, 1176450000, 20460000, 1⟩
  | 14 => ⟨3, 1, 1207140000, 4092000, 1⟩
  | 15 => ⟨3, 3, 1268520000, 20460000, 1⟩
  | 16 => ⟨4, 0, 1575420000, 2046000, 1⟩
  | 17 => ⟨4, 0, 1575420000, 4092000, 1⟩
  | 18 => ⟨4, 2, 1227600000, 2046000, 1⟩
  | 19 => ⟨4, 1, 1176450000, 20460000, 1⟩
  | 20 => ⟨4, 3, 1278750000, 10230000, 1⟩
  | _ => ⟨5, 1, 1176450000, 2046000, 1⟩

/-- Largest satellite number of a constellation (R83). -/
def satMax : Nat → Nat
  | 0 => 32
  | 1 => 24
  | 2 => 36
  | 3 => 63
  | 4 => 10
  | _ => 14

/-- Centre of a signal for an FCN_IDX, Hz (R83). -/
def sigCentre (sig idx : Nat) : Int :=
  let fcn : Int := (idx : Int) - 7
  (signal sig).centre + (if sig = 4 then 562500 * fcn else if sig = 5 then 437500 * fcn else 0)

/-- Half the usable range of a lane, in units of 1/20 Hz (R78). -/
def Lane.half20 (l : Lane) : Int :=
  if l.complex then 8 * l.rate else 9 * min (2 * l.ifHz) ((l.rate : Int) - 2 * l.ifHz)

/-- A signal may be placed on a lane (R84). -/
def Lane.takes (l : Lane) (sig idx : Nat) : Bool :=
  let g := signal sig
  let d : Int := sigCentre sig idx - l.rf
  l.configured && g.band == l.group && decide (20 * d + 10 * g.lobe ≤ l.half20) && decide (10 * g.lobe - 20 * d ≤ l.half20)

/-- The monitor band of a lane (R98). -/
def Lane.band (l : Lane) : Nat × Nat := l.monBand.getD (if l.bits4 then (512, 1280) else (51, 115))

/-- REFCLK frequency, Hz (R77). -/
def Dev.refHz (s : Dev) : Nat := if s.tbs.refsel then 25000000 else 10000000

/-- Request layout of GNS_LANE_CFG. -/
def gnsLaneFields : List FieldRule := fAny 0 0 11 :: fWords 1 4

/-- GNS_LANE_CFG (R77): LANE_FMT, then NOT_HALTED where it would change an enabled lane (01 R39). -/
def gnsLaneCfgRun (c : Cmd) (s : Dev) : Res :=
  let k := argF c 0 0 3
  let l := s.lane k
  let rate := (arg c 1).toNat
  let ifHz := argI c 3
  let num := argF c 4 0 16
  let den := argF c 4 16 16
  let cx := argB c 0 6
  let coh := argB c 0 9
  let n : Lane := { l with
    configured := true, antB := argB c 0 3, group := argF c 0 4 2, complex := cx, bits4 := argB c 0 7, twos := argB c 0 8
    coherent := coh, invert := argB c 0 10, rate := rate, rf := (arg c 2).toNat, ifHz := ifHz, num := num, den := den }
  if rate < 4000000 ∨ 125000000 < rate ∨ (cx ∧ ifHz ≠ 0) ∨ (!cx ∧ (ifHz ≤ 0 ∨ (rate : Int) ≤ 2 * ifHz))
      ∨ (coh ∧ (num = 0 ∨ den = 0 ∨ rate * den ≠ s.refHz * num)) then refuse s .laneFmt
  else if l.en ∧ n ≠ l then refuse s .notHalted
  else done (s.laneMod k fun _ => n) []

/-- Request layout of GNS_LANE_EN. -/
def gnsLaneEnFields : List FieldRule := [fAny 0 0 4]

/-- GNS_LANE_EN (R89): from the next tick. -/
def gnsLaneEnRun (c : Cmd) (s : Dev) : Res :=
  let k := argF c 0 0 3
  if (s.lane k).configured then done (s.laneMod k fun l => { l with enNext := some (argB c 0 3) }) []
  else refuse s .laneFmt

/-- Request layout of GNS_MON_CFG. -/
def gnsMonFields : List FieldRule := [fAny 0 0 4, fIn 0 4 8 6 40, fWord 1]

/-- GNS_MON_CFG (R98 to R100). -/
def gnsMonCfgRun (c : Cmd) (s : Dev) : Res :=
  let k := argF c 0 0 3
  let lo := argF c 1 0 16
  let hi := argF c 1 16 16
  if hi ≤ lo ∨ (argB c 0 3 ∧ !(s.lane k).bits4) then refuse s .laneFmt
  else done (s.laneMod k fun l => { l with blank := argB c 0 3, nbDb := argF c 0 4 8, monBand := some (lo, hi) }) []

/-- Request layout of GNS_MEAS_CFG. -/
def gnsMeasFields : List FieldRule := [fIn 0 0 3 0 3]

/-- GNS_MEAS_CFG (R102). -/
def gnsMeasCfgRun (c : Cmd) (s : Dev) : Res := done { s with gnss := { s.gnss with rate := argF c 0 0 3 } } []

/-- Request layout of GNS_PLAN. -/
def gnsPlanFields : List FieldRule := [fAny 0 0 6, fIn 0 6 7 0 30, fAny 0 13 6, fAny 1 0 22]

/-- GNS_PLAN (R84, R86): every planned signal must fit the lane, a GLONASS one at each FCN. -/
def gnsPlanRun (c : Cmd) (s : Dev) : Res :=
  let k := argF c 0 0 3
  let mask := argF c 1 0 22
  let l := s.lane k
  let fits (sig : Nat) : Bool := if sig = 4 ∨ sig = 5 then l.takes sig 0 && l.takes sig 13 else l.takes sig 7
  if (List.range 22).all fun sig => !mask.testBit sig || fits sig then
    done (s.laneMod k fun l => { l with
      planPrio := some (argF c 0 3 3), planElev := argF c 0 6 7
      planConst := BitVec.ofNat 6 (argF c 0 13 6), planSigs := BitVec.ofNat 22 mask }) []
  else refuse s .sigOutOfBand

/-! ### Acquisition (R90, R91) -/

/-- A source for handover (R90): a TRACK channel of the satellite in band group 0 on the same antenna. -/
def Dev.handoverSrc (s : Dev) (k : Nat) : Bool :=
  let ch := s.chan k
  s.gnss.chans.any fun x =>
    x.2.st == .track && x.1 != k && (signal x.2.sig).gnss == (signal ch.sig).gnss && x.2.sat == ch.sat
      && (signal x.2.sig).band == 0 && (s.lane x.2.lane).antB == (s.lane ch.lane).antB

/-- A request enters the engine's queue while it has room (R90). -/
def Dev.acqPush (s : Dev) (q : AcqReq) : Dev :=
  if s.gnss.acqQ.length < 64 then { s with gnss := { s.gnss with acqQ := s.gnss.acqQ ++ [q] } } else s

/-- Firmware requests a search for a channel (R91): warm when almanac data exist, and cold otherwise. -/
def Dev.acqAuto (s : Dev) (k : Nat) : Dev :=
  let ch := s.chan k
  let a := Config.almanac (signal ch.sig).gnss ch.sat
  s.acqPush { ch := k, mode := b2n a.isSome, dopHz := a.getD 0, halfHz := 1000 }

/-- A request in warm mode about the last Doppler of the channel. (DEDUCED: log entry 80.) -/
def Dev.acqWarm (s : Dev) (k : Nat) : Dev :=
  s.acqPush { ch := k, mode := 1, dopHz := (s.chan k).dop / 1000, halfHz := 1000 }

/-- A request in handover mode; without a source it falls back to warm mode with the almanac Doppler ± 1 kHz (R90).
(DEDUCED: log entry 80.) -/
def Dev.acqHandover (s : Dev) (k : Nat) : Dev :=
  let ch := s.chan k
  if s.handoverSrc k then s.acqPush { ch := k, mode := 2, dopHz := 0, halfHz := 0 }
  else s.acqPush { ch := k, mode := 1, dopHz := (Config.almanac (signal ch.sig).gnss ch.sat).getD 0, halfHz := 1000 }

/-- Request layout of GNS_ACQ; HALF_HZ belongs to warm mode. -/
def gnsAcqFields : List FieldRule := [fAny 0 0 11, fIn 0 11 2 0 2, fWord 1, fAny 2 0 16]

/-- GNS_ACQ (R90, R111). (DEDUCED: log entry 80.) -/
def gnsAcqRun (c : Cmd) (s : Dev) : Res :=
  let k := argF c 0 0 11
  let mode := argF c 0 11 2
  let half := argF c 2 0 16
  let ch := s.chan k
  if s.nChans ≤ k then refuse s .notFitted
  else if mode = 1 ∧ (half = 0 ∨ 2000 < half) then refuse s .reservedValue
  else if ch.st = .free then refuse s .chanUnalloc
  else if !(s.lane ch.lane).en then refuse s .laneOff
  else if 64 ≤ s.gnss.acqQ.length then refuse s .resourceBusy
  else
    let s := (s.chanMod k fun ch => { ch with st := .acq })
    let s := { s with gnss := { s.gnss with shed := s.gnss.shed.filter (· ≠ k) } }
    done (if mode = 2 then s.acqHandover k else s.acqPush { ch := k, mode := mode, dopHz := argI c 1, halfHz := half }) []

/-- ACQ_COMPLETE (R90, R91): the search at the head of the queue ends; a detection brings the channel to TRACK. -/
def execAcqComplete (found : Bool) (cn0 : Nat) (dop : Int) (s : State) : Host.Outcome State Fault Refusal := act s fun s =>
  match s.gnss.acqQ with
  | [] => s
  | q :: qs =>
    let s := { s with gnss := { s.gnss with acqQ := qs } }
    (s.chanMod q.ch fun ch =>
      let ch := if q.mode = 2 then ch else { ch with searches := min (ch.searches + 1) 0xFFFFFFFF }
      if ch.st = .acq ∧ found then
        { ch with st := .track, cn0 := cn0, dop := dop, lockAt := s.tbs.mono, coastNs := 0, slip := true }
      else ch)

/-- ACQ_RETRY (R91): a channel that found no signal searches again. -/
def execAcqRetry (ch : Fin 1536) (s : State) : Host.Outcome State Fault Refusal := act s fun s =>
  (if (s.chan ch.val).st = .acq ∧ (s.gnss.acqQ.all fun q => q.ch != ch.val) then s.acqAuto ch.val else s)

/-! ### Channels (R82, R85 to R89, R109) -/

/-- What a channel is allocated to once its pending change has applied. -/
def Chan.ident (ch : Chan) : Option (Nat × Nat × Nat × Nat) :=
  match ch.next with
  | some r => some (r.lane, r.sig, r.sat, r.fcnIdx)
  | none => if ch.st = .free ∨ ch.freeing then none else some (ch.lane, ch.sig, ch.sat, ch.fcnIdx)

/-- Channel k is FREE and not promised. -/
def Dev.chanFree (s : Dev) (k : Nat) : Bool := (s.chan k).st == .free && (s.chan k).next.isNone

/-- The automatic channel that an allocation of a priority displaces (R87). -/
def Dev.victim (s : Dev) (prio : Nat) : Option Nat :=
  let l := s.gnss.chans.filter fun x =>
    x.2.st != .free && !x.2.pinned && x.2.next.isNone && !x.2.freeing && decide (x.2.prio < prio)
  ((sortBy (fun a b => decide (a.2.prio < b.2.prio) || (a.2.prio == b.2.prio && decide (b.1 ≤ a.1))) l).head?).map Prod.fst

/-- The channel that a new allocation takes (R87). -/
def Dev.chanFor (s : Dev) (prio : Nat) : Option Nat :=
  match (List.range s.nChans).find? s.chanFree with
  | some k => some k
  | none => s.victim prio

/-- Request layout of GNS_CHAN_ALLOC. -/
def gnsAllocFields : List FieldRule :=
  [fAny 0 0 3, fIn 0 3 5 0 21, fIn 0 8 6 1 63, fAny 0 14 3, fIn 0 17 4 0 13]

/-- GNS_CHAN_ALLOC (R84, R87, R88): a pinned channel, from the next tick. -/
def gnsChanAllocRun (c : Cmd) (s : Dev) : Res :=
  let r : ChanReq := {
    lane := argF c 0 0 3, sig := argF c 0 3 5, sat := argF c 0 8 6, prio := argF c 0 14 3, fcnIdx := argF c 0 17 4
    pinned := true }
  let g := (signal r.sig).gnss
  if satMax g < r.sat ∨ (g ≠ 1 ∧ r.fcnIdx ≠ 0) then refuse s .reservedValue
  else if !(s.lane r.lane).takes r.sig r.fcnIdx then refuse s .sigOutOfBand
  else match s.chanFor r.prio with
    | none => refuse s .noChannel
    | some k =>
      if s.gnss.chans.any fun x => x.2.ident == some (r.lane, r.sig, r.sat, r.fcnIdx) then refuse s .chanDup
      else done (s.chanMod k fun ch => { ch with next := some r }) [word k]

/-- Request layout of GNS_CHAN_FREE and GNS_CHAN_STATUS. -/
def gnsChanFields : List FieldRule := [fAny 0 0 11]

/-- GNS_CHAN_FREE (R88, R89): from the next tick. -/
def gnsChanFreeRun (c : Cmd) (s : Dev) : Res :=
  let k := argF c 0 0 11
  if s.nChans ≤ k then refuse s .notFitted
  else if (s.chan k).ident.isNone then refuse s .chanUnalloc
  else done (s.chanMod k fun ch => { ch with next := none, freeing := true }) []

/-- The channel leaves the engines' lists. -/
def Dev.chanDrop (s : Dev) (k : Nat) : Dev :=
  { s with gnss := { s.gnss with
    acqQ := s.gnss.acqQ.filter fun q => q.ch ≠ k, shed := s.gnss.shed.filter (· ≠ k) } }

/-- Channel k starts on an allocation (R86): ACQ on an enabled lane, IDLE otherwise. -/
def Dev.chanStart (s : Dev) (k : Nat) (r : ChanReq) : Dev :=
  let on := (s.lane r.lane).en
  let s := (s.chanDrop k).chanMod k fun _ => {
    st := if on then .acq else .idle, pinned := r.pinned, prio := r.prio, lane := r.lane, sig := r.sig, sat := r.sat
    fcnIdx := r.fcnIdx }
  if on then s.acqAuto k else s

/-- Pending allocations and freeings apply (R89). -/
def Dev.chanTick (s : Dev) : Dev :=
  s.gnss.chans.foldl (fun s x =>
    match x.2.next with
    | some r => s.chanStart x.1 r
    | none => if x.2.freeing then (s.chanDrop x.1).chanMod x.1 fun _ => {} else s) s

/-- Pending enables and disables of lane k apply (R86, R89). -/
def Dev.laneTick (s : Dev) (k : Nat) : Dev :=
  match (s.lane k).enNext with
  | none => s
  | some b =>
    let s := s.laneMod k fun l => { l with
      en := b, enNext := none
      fifo := if b then l.fifo else (Queue.settle { l.fifo with items := [], gapOpen := false } l.fifo.items.length).1 }
    s.gnss.chans.foldl (fun s x =>
      if x.2.lane = k ∧ x.2.st ≠ .free then
        if b then (if x.2.st = .idle then (s.chanMod x.1 fun ch => { ch with st := .acq }).acqAuto x.1 else s)
        else (s.chanDrop x.1).chanMod x.1 fun ch => { ch with st := .idle }
      else s) s

/-- Automatic allocation for one lane (R86): a channel for each planned signal of each satellite in view of the mask, once
the antenna position is surveyed; automatic channels no longer planned are freed. -/
def Dev.planLane (s : Dev) (k : Nat) : Dev :=
  let l := s.lane k
  if l.planSigs = 0 ∧ (s.gnss.chans.all fun x => x.2.pinned || x.2.lane != k) then s
  else
    let wants (sig sat : Nat) : Bool :=
      l.planSigs.getLsbD sig && l.planConst.getLsbD (signal sig).gnss && s.ref.arpSt == .held
        && Config.inView (signal sig).gnss sat l.planElev s.gen.epochFull
    let s := s.gnss.chans.foldl (fun s x =>
      if !x.2.pinned && x.2.lane == k && x.2.st != .free && x.2.next.isNone && !wants x.2.sig x.2.sat then
        (s.chanDrop x.1).chanMod x.1 fun _ => {}
      else s) s
    (List.range 22).foldl (fun s sig =>
      (List.range (satMax (signal sig).gnss)).foldl (fun s n =>
        let sat := n + 1
        let idx := if (signal sig).gnss = 1 then Config.gloIdx sat else 0
        if wants sig sat && !(s.gnss.chans.any fun x => x.2.ident == some (k, sig, sat, idx)) then
          match (List.range s.nChans).find? s.chanFree with
          | some c => s.chanStart c {
              lane := k, sig := sig, sat := sat, fcnIdx := idx, prio := l.planPrio.getD (if l.antB then 4 else 6)
              pinned := false }
          | none => s
        else s) s) s

/-- CORRELATOR_DUMP (R85): a set of correlation sums goes to the tracking firmware. -/
def execCorrelatorDump (ch : Fin 1536) (s : State) : Host.Outcome State Fault Refusal := act s fun s =>
  let st := (s.chan ch.val).st
  (if st = .track ∨ st = .coast then s.chanMod ch.val fun c => { c with dumps := min (c.dumps + 1) 0xFFFFFFFF } else s)

/-- A channel meets a gap (R82): it coasts over it, its record carries the flags, and its lock time starts again. -/
def Chan.coast (ch : Chan) (ns mono : Nat) (gap : Bool) : Chan :=
  { ch with coastNs := ch.coastNs + ns, slip := true, gap := ch.gap || gap, lockAt := mono }

/-- A channel whose coasting exceeds 1 s in total goes to ACQ in warm mode (R82). -/
def Dev.coastOver (s : Dev) (k : Nat) : Dev :=
  let ch := s.chan k
  if (ch.st = .coast ∨ ch.st = .track) ∧ 10 ^ 9 < ch.coastNs then
    (s.chanMod k fun ch => { ch with st := .acq, coastNs := 0 }).acqWarm k
  else s

/-- COAST_LIMIT (R82): a coasting channel reaches 1 s in total. -/
def execCoastLimit (ch : Fin 1536) (s : State) : Host.Outcome State Fault Refusal := act s fun s =>
  let k := ch.val
  let c := s.chan k
  if c.st = .coast ∧ (s.lane c.lane).clkLost then
    let s := s.advanceMono (c.coastAt + (10 ^ 9 + 1 - c.coastNs) * nsU)
    ((s.chanMod k fun ch => { ch with st := .acq, coastNs := 0 }).acqWarm k)
  else (s.coastOver k)

/-- LANE_CLOCK_LOST (R109). -/
def execLaneClockLost (lane : Fin 8) (s : State) : Host.Outcome State Fault Refusal := act s fun s =>
  let k := lane.val
  if (s.lane k).en && !(s.lane k).clkLost then
    let s := (s.laneMod k fun l => { l with clkLost := true }).log (fwCode 1 0x03 0x11) (leBytes 1 k)
    (s.gnss.chans.foldl (fun s x =>
      if x.2.lane = k ∧ (x.2.st = .acq ∨ x.2.st = .track ∨ x.2.st = .coast) then
        s.chanMod x.1 fun ch => { ch with
          st := .coast, resume := if ch.st = .coast then ch.resume else ch.st, coastAt := s.tbs.mono, slip := true
          lockAt := s.tbs.mono }
      else s) s)
  else s

/-- LANE_CLOCK_RETURN (R109): the missing time counts as coasting. -/
def execLaneClockReturn (lane : Fin 8) (s : State) : Host.Outcome State Fault Refusal := act s fun s =>
  let k := lane.val
  if (s.lane k).clkLost then
    let s := (s.laneMod k fun l => { l with clkLost := false }).log (fwCode 0 0x03 0x12) (leBytes 1 k)
    (s.gnss.chans.foldl (fun s x =>
      if x.2.lane = k ∧ x.2.st = .coast then
        (s.chanMod x.1 fun ch => { (ch.coast ((s.tbs.mono - ch.coastAt) / nsU) s.tbs.mono false) with st := ch.resume }).coastOver x.1
      else s) s)
  else s

/-! ### Sample FIFOs (R79 to R82, R95) -/

/-- Every FIFO of an enabled lane stands at LO or below. -/
def Dev.fifosLow (s : Dev) : Bool :=
  (List.range 8).all fun k => !(s.lane k).en || decide ((s.lane k).fifo.items.length ≤ (s.lane k).fifo.lo)

/-- The voltage of a domain, as its rate monitor reports it (01 R18). -/
def Dev.setVdom (s : Dev) (d mv : Nat) : Dev :=
  s.rateMonMod d fun m => if m.vdom = mv then m else { m with vdom := mv, valid := false }

/-- SAMPLE_BLOCK (R81, R82, R95): a block enters its lane's FIFO, or is dropped, and then the lane's channels coast over it.
A HI crossing raises the domain to 0.88 V. (DEDUCED: log entry 79.) -/
def execSampleBlock (lane : Fin 8) (s : State) : Host.Outcome State Fault Refusal := act s fun s =>
  let k := lane.val
  let l := s.lane k
  if !l.en || l.clkLost then s
  else
    let took := decide (l.fifo.items.length < l.fifo.depth - 1)
    let r := l.fifo.push () true
    let s := s.laneMod k fun l => { l with fifo := r.1, gapNow := l.gapNow || !took }
    let s := s.gnss.chans.foldl (fun s x =>
      if x.2.lane = k then
        if took then (if x.2.st = .coast then s.chanMod x.1 fun ch => { ch with st := ch.resume } else s)
        else if x.2.st = .track ∨ x.2.st = .coast then
          (s.chanMod x.1 fun ch => { (ch.coast (64 * 10 ^ 9 / max 1 l.rate) s.tbs.mono true) with
            st := .coast, resume := if ch.st = .coast then ch.resume else .track, coastAt := s.tbs.mono }).coastOver x.1
        else s
      else s) s
    let s := if s.fifosLow then s else { s with gnss := { s.gnss with loSince := s.tbs.mono } }
    (if r.2 then { s with gnss := { s.gnss with surge := true, vGnss := 880 } }.setVdom 8 880 else s)

/-- COHERENT_LATCH (R79): the count must have grown by NUM ± 1. -/
def execCoherentLatch (lane : Fin 8) (growth : Nat) (s : State) : Host.Outcome State Fault Refusal := act s fun s =>
  (s.laneMod lane.val fun l =>
    if l.en && l.coherent then
      let slip := decide (growth + 1 < l.num) || decide (l.num + 1 < growth)
      { l with latch := (l.latch + growth) % 2 ^ 64, clkSlip := l.clkSlip || slip, slipNow := l.slipNow || slip }
    else l)

/-! ### The keep-up governor (R92 to R97) -/

/-- Cmin, channel-samples per second (R92). -/
def Dev.cmin (s : Dev) : Nat := if s.full then 192 * 10 ^ 9 else 96 * 10 ^ 9

/-- f(V) in units of 1/720,000, V in mV (R93). -/
def fV (v : Nat) : Nat :=
  if v ≤ 550 then 288000
  else if v ≤ 640 then 288000 + (v - 550) * 1600
  else if v ≤ 720 then 432000 + (v - 640) * 1350
  else if v ≤ 800 then 540000 + (v - 720) * 1125
  else if v ≤ 880 then 630000 + (v - 800) * 1125
  else 720000

/-- Load of a channel, whether or not it counts (R92). -/
def Dev.chLoad (s : Dev) (ch : Chan) : Nat := (signal ch.sig).cost * (s.lane ch.lane).rate

/-- A channel counts in the load. -/
def Chan.loads (ch : Chan) : Bool := ch.st == .acq || ch.st == .track || ch.st == .coast

/-- The correlation load L (R92). -/
def Dev.gnssLoad (s : Dev) : Nat := s.gnss.chans.foldl (fun n x => if x.2.loads then n + s.chLoad x.2 else n) 0

/-- Cap V_B of the GNSS domain. -/
def Dev.vB (s : Dev) : Nat := (s.bdom 8).vcap

/-- The capacity at a voltage carries a load. -/
def Dev.carries (s : Dev) (v load : Nat) : Bool := decide (load * 720000 ≤ s.cmin * fV v)

/-- The governor's voltage (R94, R95). -/
def Dev.governorV (s : Dev) : Nat :=
  if s.gnss.surge then 880
  else
    let l := s.gnssLoad
    let v := (((List.range 34).map fun i => 550 + 10 * i).find? fun v => decide (5 * l * 720000 ≤ 4 * s.cmin * fV v)).getD 880
    min v s.vB

/-- The governor chooses the voltage (R94). -/
def Dev.governor (s : Dev) : Dev :=
  let v := s.governorV
  { s with gnss := { s.gnss with vGnss := v } }.setVdom 8 v

/-- The shedding order (R96): of two channels, the one shed first. -/
def Dev.shedBefore (s : Dev) (a b : Nat × Chan) : Bool :=
  let ka := [a.2.prio, 1 - b2n (s.lane a.2.lane).antB, a.2.cn0, 1535 - a.1]
  let kb := [b.2.prio, 1 - b2n (s.lane b.2.lane).antB, b.2.cn0, 1535 - b.1]
  decide (ka ≤ kb)

/-- Sheds channels in order while the load exceeds the capacity at V_B; the number shed. -/
def Dev.shedSome (s : Dev) : List (Nat × Chan) → Nat → Nat → Dev × Nat
  | [], _, n => (s, n)
  | x :: l, load, n =>
    if s.carries s.vB load then (s, n)
    else
      let t := (s.chanDrop x.1).chanMod x.1 fun ch => { ch with st := .shed }
      Dev.shedSome { t with gnss := { t.gnss with shed := t.gnss.shed ++ [x.1] } } l (load - s.chLoad x.2) (n + 1)

/-- Shedding (R96), with one record for the decision. -/
def Dev.shedding (s : Dev) : Dev :=
  let l := s.gnssLoad
  if s.carries s.vB l then s
  else
    let r := s.shedSome (sortBy s.shedBefore (s.gnss.chans.filter fun x => x.2.loads)) l 0
    if r.2 = 0 then s else r.1.log (fwCode 1 0x03 0x10) (leBytes 2 r.2)

/-- Restores the channel shed last, and so on, while the capacity at V_B carries it (R97). -/
def Dev.restoreSome (s : Dev) : List Nat → Dev
  | [] => s
  | k :: l =>
    let ch := s.chan k
    if s.carries s.vB (s.gnssLoad + s.chLoad ch) then
      let t := { s with gnss := { s.gnss with shed := s.gnss.shed.filter (· ≠ k) } }.chanMod k fun ch => { ch with st := .acq }
      Dev.restoreSome (t.acqHandover k) l
    else s

/-- CHANNEL_RESTORE of a budget window (R97). -/
def Dev.restoreShed (s : Dev) : Dev := s.restoreSome s.gnss.shed.reverse

/-- The correlators take the blocks that wait: all of them where the capacity at the present voltage carries the load, and
otherwise the share of one tick's blocks that it carries (R92, R93). (DEDUCED: log entry 79.) -/
def Dev.drainFifos (s : Dev) : Dev :=
  let l := s.gnssLoad
  (List.range 8).foldl (fun s k =>
    let f := (s.lane k).fifo
    let n := if s.carries s.gnss.vGnss l then f.items.length
      else (s.lane k).rate * (s.cmin * fV s.gnss.vGnss / 720000) / (64000 * max 1 l)
    if f.items.isEmpty then s
    else s.laneMod k fun ln => { ln with
      fifo := (Queue.settle { f with items := f.items.drop n, gapOpen := f.gapOpen && decide (n < f.items.length) } f.items.length).1 }) s

/-- The GNSS domain's part of a profile tick (R86, R89, R94, R96); the plans are looked at once per epoch. -/
def Dev.gnssTick (s : Dev) (j : Nat) : Dev :=
  if s.blw.st = .night then s
  else
    let s := (List.range 8).foldl Dev.laneTick s.chanTick
    let s := if j = 0 then (List.range 8).foldl Dev.planLane s else s
    let s := s.drainFifos
    let s := if s.fifosLow then s else { s with gnss := { s.gnss with loSince := s.tbs.mono } }
    s.shedding.governor

/-- SURGE_HOLD_END (R95): every FIFO has stayed at LO or below for 100 ms. -/
def execSurgeHoldEnd (s : State) : Host.Outcome State Fault Refusal := act s fun s =>
  if s.gnss.surge && s.fifosLow then
    let s := s.advanceMono (s.gnss.loSince + 100 * msU)
    { s with gnss := { s.gnss with surge := false } }.governor
  else s

/-! ### Monitors (R98 to R100) -/

/-- The notches after an interval (R99). -/
def notchStep (old : List (Nat × Nat)) (peaks : List Nat) : List (Nat × Nat) :=
  let kept := (old.map fun x => if peaks.contains x.1 then (x.1, 0) else (x.1, x.2 + 1)).filter fun x => decide (x.2 < 10)
  (kept ++ ((peaks.filter fun p => !(kept.any fun x => x.1 == p)).map fun p => (p, 0))).take 4

/-- One 100 ms interval of a lane's monitors (R98 to R100). -/
def Lane.monitor (l : Lane) (m : LaneMon) : Lane :=
  let out := decide (m.level < l.band.1) || decide (l.band.2 < m.level)
  let run := if out == l.agcOut then 0 else l.agcRun + 1
  { l with
    monLevel := min m.level 65535
    agcOut := if 2 ≤ run then out else l.agcOut
    agcRun := if 2 ≤ run then 0 else run
    blanked := if l.bits4 && l.blank then min m.blanked 65536 else 0
    notches := notchStep l.notches m.peaks
    interf := !m.peaks.isEmpty || (l.bits4 && l.blank && decide (65536 < 20 * m.blanked)) }

/-- The monitors of the enabled lanes at a boundary: `mon` gives the lanes in order. -/
def Dev.laneMonitors (s : Dev) (mon : List LaneMon) : Dev :=
  (List.range 8).foldl (fun s k =>
    match mon[k]? with
    | some m => if (s.lane k).en && !(s.lane k).clkLost then s.laneMod k fun l => l.monitor m else s
    | none => s) s

/-! ### Measurements (R101 to R110) -/

/-- Epochs between measurement instants (R102). -/
def measEvery : Nat → Nat
  | 0 => 10
  | 1 => 5
  | 2 => 2
  | _ => 1

/-- An epoch's start is a measurement instant: the timebase runs, no RESYNC, the GNSS domain runs. -/
def Dev.measDue (s : Dev) : Bool :=
  s.tbs.en && !s.tbs.resync && s.blw.st != .night && s.gen.epochFull % measEvery s.gnss.rate == 0
    && s.gnss.instDone != some s.gen.epochFull

/-- Quality flags of a channel's interval (R101, R107), those of the tracking firmware aside. -/
def Dev.intervalFlags (s : Dev) (ch : Chan) : Nat :=
  let l := s.lane ch.lane
  8 * b2n (ch.slip || l.slipNow || s.gnss.stepFlag) + 32 * b2n ch.gap + 64 * b2n l.interf + 128 * b2n l.agcOut
    + 512 * b2n (ch.st == .coast) + 1024 * b2n (!l.coherent)

/-- The GNSS part of MEASUREMENT_INSTANT (R101, R102, R105): the channels in TRACK or COAST are fixed with the flags of
their interval, and a new interval begins. (DEDUCED: log entry 131.) -/
def Dev.takeInstant (s : Dev) : Dev :=
  let live := s.gnss.chans.filter fun x => x.2.st == .track || x.2.st == .coast
  let inst : MeasInst := {
    full := s.gen.epochFull, tai := s.gen.epochFull * epU, timeValid := s.timeValid
    gap := (List.range 8).any fun k => (s.lane k).gapNow
    stepped := s.gnss.stepFlag
    interf := (List.range 8).any fun k => (s.lane k).interf
    chans := live.map fun x => (x.1, { x.2 with qflags := BitVec.ofNat 16 (s.intervalFlags x.2) }) }
  let step := s.gnss.stepFlag
  let s := { s with gnss := { s.gnss with inst := some inst, instDone := some s.gen.epochFull, stepFlag := false } }
  let s := s.gnss.chans.foldl (fun s x => s.chanMod x.1 fun ch => { ch with
    slip := ch.st == .coast, gap := false
    lockAt := if ch.slip || (s.lane ch.lane).slipNow || step then s.tbs.mono else ch.lockAt }) s
  (List.range 8).foldl (fun s k => s.laneMod k fun l => { l with slipNow := false, gapNow := false }) s

/-- A record of the block (R106, R107) with the channel's QFLAGS: what the tracking firmware measured on a channel of the
instant; a channel it gives no measurement has neither PR nor CP. (DEDUCED: log entry 131.) -/
def measRec (s : Dev) (mono : Nat) (x : Nat × Chan) (recs : List MeasRec) : List Byte × BitVec 16 × Nat × Int :=
  let ch := x.2
  let m := recs.find? fun r => r.chan == x.1
  let coast := ch.st == .coast
  let pr := (m.elim false MeasRec.prValid) && !coast
  let cp := (m.elim false MeasRec.cpValid) && !coast
  let f := ch.qflags.toNat
  let slipDet := m.elim false MeasRec.slipDetected
  let q := b2n pr + 2 * b2n cp + 4 * b2n (m.elim false MeasRec.halfRes) + 16 * b2n slipDet
    + 256 * b2n (m.elim false MeasRec.pilot) + (f ||| (64 * b2n (m.elim false MeasRec.notch)))
  let lock := if f.testBit 3 || slipDet then 0 else min ((mono - ch.lockAt) / epU) 65535
  let g := (signal ch.sig).gnss
  let cn0 := min (m.elim ch.cn0 MeasRec.cn0) 255
  let dop := m.elim ch.dop MeasRec.dop
  (leBytes 2 x.1 ++ leBytes 1 g ++ leBytes 1 ch.sat ++ leBytes 1 ch.sig
      ++ leBytes 1 (if g = 1 then low 8 ((ch.fcnIdx : Int) - 7) else 0)
      ++ leBytes 1 (ch.lane + 8 * b2n (s.lane ch.lane).antB) ++ leBytes 1 cn0
      ++ leBytes 8 (if pr then m.elim 0 MeasRec.pr else 0)
      ++ leBytes 8 (if cp then low 64 (m.elim 0 MeasRec.cp) else 0)
      ++ leBytes 4 (low 32 dop) ++ leBytes 2 lock ++ leBytes 2 q,
    BitVec.ofNat 16 q, cn0, dop)

/-- The block's header with its NUM_REC and TRUNC (R105). -/
def Dev.measHeader (s : Dev) (i : MeasInst) (n : Nat) (trunc : Bool) : List Byte :=
  let unk : Nat := 0x80000000
  let ck (f : Int × Int → Int) : Nat := match s.gnss.clock with | some x => low 32 (f x) | none => unk
  leBytes 1 1
    ++ leBytes 1 (b2n i.timeValid + 2 * b2n (!s.gnss.shed.isEmpty) + 4 * b2n i.gap + 8 * b2n i.stepped + 16 * b2n trunc
      + 32 * b2n i.interf)
    ++ leBytes 2 n ++ leBytes 4 (epoch32 i.full).toNat ++ leBytes 8 (i.tai / secU % 2 ^ 48) ++ leBytes 4 (i.tai % secU / nsU)
    ++ leBytes 4 (ck Prod.fst) ++ leBytes 4 (ck Prod.snd) ++ leBytes 2 s.gnss.shed.length ++ [0, 0]

/-- The block goes to the pending reads, cut to whole records (R108); with none it is missed. -/
def Dev.deliverBlock (s : Dev) (i : MeasInst) (recs : List (List Byte)) : Dev :=
  let whole := s.measHeader i recs.length false ++ recs.flatten
  let s := { s with gnss := { s.gnss with block := whole } }
  if s.reads.any fun r => r.kind == .meas then
    s.serveReads .meas (epoch32 i.full) fun len =>
      let fit := recs.take ((len - 32) / 32)
      let cut := decide (fit.length < recs.length)
      (s.measHeader i fit.length cut ++ fit.flatten, cut)
  else { s with gnss := { s.gnss with measMissed := min (s.gnss.measMissed + 1) 0xFFFFFFFF } }

/-- The GNSS part of MEAS_BLOCK_READY (R105 to R108, R110). (DEDUCED: log entry 131.) -/
def Dev.blockReady (s : Dev) (i : MeasInst) (b : MeasIn) : Dev :=
  let rs := i.chans.map fun x => (x.1, measRec s s.tbs.mono x b.recs)
  let s := rs.foldl (fun s x => s.chanMod x.1 fun ch => if ch.st = .free then ch else
    { ch with qflags := x.2.2.1, cn0 := x.2.2.2.1, dop := x.2.2.2.2 }) s
  let s := { s with gnss := { s.gnss with inst := none, clock := b.clock } }
  s.deliverBlock i (rs.map fun x => x.2.1)

/-- Request layout of GNS_MEAS_READ: the selector is reserved. -/
def gnsReadFields : List FieldRule := fWords 1 3

/-- GNS_MEAS_READ (R108). -/
def gnsMeasReadRun (c : Cmd) (s : Dev) : Res := pendRead .meas c s

/-! ### Status (14 status responses) -/

/-- Request layout of GNS_LANE_STATUS. -/
def gnsLaneStFields : List FieldRule := [fAny 0 0 3]

/-- GNS_LANE_STATUS: the read clears the latched flags. The measured rate of a coherent lane is RATE_HZ; that of another
lane is a measurement, and so a free value. -/
def gnsLaneStatusRun (c : Cmd) (s : Dev) : Res :=
  let k := argF c 0 0 3
  let l := s.lane k
  let cnt (st : ChSt) : Nat := (s.gnss.chans.filter fun x => x.2.lane == k && x.2.st == st).length
  let r := if l.en && l.coherent then (word l.rate, s) else s.draw
  done (r.2.laneMod k fun l => { l with clkSlip := false, fifo := { l.fifo with hiSeen := false, loSeen := false } })
    [word (b2n l.en + 2 * b2n l.clkLost + 4 * b2n l.clkSlip + 8 * b2n l.agcOut + 16 * b2n l.interf
        + 32 * b2n l.fifo.hiSeen + 64 * b2n l.fifo.loSeen + 128 * b2n (!l.coherent) + 256 * l.fifo.items.length),
      sat32 l.fifo.drops, sat32 s.gnss.measMissed, word (l.monLevel + 2 ^ 16 * l.notches.length), word l.blanked,
      sat32 (cnt .track), sat32 (cnt .acq), r.1]

/-- STATE code of a channel (R86). -/
def chCode : ChSt → Nat
  | .free => 0 | .idle => 1 | .acq => 2 | .track => 3 | .coast => 4 | .shed => 5

/-- GNS_CHAN_STATUS. -/
def gnsChanStatusRun (c : Cmd) (s : Dev) : Res :=
  let k := argF c 0 0 11
  if s.nChans ≤ k then refuse s .notFitted
  else
    let h := s.chan k
    let lock := if h.st = .track then min ((s.tbs.mono - h.lockAt) / epU) 65535 else 0
    done s [word (chCode h.st + 8 * b2n h.pinned + 16 * h.prio + 128 * h.lane + 1024 * h.sig + 32768 * h.sat
        + 2 ^ 21 * h.fcnIdx + 2 ^ 25 * (h.cn0 / 4)), word (low 32 h.dop), word (lock + 2 ^ 16 * h.qflags.toNat),
      sat32 h.searches]

end Sys2Proof.Machine
end

