-- ==== Sys2Proof/Machine/Air.lean ====
section
/-! DEFINITION. Air times, rooms and addresses of the radio ports (09_zfl_radio R254 to R259, R264). -/
namespace Sys2Proof.Machine

/-- R of a port, bits/µs (R254). -/
def RPort.rate (p : RPort) : Nat := if p.rate4 then 4 else 2
/-- PHR_BITS of a port. -/
def RPort.phr (p : RPort) : Nat := if p.phr32 then 32 else 16
/-- Air time of an MPDU of n bytes, µs (R254). -/
def RPort.air (p : RPort) (n : Nat) : Nat := p.shr + (p.phr + 8 * n) / p.rate
/-- The largest MPDU whose air time is at most t µs, capped at 1,024 (R257). -/
def RPort.fits (p : RPort) (t : Nat) : Nat := min 1024 (((t - p.shr) * p.rate - p.phr) / 8)
/-- Uplink room (R257). -/
def RPort.upRoom (p : RPort) : Nat := p.fits (2130 - 2 * p.tStart - p.air 7)
/-- Beacon room (R257). -/
def RPort.beaconRoom (p : RPort) : Nat := p.fits (2250 - p.tStart)
/-- Bytes left for containers in a unicast frame (R261). -/
def RPort.contRoom (p : RPort) : Nat := p.upRoom - 28

/-- The radio port of a machine slot (01 R19). -/
def portOf (slot : Nat) : Nat := slot / 24
/-- The short address of a machine slot (R259). -/
def slotAddr (slot : Nat) : Nat := 0x0100 + slot
/-- The short address of partner key 64 × port + index (R259). -/
def partnerAddr (k : Nat) : Nat := 0x8000 + k

/-- A port of the part that is fitted (R290). -/
def Dev.fitted (s : Dev) (p : Nat) : Bool := decide (p < s.nPorts) && (s.rport p).present

/-- Fragment bytes that the configuration in force claims of a beacon (R264). -/
def Dev.fragBytes (s : Dev) : Nat := if s.ref.zflEn then s.ref.zflBytes else 0

/-- A fragment of n bytes fits the beacon of every enabled port beside a token (R264). -/
def Dev.fragFits (s : Dev) (n : Nat) : Bool :=
  (List.range s.nPorts).all fun p => !(s.rport p).en || decide (94 + n ≤ (s.rport p).beaconRoom)

end Sys2Proof.Machine
end

