-- ==== Sys2Proof/Machine/Ref.lean ====
section
/-! DEFINITION. The reference station: ARP and survey, steering, integrity, RTCM emission, the ZFL correction sets, NTRIP,
and the reference commands (04_reference_corrections). -/
namespace Sys2Proof.Machine

/-! ### The antenna reference point (R112 to R114) -/

/-- A HELD ARP is stored in the settings generation in use (R112, 17 R473). (DEDUCED: log entry 123.) -/
def Dev.saveArp (s : Dev) : Dev :=
  let r := s.ref
  if s.upd.gen = 0 ∨ r.arpSt ≠ .held then s
  else { s with upd := { s.upd with genArp := tset none s.upd.genArp s.upd.gen (some ⟨r.arp, r.pco, r.baseline⟩) } }

/-- The ARP becomes HELD with a baseline or none (R112). -/
def Dev.holdArp (s : Dev) (p : Int × Int × Int) (base : Option (Int × Int × Int)) : Dev :=
  { s with ref := { s.ref with
    arpSt := .held, arp := p, baseline := base, zflArpNew := true, baseRun := 0, baseFixedAt := s.tbs.mono } }.saveArp

/-- REF_ARP_SURVEY and REF_ARP_SET are refused (R114). -/
def Dev.arpBusy (s : Dev) : Bool := s.goActive || !s.orc.store.isEmpty

/-- Request layout of REF_ARP_SURVEY. -/
def refSurveyFields : List FieldRule := [fIn 0 0 17 60 86400, fIn 1 0 17 0 86400, fIn 2 0 16 1 10000]

/-- REF_ARP_SURVEY (R113). -/
def refArpSurveyRun (c : Cmd) (s : Dev) : Res :=
  let mn := argF c 0 0 17
  let mx := argF c 1 0 17
  if mx < mn then refuse s .reservedValue
  else if s.arpBusy then refuse s .arpInUse
  else done { s with ref := { s.ref with
    arpSt := .surveying, minS := mn, maxS := mx, targetMm := argF c 2 0 16, surveyAt := s.tbs.mono
    svInst := 0, svSolved := 0, svSum := (0, 0, 0), svErr := 0, svBaseN := 0, svBase := (0, 0, 0) } } []

/-- Request layout of REF_ARP_SET. -/
def refArpSetFields : List FieldRule := fAny 0 0 1 :: fWords 1 9

/-- A signed 64-bit value in words i and i + 1. -/
def argI64 (c : Cmd) (i : Nat) : Int := signed 64 (arg64 c i)

/-- REF_ARP_SET (R113). -/
def refArpSetRun (c : Cmd) (s : Dev) : Res :=
  if s.arpBusy then refuse s .arpInUse
  else done (s.holdArp (argI64 c 1, argI64 c 3, argI64 c 5)
    (if argB c 0 0 then some (argI c 7, argI c 8, argI c 9) else none)) []

/-- Componentwise sum. -/
def add3 (a b : Int × Int × Int) : Int × Int × Int := (a.1 + b.1, a.2.1 + b.2.1, a.2.2 + b.2.2)

/-- Componentwise mean of n summands. -/
def mean3 (a : Int × Int × Int) (n : Nat) : Int × Int × Int :=
  let d (x : Int) : Int := x / (max n 1 : Nat)
  (d a.1, d a.2.1, d a.2.2)

/-- The survey ends HELD on its mean; the baseline is held when it was fixed for at least half of the instants (R113). -/
def Dev.surveyHold (s : Dev) : Dev :=
  let r := s.ref
  let s := { s with ref := { r with svSecs := (s.tbs.mono - r.surveyAt) / secU } }
  s.holdArp (mean3 r.svSum r.svSolved)
    (if 0 < r.svBaseN ∧ r.svInst ≤ 2 * r.svBaseN then some (mean3 r.svBase r.svBaseN) else none)

/-- A lane of antenna B is enabled. -/
def Dev.antB (s : Dev) : Bool := (List.range 8).any fun k => (s.lane k).en && (s.lane k).antB

/-- An instant of the survey (R113). -/
def Dev.surveyUpdate (s : Dev) (b : MeasIn) : Dev :=
  if s.ref.arpSt = .surveying then
    let r := s.ref
    let s := { s with ref := { r with
      svInst := r.svInst + 1
      svSolved := r.svSolved + b2n b.spp.isSome
      svSum := b.spp.elim r.svSum (add3 r.svSum)
      svErr := b.meanErrMm
      svBaseN := r.svBaseN + b2n (s.antB && b.baseline.isSome)
      svBase := if s.antB then b.baseline.elim r.svBase (add3 r.svBase) else r.svBase } }
    if r.surveyAt + r.minS * secU ≤ s.tbs.mono ∧ 0 < s.ref.svSolved ∧ b.meanErrMm ≤ r.targetMm then s.surveyHold else s
  else s

/-- SURVEY_TIMEOUT (R113): MAX_S pass. -/
def execSurveyTimeout (s : State) : Host.Outcome State Fault Refusal := act s fun s =>
  if s.ref.arpSt = .surveying then
    let s := s.advanceMono (s.ref.surveyAt + s.ref.maxS * secU)
    if 0 < s.ref.svSolved ∧ s.ref.svInst ≤ 2 * s.ref.svSolved then s.surveyHold
    else
      let s := { s with ref := { s.ref with arpSt := .none, svSecs := (s.tbs.mono - s.ref.surveyAt) / secU } }
      (s.log 0x4402 (leBytes 4 s.ref.svSolved))
  else s

/-! ### The records used (R115) -/

/-- A signal of the block as the engine sees it. -/
structure RefSig where
  key : Nat
  sig : Nat
  sat : Nat
  fcnIdx : Nat
  rec_ : MeasRec
  /-- It passes the elevation and CN0 tests. -/
  passes : Bool
  used : Bool
  /-- Its carrier phase may be used. -/
  phase : Bool
  slip : Bool
  lock : Nat

/-- Key of a signal's exclusion state. -/
def sigKey (ch : Chan) : Nat := (ch.lane * 32 + ch.sig) * 64 + ch.sat

/-- Exclusion by the residual test after an instant (R115). -/
def Excl.step (x : Excl) (bad slip : Bool) : Excl :=
  if bad then { failed := true, slipSeen := slip, passes := 0 }
  else if !x.failed then x
  else
    let seen := x.slipSeen || slip
    let n := if seen then x.passes + 1 else 0
    if 10 ≤ n then {} else { x with slipSeen := seen, passes := n }

/-- The antenna-A signals of a block, with the verdict of R115. -/
def Dev.refSigs (s : Dev) (i : MeasInst) (b : MeasIn) : List RefSig :=
  i.chans.filterMap fun x =>
    let ch := x.2
    let l := s.lane ch.lane
    match b.recs.find? fun r => r.chan == x.1 with
    | none => none
    | some r =>
      if l.antB then none
      else
        let ok1 := l.coherent && r.prValid && ch.st != .coast
        let passes := ok1 && decide ((s.ref.elevMask : Int) ≤ r.elev) && decide (4 * s.ref.cn0Min ≤ r.cn0)
        let rf := ch.qflags.getLsbD 6 || r.notch || ch.qflags.getLsbD 7
        let slip := ch.qflags.getLsbD 3 || r.slipDetected
        some {
          key := sigKey ch, sig := ch.sig, sat := ch.sat, fcnIdx := ch.fcnIdx, rec_ := r, passes := passes
          used := passes && !rf && decide (r.residual ≤ 30000)
          phase := r.cpValid && !((s.excl (sigKey ch)).step (decide (30000 < r.residual)) slip).failed
          slip := slip, lock := if slip then 0 else min ((s.tbs.mono - ch.lockAt) / epU) 65535 }

/-- The exclusion states after the block (R115). -/
def Dev.exclStep (s : Dev) (l : List RefSig) : Dev :=
  l.foldl (fun s g => s.exclMod g.key fun x => x.step (decide (30000 < g.rec_.residual)) g.slip) s

/-- Distinct satellites of signals. -/
def satsOf (l : List RefSig) : List (Nat × Nat) := (l.map fun g => ((signal g.sig).gnss, g.sat)).dedup

/-! ### Steering (R116, R117) -/

/-- The engine steers the timebase: bias and drift in ps and ps/s (R116, R117). -/
def Dev.steerGnss (s : Dev) (b : MeasIn) (sats : Nat) : Dev :=
  if s.tbs.steer ≠ 1 ∨ s.rad.follower then s
  else match b.clock with
    | none => { s with ref := { s.ref with steerRun := 0 } }
    | some (bias, drift) =>
      if sats < 5 then { s with ref := { s.ref with steerRun := 0 } }
      else
        let s := s.learnXo (bias / 1000)
        let near := decide (bias.natAbs ≤ 10 ^ 6)
        let run := if near then min (s.ref.steerRun + 1) 10 else 0
        let s := { s with ref := { s.ref with steerRun := run, steered := near && (s.ref.steered || run == 10) } }
        let s := if !s.goActive && decide (10 ^ 9 < bias.natAbs) then s.adjust .clu (-(bias / 1000)) else
          let nom : Int := nominalIncr s.tbs.refsel
          let want : Int := s.tbs.incr - s.tbs.incr * (drift + bias / s.ref.tauS) / 10 ^ 12
          s.setIncr .clu (max (nom - nom / 100000) (min (nom + nom / 100000) want)).toNat
        s.sync (min (max 20 (3 * b.biasSigmaNs)) (2 ^ 24 - 1))

/-! ### Integrity (R118 to R120) -/

/-- The fragments not yet frozen are withdrawn, and reference observations end, while the level is ALARM (R120). -/
def Dev.setLevel (s : Dev) (lvl : Nat) (bits : Nat) : Dev :=
  let old := s.ref.level
  let s := { s with ref := { s.ref with
    level := lvl, failing := BitVec.ofNat 10 bits
    zflFrags := if lvl = 2 then [] else s.ref.zflFrags
    lostAt := if lvl = 2 then some (s.ref.lostAt.getD s.tbs.mono) else none } }
  if lvl = old then s else s.log 0x4401 (leBytes 1 lvl ++ [0] ++ leBytes 2 bits)

/-- The level after an instant (R119). -/
def Dev.judge (s : Dev) (bits : Nat) : Dev :=
  let alarm := decide (bits % 64 ≠ 0)
  let since := if alarm then none else some (s.ref.goodSince.getD s.tbs.mono)
  let s := { s with ref := { s.ref with goodSince := since } }
  let held := s.ref.level == 2 && !(since.elim false fun t => decide (t + s.ref.recoverS * secU ≤ s.tbs.mono))
  s.setLevel (if alarm || held then 2 else if 64 ≤ bits then 1 else 0) bits

/-- The checks that need no block (R118): bits 0, 1, 6, 8 and 9. -/
def Dev.standingChecks (s : Dev) : Nat :=
  let r := s.ref
  b2n (r.arpSt != .held) + 2 * b2n (!s.timeValid)
    + 64 * b2n (r.baseline.isSome && decide (r.baseFixedAt + 30 * secU ≤ s.tbs.mono))
    + 256 * b2n ((List.range 8).any fun k => let l := s.lane k; l.en && !l.antB && (l.interf || l.agcOut))
    + 512 * b2n (s.tbs.steer == 1 && !r.steered)

/-- The baseline found differs from the held one by more than BASE_TOL (R118). -/
def baseOff (a b : Int × Int × Int) (tol : Nat) : Bool :=
  let d := add3 a (-b.1, -b.2.1, -b.2.2)
  decide ((tol : Int) * tol < d.1 * d.1 + d.2.1 * d.2.1 + d.2.2 * d.2.2)

/-- The integrity checks of a block (R118). -/
def Dev.integrity (s : Dev) (b : MeasIn) (sigs : List RefSig) : Dev :=
  let used := sigs.filter RefSig.used
  let few := decide ((satsOf (used.filter fun g => (signal g.sig).band == 0 && g.phase)).length < 6)
  let late := decide (40000 < b.readyUs) && !s.tbs.resync
  let lateRun := if late then min (s.ref.lateRun + 1) 2 else 0
  let off := match s.ref.baseline, b.baseline with
    | some h, some f => baseOff h f s.ref.baseTol
    | _, _ => false
  let baseRun := if off then min (s.ref.baseRun + 1) 3 else 0
  let pass := (sigs.filter RefSig.passes).length
  let s := { s with ref := { s.ref with
    lateRun := lateRun, baseRun := baseRun
    baseFixedAt := if b.baseline.isSome then s.tbs.mono else s.ref.baseFixedAt
    used := (satsOf used).length, excluded := pass - used.length } }
  s.judge (s.standingChecks + 4 * b2n few + 8 * b2n (lateRun == 2)
    + 16 * b2n (s.ref.arpSt == .held && decide (s.ref.posTolDm * 100 < b.posDevMm)) + 32 * b2n (baseRun == 3)
    + 128 * b2n (decide (pass < 4 * (pass - used.length))))

/-- A block that never came (R118): nothing of it passes, and BLOCK_LATE counts. -/
def Dev.blockMissing (s : Dev) : Dev :=
  let s := { s with ref := { s.ref with lateRun := if s.tbs.resync then 0 else min (s.ref.lateRun + 1) 2, baseRun := 0 } }
  s.judge (s.standingChecks + 4 + 8 * b2n (s.ref.lateRun == 2))

/-! ### RTCM (R122 to R128) -/

/-- The constellation and order of an observation message: (GNSS code, 0 legacy or 1 MSM) (R122). -/
def obsKind (t : Nat) : Option (Nat × Nat) :=
  match t with
  | 1004 => some (0, 0) | 1012 => some (1, 0)
  | 1074 => some (0, 1) | 1075 => some (0, 1) | 1077 => some (0, 1)
  | 1084 => some (1, 1) | 1085 => some (1, 1) | 1087 => some (1, 1)
  | 1094 => some (2, 1) | 1095 => some (2, 1) | 1097 => some (2, 1)
  | 1124 => some (3, 1) | 1125 => some (3, 1) | 1127 => some (3, 1)
  | 1114 => some (4, 1) | 1115 => some (4, 1) | 1117 => some (4, 1)
  | 1134 => some (5, 1) | 1135 => some (5, 1) | 1137 => some (5, 1)
  | _ => none

/-- A message type of R122. -/
def rtcmType (t : Nat) : Bool := t == 1005 || t == 1006 || t == 1033 || t == 1230 || (obsKind t).isSome

/-- Place of a type in the order of R125. -/
def rtcmOrder (t : Nat) : Nat :=
  match obsKind t with
  | some (g, m) => 10 + 2 * g + m
  | none => if t = 1005 then 0 else if t = 1006 then 1 else if t = 1033 then 2 else 3

/-- A type whose timing follows the measurement rate (R124). -/
def rtcmRated (t : Nat) : Bool := t == 1230 || (obsKind t).isSome

/-- The rate rule of an entry holds (R124). -/
def Dev.rateOk (s : Dev) (e : SchedEnt) : Bool :=
  let n := measEvery s.gnss.rate
  !rtcmRated e.typ || (e.period % n == 0 && e.offset % n == 0)

/-- The rule of R124 after a change of the rate: entries are suspended, with a record, and resume. -/
def Dev.resched (s : Dev) : Dev :=
  (List.range 4).foldl (fun s o =>
    (s.corrOut o).sched.foldl (fun s x =>
      let bad := !s.rateOk x.2
      let t := s.corrOutMod o fun c => { c with sched := tset {} c.sched x.1 { x.2 with suspended := bad } }
      if bad && !x.2.suspended then t.log (fwCode 1 0x04 0x10) (leBytes 1 o ++ leBytes 1 x.1) else t) s) s

/-- Frames of an observation message over used signals (R126, R127): none without a satellite; an MSM splits at 64 cells. -/
def obsFrames (t : Nat) (l : List RefSig) : Nat :=
  match obsKind t with
  | none => 1
  | some (g, m) =>
    let mine := l.filter fun x => (signal x.sig).gnss == g
      && (m == 1 || (if g = 0 then x.sig == 0 else x.sig == 4 || x.sig == 5))
    let sats := (satsOf mine).length
    let sigs := (mine.map RefSig.sig).dedup.length
    if m = 0 then b2n (decide (0 < sats)) else cdiv sats (max 1 (64 / max 1 sigs))

/-- The types an output emits in epoch N, in order, each as often as it has frames (R120, R124 to R127).
(DESIGN CHOICE: log entry 22.) -/
def Dev.emission (s : Dev) (o n : Nat) (sigs : List RefSig) : List Nat :=
  let c := s.corrOut o
  let due := c.sched.filterMap fun x =>
    if x.2.period != 0 && !x.2.suspended && n % x.2.period == x.2.offset then some x.2.typ else none
  let ts := (sortBy (fun a b => decide (rtcmOrder a ≤ rtcmOrder b)) due.dedup).filter fun t =>
    if rtcmRated t then s.ref.level != 2 else if t = 1033 then true else s.ref.arpSt == .held
  let mine := sigs.filter fun g => g.used && c.constEn.getLsbD (signal g.sig).gnss
  ts.flatMap fun t => List.replicate (obsFrames t mine) t

/-- The NTRIP sessions of an output take the bytes of an emission; one whose send buffer would overflow is closed (R139).
How much a session has sent meanwhile is a free value. (DESIGN CHOICE: log entry 22.) -/
def Dev.feedSessions (s : Dev) (o bytes : Nat) : Dev :=
  let r := s.ref.ntSess.foldl (fun (acc : List NtSess × Nat × Nat) x =>
    if x.out = o then
      let q := x.queued - (Config.freeWord acc.2.1).toNat + bytes
      if 65536 < q then (acc.1, acc.2.1 + 1, acc.2.2 + 1) else (acc.1 ++ [{ x with queued := q }], acc.2.1 + 1, acc.2.2)
    else (acc.1 ++ [x], acc.2.1, acc.2.2)) ([], s.free, 0)
  { s with
    free := r.2.1
    ref := { s.ref with ntSess := r.1, ntRefused := min (s.ref.ntRefused + r.2.2) 0xFFFFFFFF } }

/-- One output's emission of epoch N (R125, R128). (DESIGN CHOICE: log entry 22.) -/
def Dev.emitOut (s : Dev) (n : Nat) (sigs : List RefSig) (o : Nat) : Dev :=
  let c := s.corrOut o
  let ts := s.emission o n sigs
  if c.bind = 0 ∨ ts.isEmpty then s
  else
    let frames := (List.range ts.length).map fun i => Config.rtcmFrame (ts.getD i 0) o (s.ref.rtcmSent + i)
    let s := s.corrOutMod o fun c => { c with emitted := ts }
    let s := { s with ref := { s.ref with rtcmSent := min (s.ref.rtcmSent + ts.length) 0xFFFFFFFF } }
    if c.bind = 1 then
      s.serveReads (.corr (Fin.ofNat 4 o)) (epoch32 n) fun len =>
        let fit := wholeFit len frames
        (fit.flatten, decide (fit.length < frames.length))
    else s.feedSessions o frames.flatten.length

/-- The emissions of epoch N (R124). -/
def Dev.emitAll (s : Dev) (n : Nat) (sigs : List RefSig) : Dev :=
  (List.range 4).foldl (fun s o => s.emitOut n sigs o) s

/-! ### ZFL correction sets (R129 to R136) -/

/-- Bits as bytes, bit i in bit i mod 8 of byte i / 8 (R130). -/
def packBits (n v : Nat) : List Byte := leBytes (cdiv n 8) v

/-- Appends a field of w bits to a bit string (length, value). -/
def putBits (a : Nat × Nat) (w v : Nat) : Nat × Nat := (a.1 + w, a.2 + v % 2 ^ w * 2 ^ a.1)

/-- LOCK of a cell (R132). -/
def lockCode (l : Nat) : Nat := if l = 0 then 0 else min 15 (l.log2 + 1)

/-- FINE_PH brought into its range by whole cycles, and whether it was moved (R132). -/
def finePhase (sig idx : Nat) (v : Int) : Int × Bool :=
  let top : Int := 2097151
  let f : Int := sigCentre sig idx
  let k : Int := 536870912000
  if top < v then (v - ((v - top) * f + k - 1) / k * k / f, true)
  else if v < -top then (v + ((-top - v) * f + k - 1) / k * k / f, true)
  else (v, false)

/-- The signals of a constellation, ascending (R131). -/
def sigsOf (g : Nat) : List Nat := (List.range 22).filter fun k => (signal k).gnss == g

/-- A cell (R131, R132). -/
def putCell (a : Nat × Nat) (x : RefSig) : Nat × Nat :=
  let ph := finePhase x.sig x.fcnIdx x.rec_.finePh
  let pr := if -16384 < x.rec_.finePr ∧ x.rec_.finePr < 16384 then x.rec_.finePr else -16384
  let a := putBits a 15 (low 15 pr)
  let a := putBits a 22 (low 22 (if x.phase then ph.1 else -2097152))
  let a := putBits a 4 (if ph.2 then 0 else lockCode x.lock)
  putBits a 1 (b2n (!x.rec_.halfRes))

/-- A satellite record (R131) over the present signals of its constellation. -/
def putSat (present : List Nat) (g : Nat) (l : List RefSig) (a : Nat × Nat) (sat : Nat) : Nat × Nat :=
  let cells := present.filterMap fun k => l.find? fun x => x.sig == k && x.sat == sat
  let h := cells.head?
  let a := putBits a 6 sat
  let a := if g = 1 then putBits a 4 (h.elim 0 RefSig.fcnIdx) else a
  let a := putBits a 8 (h.elim 255 fun x => x.rec_.roughInt)
  let a := putBits a 10 (h.elim 0 fun x => x.rec_.roughMod)
  let a := present.foldl (fun a k => putBits a 1 (b2n (cells.any fun x => x.sig == k))) a
  cells.foldl putCell a

/-- A constellation block (R131). -/
def putConst (l : List RefSig) (a : Nat × Nat) (g : Nat) : Nat × Nat :=
  let mine := l.filter fun x => (signal x.sig).gnss == g
  let present := (sigsOf g).filter fun k => mine.any fun x => x.sig == k
  let sats := (List.range 64).filter fun n => mine.any fun x => x.sat == n
  let mask := (List.range (sigsOf g).length).foldl (fun m i =>
    if present.contains ((sigsOf g).getD i 99) then m + 2 ^ i else m) 0
  let a := putBits a 3 g
  let a := putBits a 6 sats.length
  let a := putBits a 8 mask
  sats.foldl (putSat present g mine) a

/-- The bits of a set (R131): INTEGRITY, the station block or none, TRUNC, and the signals it carries. -/
def Dev.setBits (s : Dev) (integ : Nat) (station trunc : Bool) (l : List RefSig) : Nat × Nat :=
  let gs := (List.range 6).filter fun g => l.any fun x => (signal x.sig).gnss == g
  let a := putBits (0, 0) 12 (s.corrOut 0).station
  let a := putBits a 2 integ
  let a := putBits a 1 (b2n station)
  let a := putBits a 1 (b2n trunc)
  let a := putBits a 3 gs.length
  let a := putBits a 1 (b2n s.ref.steered)
  let a := putBits a 4 0
  let a := if station then
      putBits (putBits (putBits a 36 (low 36 s.ref.arp.1)) 36 (low 36 s.ref.arp.2.1)) 36 (low 36 s.ref.arp.2.2)
    else a
  gs.foldl (putConst l) a

/-- The satellites in the order in which they are removed: lowest elevation first (R135). -/
def trimOrder (l : List RefSig) : List (Nat × Nat) :=
  satsOf (sortBy (fun a b => decide (a.rec_.elev ≤ b.rec_.elev)) l)

/-- The set trimmed until it needs at most `most` fragments of `room` data bytes (R135). -/
def Dev.fitSet (s : Dev) (integ : Nat) (station : Bool) (room most : Nat) :
    List (Nat × Nat) → Bool → List RefSig → Nat × Nat
  | [], t, l => s.setBits integ station t l
  | x :: xs, t, l =>
    let a := s.setBits integ station t l
    if cdiv (cdiv a.1 8) room ≤ most then a
    else Dev.fitSet s integ station room most xs true (l.filter fun g => ((signal g.sig).gnss, g.sat) != x)

/-- Cuts the bytes of a set into fragments with their headers (R129). -/
def fragments (seq ref room : Nat) (bs : List Byte) : List (List Byte) :=
  let n := cdiv bs.length room
  (List.range n).map fun i =>
    leBytes 1 (1 + 16 * (seq % 16)) ++ leBytes 1 (i + 16 * (n - 1)) ++ leBytes 2 ref ++ (bs.drop (i * room)).take room

/-- ZFL_SET_BUILD at the instant that begins epoch e (R134 to R137): one set for each SET_PERIOD.
(DEDUCED: log entries 81, 82.) -/
def Dev.buildSet (s : Dev) (e : Nat) (sigs : List RefSig) : Dev :=
  let r := s.ref
  if !r.zflEn || r.level == 2 || e % r.zflPeriod != 0 then s
  else
    let station := r.zflArpNew || decide (r.zflArpEvery ≤ r.zflSince + 1)
    let station := station && r.arpSt == .held
    let l := sigs.filter fun g => g.used && r.zflConst.getLsbD (signal g.sig).gnss
    let room := r.zflBytes - 4
    let a := s.fitSet r.level station room (min 16 r.zflPeriod) (trimOrder l) false l
    { s with ref := { r with
      zflFrags := fragments r.zflSeq e room (packBits a.1 a.2), zflSeq := (r.zflSeq + 1) % 16
      zflSince := if station then 0 else r.zflSince + 1, zflArpNew := r.zflArpNew && !station } }

/-- The fragment that a beacon takes when it is frozen (R120, R134): the next of the set, or in ALARM an alarm-only set. -/
def Dev.takeFragment (s : Dev) : Option (List Byte) × Dev :=
  let r := s.ref
  if !r.zflEn then (none, s)
  else if r.level = 2 then
    let a := s.setBits 2 false false []
    ((fragments r.zflSeq (s.gnss.instDone.getD 0) 255 (packBits a.1 a.2)).head?,
      { s with ref := { r with zflSeq := (r.zflSeq + 1) % 16, zflFrags := [] } })
  else match r.zflFrags with
    | [] => (none, s)
    | f :: fs => (some f, { s with ref := { r with zflFrags := fs } })

/-- The reference engine takes a block (R113 to R137). (DEDUCED: log entry 82.) -/
def Dev.refBlock (s : Dev) (i : MeasInst) (b : MeasIn) : Dev :=
  let sigs := s.refSigs i b
  let s := s.exclStep sigs
  let s := (s.surveyUpdate b).steerGnss b (satsOf (sigs.filter RefSig.used)).length
  let s := s.integrity b sigs
  (s.emitAll i.full sigs).buildSet i.full sigs

/-! ### NTRIP (R138, R139) -/

/-- The answer of the caster: HTTP status, and the output whose stream opens. (DEDUCED: log entry 84.) -/
def Dev.ntripAnswer (s : Dev) (r : NtripReq) : Nat × Option Nat :=
  let out := (List.range 4).find? fun o =>
    let c := s.corrOut o
    c.bind == 2 && c.ntEn && untilNul c.mount == untilNul r.mount
  if !r.v2 then (400, none)
  else if r.root then (200, none)
  else match out with
    | none => (404, none)
    | some o =>
      let good := (s.corrOut o).users.any fun u =>
        untilNul u.name == untilNul r.user && u.digest == beBytes 32 (Config.sha256 (u.salt ++ r.password)).toNat
      if !good then (401, none) else if 32 ≤ s.ref.ntSess.length then (503, none) else (200, some o)

/-- NTRIP_REQUEST (R138, R139). (DEDUCED: log entry 84.) -/
def execNtripRequest (r : NtripReq) (s : State) : Host.Outcome State Fault Refusal := act s fun s =>
  let a := s.ntripAnswer r
  { s with ref := { s.ref with
    ntStatus := a.1
    ntRefused := if a.1 = 200 then s.ref.ntRefused else min (s.ref.ntRefused + 1) 0xFFFFFFFF
    ntSess := match a.2 with | some o => s.ref.ntSess ++ [{ out := o, queued := 0 }] | none => s.ref.ntSess } }

/-! ### Commands (R140) -/

/-- Request layout of REF_ANT_CFG. -/
def refAntFields : List FieldRule := fAny 0 0 24 :: fWords 1 12 ++ [fAny 13 0 1]

/-- REF_ANT_CFG (R112, R122): phase-centre offsets as int16, low half first. -/
def refAntCfgRun (c : Cmd) (s : Dev) : Res :=
  let half (i : Nat) : Int := signed 16 (argF c (1 + i / 2) (16 * (i % 2)) 16)
  done { s with ref := { s.ref with
    ant := c.words, pco := (List.range 12).map half, zflArpNew := true } }.saveArp []

/-- Request layout of REF_STEER_CFG. -/
def refSteerFields : List FieldRule := [fIn 0 0 10 10 1000]

/-- REF_STEER_CFG (R116). -/
def refSteerCfgRun (c : Cmd) (s : Dev) : Res := done { s with ref := { s.ref with tauS := argF c 0 0 10 } } []

/-- Request layout of REF_OUT_CFG. -/
def refOutFields : List FieldRule := [fAny 0 0 2, fIn 0 2 2 0 2, fAny 0 4 12, fAny 1 0 6]

/-- REF_OUT_CFG (R122). -/
def refOutCfgRun (c : Cmd) (s : Dev) : Res :=
  done (s.corrOutMod (argF c 0 0 2) fun o => { o with
    bind := argF c 0 2 2, station := argF c 0 4 12, constEn := BitVec.ofNat 6 (argF c 1 0 6) }) []

/-- Request layout of REF_SCHED_SET; with CLEAR word 1 is ignored. -/
def refSchedFields : List FieldRule := [fAny 0 0 7, fWord 1]

/-- REF_SCHED_SET (R122, R124). -/
def refSchedSetRun (c : Cmd) (s : Dev) : Res :=
  let o := argF c 0 0 2
  let i := argF c 0 2 4
  let e : SchedEnt := { typ := argF c 1 0 12, period := argF c 1 12 10, offset := argF c 1 22 10 }
  if argB c 0 6 then done (s.corrOutMod o fun x => { x with sched := tset {} x.sched i {} }) []
  else if !rtcmType e.typ || decide (e.period < 1) || decide (600 < e.period) || decide (e.period ≤ e.offset) then
    refuse s .reservedValue
  else
    let dup := match obsKind e.typ with
      | some (g, 1) => (s.corrOut o).sched.any fun x => x.1 != i && obsKind x.2.typ == some (g, 1) && x.2.typ != e.typ
      | _ => false
    if dup then refuse s .schedDup
    else if !s.rateOk e then refuse s .schedRate
    else done (s.corrOutMod o fun x => { x with sched := tset {} x.sched i e }) []

/-- Request layout of REF_ZFL_CFG. -/
def refZflFields : List FieldRule := [fAny 0 0 1, fIn 0 1 8 8 255, fIn 0 9 10 1 600, fIn 0 19 8 1 255, fAny 1 0 6]

/-- REF_ZFL_CFG (R134, R135, 09 R264). -/
def refZflCfgRun (c : Cmd) (s : Dev) : Res :=
  let bytes := argF c 0 1 8
  let period := argF c 0 9 10
  if period % measEvery s.gnss.rate ≠ 0 then refuse s .schedRate
  else if !s.fragFits bytes then refuse s .zflRoom
  else done { s with ref := { s.ref with
    zflEn := argB c 0 0, zflBytes := bytes, zflPeriod := period, zflArpEvery := argF c 0 19 8
    zflConst := BitVec.ofNat 6 (argF c 1 0 6), zflFrags := [] } } []

/-- Request layout of REF_NTRIP_CFG. -/
def refNtripFields : List FieldRule := [fAny 0 0 28, fAny 1 0 3] ++ fWords 2 8

/-- REF_NTRIP_CFG (R138): a mountpoint's name has 1 to 32 characters. -/
def refNtripCfgRun (c : Cmd) (s : Dev) : Res :=
  let name := argBytes c 2 8
  if untilNul name = [] then refuse s .reservedValue
  else
    let s := { s with ref := { s.ref with ntPort := argF c 0 0 16, ntVid := argF c 0 16 12 } }
    done (s.corrOutMod (argF c 1 0 2) fun o => { o with ntEn := argB c 1 2, mount := name }) []

/-- Request layout of REF_NTRIP_USER. -/
def refUserFields : List FieldRule := fAny 0 0 3 :: fWords 1 14

/-- REF_NTRIP_USER (R138): replaces a user of the name, adds one, or with EN = 0 removes it. -/
def refNtripUserRun (c : Cmd) (s : Dev) : Res :=
  let o := argF c 0 0 2
  let u : NtUser := { name := argBytes c 1 4, salt := argBytes c 5 2, digest := argBytes c 7 8 }
  let us := (s.corrOut o).users
  let has := us.any fun x => x.name == u.name
  if !argB c 0 2 then done (s.corrOutMod o fun x => { x with users := us.filter fun y => y.name ≠ u.name }) []
  else if !has && decide (8 ≤ us.length) then refuse s .resourceBusy
  else done (s.corrOutMod o fun x => { x with
    users := if has then us.map fun y => if y.name = u.name then u else y else us ++ [u] }) []

/-- Request layout of REF_INTEG_CFG. -/
def refIntegFields : List FieldRule :=
  [fIn 0 0 16 10 10000, fIn 0 16 8 5 200, fIn 1 0 10 1 600, fIn 1 10 6 0 30, fIn 1 16 8 20 50]

/-- REF_INTEG_CFG (R115, R118, R119). -/
def refIntegCfgRun (c : Cmd) (s : Dev) : Res :=
  done { s with ref := { s.ref with
    posTolDm := argF c 0 0 16, baseTol := argF c 0 16 8, recoverS := argF c 1 0 10, elevMask := argF c 1 10 6
    cn0Min := argF c 1 16 8 } } []

/-- REF_STATUS (14 status responses). -/
def refStatusRun (_c : Cmd) (s : Dev) : Res :=
  let r := s.ref
  let arp := match r.arpSt with | .none => 0 | .surveying => 1 | .held => 2
  done s [word (arp + 4 * r.level + 16 * b2n r.steered + 32 * b2n r.baseline.isSome + 2 ^ 16 * r.failing.toNat),
    sat32 (if r.arpSt = .surveying then (s.tbs.mono - r.surveyAt) / secU else r.svSecs), sat32 r.svErr, sat32 r.used,
    sat32 r.excluded, sat32 r.ntSess.length, sat32 r.ntRefused, sat32 r.rtcmSent]

/-- Request layout of REF_CORR_READ. -/
def refCorrFields : List FieldRule := fAny 0 0 2 :: fWords 1 3

/-- REF_CORR_READ (R128). -/
def refCorrReadRun (c : Cmd) (s : Dev) : Res := pendRead (.corr (Fin.ofNat 4 (argF c 0 0 2))) c s

end Sys2Proof.Machine
end

