-- ==== Sys2Proof/Machine/Fix.lean ====
section
/-! DEFINITION. Central positioning: the observation uplink, the float filter's results, Bramble searches, validation, the
fix and its block (05_fleet_positioning). -/
namespace Sys2Proof.Machine

/-! ### Positions (R147, R159) -/

/-- A slot takes a new position: Orchard (R191) and the lag test (R220) act on it. -/
def Dev.newPos (s : Dev) (k : Nat) (z : Pos) : Dev :=
  let z := { z with rx := s.tbs.mono }
  let s := s.fslotMod k fun f => { f with newest := some z, hist := (f.newest.toList ++ f.hist).take 64 }
  (s.thawOn k z).lagCheck k z

/-- The air slot of a machine slot (01 R21, R154). -/
def airOf (k : Nat) : Nat := k % 24 + 1

/-- The slots in mode CENTRAL, ascending. -/
def Dev.central (s : Dev) : List Nat := (List.range s.nSlots).filter fun k => (s.fslot k).mode == 1

/-- The float state and the held integers of a slot are discarded (R143, R150, R164). -/
def FixSlot.restart (f : FixSlot) : FixSlot := { f with filter := false, held := [], prevBest := [] }

/-! ### Fix payload and records (R156 to R163) -/

/-- What a fix payload says of a solution beside its position: status, RANGE, ratio, ambiguities, deviations. -/
structure FixOut where
  status : Nat
  range : Bool := false
  pos : Pos := {}
  sigE : Nat := 0
  sigN : Nat := 0
  sigU : Nat := 0
  rhoEn : Int := 0
  nsat : Nat := 0
  ratio : Nat := 0
  namb : Nat := 0

/-- The fix payload of an instant (R160). -/
def fixBytes (full : Nat) (posOk : Bool) (x : FixOut) : List Byte :=
  let i32 (v : Int) : List Byte := leBytes 4 (low 32 v)
  let i16 (v : Int) : List Byte := leBytes 2 (low 16 (max (-32768) (min 32767 v)))
  let u16 (v : Nat) : List Byte := leBytes 2 (min v 65535)
  let p := x.pos
  let mid := if x.status = 0 then List.replicate 18 0 ++ [255, 255, 255, 255] ++ List.replicate 8 0
    else i32 p.e ++ i32 p.n ++ i32 p.u ++ i16 p.ve ++ i16 p.vn ++ i16 p.vu ++ u16 p.hpl ++ u16 p.vpl
      ++ u16 x.sigE ++ u16 x.sigN ++ u16 x.sigU ++ leBytes 1 (low 8 x.rhoEn) ++ leBytes 1 (min x.nsat 255)
  leBytes 1 1 ++ leBytes 1 (x.status + 8 * b2n posOk + 16 * b2n x.range) ++ leBytes 2 full ++ mid
    ++ u16 x.ratio ++ leBytes 1 (min x.namb 255) ++ [0, 0, 0]

/-- A record of the fix block (R163). -/
def fixEntry (k : Nat) (r : Nat × Nat × Nat × List Byte) : List Byte :=
  leBytes 1 k ++ leBytes 1 r.1 ++ leBytes 2 r.2.1 ++ leBytes 4 r.2.2.1 ++ r.2.2.2

/-- The fix block is ready when every CENTRAL slot has its record, and goes to the pending reads (R163). -/
def Dev.fixBlock (s : Dev) : Dev :=
  match s.fix.inst with
  | none => s
  | some i =>
    let recs := s.central.map fun k => (s.fslot k).hostRec.map (fixEntry k)
    if recs.any Option.isNone then s
    else
      let l := recs.filterMap id
      let s := { s with fix := { s.fix with inst := none } }
      s.serveReads .fix (epoch32 i.1) fun len =>
        let fit := l.take ((len - 16) / 48)
        let cut := decide (fit.length < l.length)
        (leBytes 1 1 ++ leBytes 1 (b2n cut) ++ leBytes 2 fit.length ++ leBytes 4 (epoch32 i.1).toNat
          ++ List.replicate 8 0 ++ fit.flatten, cut)

/-- Microseconds from the instant to now. (DEDUCED: log entry 105.) -/
def Dev.sinceInst (s : Dev) (i : Nat × Nat) : Nat := (s.tbs.mono - i.2) / usU

/-- The record of a slot for the instant: its REASON, the nodes of its search in thousands, its payload (R160, R163). The
payload waits for the downlink of the next epoch; a LATE one is not sent (R161). -/
def Dev.fixRecord (s : Dev) (k reason nodes : Nat) (x : FixOut) : Dev :=
  match s.fix.inst with
  | none => s
  | some i =>
    if (s.fslot k).hostRec.isSome then s
    else
      let bs := fixBytes i.1 (s.posOk k) x
      (s.fslotMod k fun f => { f with
        hostRec := some (reason, nodes, s.sinceInst i, bs)
        reason := reason
        fixes := if reason = 11 then f.fixes else ((i.1, bs) :: f.fixes).take 2
        nFixed := if reason = 0 then min (f.nFixed + 1) 0xFFFFFFFF else f.nFixed
        reasons := if reason = 0 then f.reasons else tinc f.reasons reason }).fixBlock

/-- An instant without a fix: NO_UPLINK, NO_REF or LATE (R150, R151, R161). -/
def Dev.noFix (s : Dev) (k reason : Nat) : Dev :=
  if (s.fslot k).hostRec.isSome || s.fix.inst.isNone then s
  else
    let s := if reason = 11 then s else s.fslotMod k fun f => { f with prevBest := [] }
    s.fixRecord k reason 0 { status := 0 }

/-- A fix is ready (R157 to R160): it is the slot's newest position, its record stands, and its READY_US is sampled. -/
def Dev.fixReady (s : Dev) (k reason nodes : Nat) (x : FixOut) : Dev :=
  let s := s.newPos k x.pos
  let us := s.fix.inst.elim 0 s.sinceInst
  (s.fixRecord k reason nodes x).sample 7 0 us

/-! ### The observation uplink (R144 to R147) -/

/-- n bits from bit `at` of a payload (04 R130). -/
def bitsAt (v ofs n : Nat) : Nat := nbits v ofs n

/-- Number of ones among the low n bits. -/
def ones (v n : Nat) : Nat := ((List.range n).filter fun i => v.testBit i).length

/-- The satellite records of an OBS block from a bit offset on (R144): the offset after them, or none when a record is out of
order, carries FCN_IDX above 13 or runs past the end. -/
def obsSats (v len g mask : Nat) : Nat → Nat → Nat → Option Nat
  | 0, _, ofs => some ofs
  | n + 1, prev, ofs =>
    let sat := bitsAt v ofs 6
    let fcn := if g = 1 then 4 else 0
    let cells := ofs + 6 + fcn + 8 + 10 + 14
    let nCell := ones (bitsAt v cells (ones mask 8)) (ones mask 8)
    let next := cells + ones mask 8 + 47 * nCell
    if sat ≤ prev ∧ prev ≠ 64 ∨ (g = 1 ∧ 13 < bitsAt v (ofs + 6) 4) ∨ len < next then none
    else obsSats v len g mask n sat next

/-- The constellation blocks of an OBS payload from a bit offset on: the offset after them, if they are in order. -/
def obsBlocks (v len : Nat) : Nat → Nat → Nat → Option Nat
  | 0, _, ofs => some ofs
  | n + 1, prev, ofs =>
    let g := bitsAt v ofs 3
    let nsat := bitsAt v (ofs + 3) 6
    let mask := bitsAt v (ofs + 9) 8
    if len < ofs + 17 ∨ (g ≤ prev ∧ prev ≠ 8) ∨ 5 < g ∨ nsat = 0 then none
    else match obsSats v len g mask nsat 64 (ofs + 17) with
      | none => none
      | some o => obsBlocks v len n g o

/-- An OBS payload is well formed for the epoch of its air slot (R146). -/
def obsOk (bs : List Byte) (epochFull : Nat) : Bool :=
  let v := leNat bs
  let len := 8 * bs.length
  let off := signed 21 (bitsAt v 20 21)
  decide (6 ≤ bs.length) && decide (bs.length ≤ 480) && bitsAt v 0 4 == 1 && bitsAt v 4 16 == epochFull % 65536
    && decide (off.natAbs ≤ 1000000) && bitsAt v 44 3 != 0
    && match obsBlocks v len (bitsAt v 44 3) 8 48 with
      | none => false
      | some o => v / 2 ^ o == 0

/-- OBS_ACCEPT (R142, R146, R150): an OBS payload from a slot is refused, discarded as one of no reference instant or as a
second one, or accepted. After a run of more than 1 s without one no held integer survives. (DEDUCED: log entry 61.) -/
def Dev.obsAccept (s : Dev) (k : Nat) (bs : List Byte) : Dev :=
  let e := s.gen.epochFull
  let f := s.fslot k
  if f.mode ≠ 1 ∨ !obsOk bs e then s.fslotMod k fun f => { f with nRef := min (f.nRef + 1) 0xFFFFFFFF }
  else if e % measEvery s.gnss.rate ≠ 0 then s.fslotMod k fun f => { f with nNon := min (f.nNon + 1) 0xFFFFFFFF }
  else if f.obsFor = some e then s.fslotMod k fun f => { f with nDup := min (f.nDup + 1) 0xFFFFFFFF }
  else
    let gap := match f.obsFor with
      | some o => decide (10 + measEvery s.gnss.rate < e - o)
      | none => false
    let lose := gap || (leNat bs).testBit 41
    s.fslotMod k fun f => { f with
      obsFor := some e, nAcc := min (f.nAcc + 1) 0xFFFFFFFF, filter := true
      held := if lose then [] else f.held }

/-- POS_REPORT (R147, R159): a position report from a slot is refused or taken as received. (DEDUCED: log entry 61.) -/
def Dev.posReport (s : Dev) (k : Nat) (bs : List Byte) : Dev :=
  let e := s.gen.epochFull
  let st := leAt bs 1 1
  if (s.fslot k).mode ≠ 2 ∨ bs.length ≠ 20 ∨ leAt bs 0 1 ≠ 1 ∨ 3 < st ∨ leAt bs 2 2 ≠ e % 65536 then
    s.fslotMod k fun f => { f with nRef := min (f.nRef + 1) 0xFFFFFFFF }
  else
    let i32 (o : Nat) : Int := signed 32 (leAt bs o 4)
    let t := e * epU
    let z : Pos := {
      status := st, e := i32 4, n := i32 8, u := i32 12, hpl := leAt bs 16 2, vpl := leAt bs 18 2
      inst := t, instMono := s.tbs.mono - (s.tbs.time - t) }
    (s.fslotMod k fun f => { f with nAcc := min (f.nAcc + 1) 0xFFFFFFFF }).newPos k z

/-! ### Instants (R142, R151) -/

/-- The positioning part of a measurement instant: the slots in mode CENTRAL await their records; an unfinished instant
before it closes as LATE. In DOZE and NIGHT no fixes are made (11 R338). -/
def Dev.fixInstant (s : Dev) : Dev :=
  let s := s.central.foldl (fun s k => s.noFix k 11) s
  let s := (List.range s.nSlots).foldl (fun s k => s.fslotMod k fun f => { f with hostRec := none }) s
  { s with fix := { s.fix with
    refFor := none
    inst := if s.blw.st = .run then some (s.gen.epochFull, s.tbs.mono) else none } }

/-- MEASUREMENT_INSTANT (03 R101 to R105, 05 R142). A block of the previous instant that never came counts as missing (04
R118). -/
def execMeasurementInstant (s : State) : Host.Outcome State Fault Refusal := act s fun s =>
  if s.measDue then
    let s := if s.gnss.inst.isSome then s.blockMissing else s
    s.takeInstant.fixInstant
  else s

/-- The reference supplies no observations for the instant: every CENTRAL slot gets NO_REF (R151). -/
def Dev.noRef (s : Dev) : Dev :=
  let s := { s with ref := { s.ref with lostAt := some (s.ref.lostAt.getD s.tbs.mono) } }
  s.central.foldl (fun s k => s.noFix k 2) s

/-- After an interruption of more than 1 s every filter restarts (R151). -/
def Dev.refBack (s : Dev) (lost : Option Nat) (full : Nat) : Dev :=
  let long := match lost with
    | some t => decide (t + secU < s.tbs.mono)
    | none => false
  let s := if long then (List.range s.nSlots).foldl (fun s k => s.fslotMod k FixSlot.restart) s else s
  { s with fix := { s.fix with refFor := some full } }

/-- MEAS_BLOCK_READY (03 R105 to R110, 04 R113 to R137, 05 R151): the block of the awaited instant. A block that is ready
within 25 ms supplies the fixes unless the integrity level is ALARM. (DESIGN CHOICE: log entry 11.) -/
def execMeasBlockReady (b : MeasIn) (s : State) : Host.Outcome State Fault Refusal := act s fun s =>
  (match s.gnss.inst with
  | none => s
  | some i =>
    let s := s.advanceTo (i.tai + b.readyUs * usU)
    let lost := s.ref.lostAt
    let s := (s.blockReady i b).refBlock i b
    if s.ref.level = 2 then s.noRef
    else if 25000 < b.readyUs then
      { s with ref := { s.ref with lostAt := some (lost.getD s.tbs.mono) } }.noRef
    else s.refBack lost i.full)

/-- REF_WAIT_TIMEOUT (R151): 25 ms after the instant the block has not come. -/
def execRefWaitTimeout (s : State) : Host.Outcome State Fault Refusal := act s fun s =>
  (match s.fix.inst, s.gnss.inst with
  | some i, some _ => (s.advanceMono (i.2 + 25 * msU)).noRef
  | _, _ => s)

/-! ### Filter and search (R148 to R158) -/

/-- A protection level, mm, rounded up, saturating (R158): K in 0.01 times a deviation in 10^-3 mm. -/
def protLevel (k sd : Nat) : Nat := min 65535 (cdiv (k * sd) 100000)

/-- Status of a float solution (R156). -/
def floatStatus (f : FilterIn) : Nat := if f.ddCode < 4 then 0 else if f.ddPhase < 4 then 1 else 2

/-- The fix of a float solution (R156, R158, R160). (DESIGN CHOICE: log entry 13.) -/
def Dev.floatOut (s : Dev) (f : FilterIn) (i : Nat × Nat) (ratio : Nat) : FixOut :=
  let st := floatStatus f
  { status := st, range := !f.inRange
    pos := { status := st, e := f.e, n := f.n, u := f.u, ve := f.ve, vn := f.vn, vu := f.vu
             hpl := if st = 0 then 65535 else protLevel s.fix.kH f.sdH
             vpl := if st = 0 then 65535 else protLevel s.fix.kV f.sdV
             inst := i.1 * epU, instMono := i.2 }
    sigE := f.sigE, sigN := f.sigN, sigU := f.sigU, rhoEn := f.rhoEn, nsat := f.nsat
    ratio := ratio, namb := if f.namb < 4 then 0 else f.namb }

/-- FILTER_UPDATE (R148 to R152, R154, R157): with the uplink and the reference observations of the instant at hand, the filter
of a CENTRAL slot is updated. With 4 searchable ambiguities or more its search is submitted; otherwise the fix is ready.
(DESIGN CHOICE: log entry 11.) -/
def execFilterUpdate (slot : Fin 192) (f : FilterIn) (s : State) : Host.Outcome State Fault Refusal := act s fun s =>
  let k := slot.val
  let x := s.fslot k
  (match s.fix.inst with
  | none => s
  | some i =>
    if s.nSlots ≤ k ∨ x.mode ≠ 1 ∨ x.obsFor ≠ some i.1 ∨ s.fix.refFor ≠ some i.1 ∨ x.hostRec.isSome ∨ x.float.isSome then s
    else
      let s := s.advanceMono (i.2 + f.readyUs * usU)
      if f.namb < 4 then
        let s := s.fslotMod k fun y => { y with filter := true, held := [], prevBest := [] }
        s.fixReady k (if f.inRange then 3 else 10) 0 (s.floatOut f i 0)
      else
        let s := s.fslotMod k fun y => { y with filter := true, float := some f, dropSearch := false }
        { s with fix := { s.fix with
          searchQ := s.fix.searchQ ++ [(k, i.1)], peak := max s.fix.peak (s.fix.searchQ.length + 1) } })

/-- q2 / q1 in 0.01, saturating (R153). -/
def searchRatio (r : SearchIn) : Nat := if r.q1 = 0 then 65535 else min 65535 (100 * r.q2 / r.q1)

/-- The first condition of R157 that fails, as a REASON; 0 when all hold. (DEDUCED: log entry 86.) -/
def Dev.fixReason (s : Dev) (k : Nat) (f : FilterIn) (r : SearchIn) : Nat :=
  let x := s.fslot k
  let held := x.held.filter fun h => r.survived.contains h.1
  if !f.inRange then 10
  else if !r.complete then 4
  else if r.q1 ≠ 0 ∧ 10 * r.q2 < x.ratioMin * r.q1 then 5
  else if 2 ^ 64 < r.failProb * 10 ^ s.fix.pExp then 6
  else if r.sats < 5 then 3
  else if held.any fun h => r.best.any fun b => b.1 == h.1 && b.2 != h.2 then 7
  else if held.isEmpty ∧ r.best ≠ x.prevBest then 8
  else if !r.residualOk then 9
  else 0

/-- The fix that a search yields (R157, R158, R160). (DEDUCED: log entry 87.) -/
def Dev.searchOut (s : Dev) (f : FilterIn) (r : SearchIn) (i : Nat × Nat) (reason : Nat) : FixOut :=
  let o := s.floatOut f i (searchRatio r)
  if reason = 0 then
    { o with
      status := 3
      pos := { o.pos with
        status := 3, e := r.e, n := r.n, u := r.u, ve := r.ve, vn := r.vn, vu := r.vu
        hpl := protLevel s.fix.kH r.sdH, vpl := protLevel s.fix.kV r.sdV }
      sigE := r.sigE, sigN := r.sigN, sigU := r.sigU, rhoEn := r.rhoEn }
  else o

/-- A finished search of slot k for the awaited instant is validated (R157): a CONFLICT clears the held integers and writes a
record; the result of a search that FIX_RESET disowned counts as no search. (DEDUCED: log entry 87.) -/
def Dev.validate (s : Dev) (k : Nat) (f : FilterIn) (r : SearchIn) (i : Nat × Nat) : Dev :=
  let x := s.fslot k
  let drop := x.dropSearch
  let reason := if drop then (if f.inRange then 3 else 10) else s.fixReason k f r
  let out := if drop then s.floatOut f i 0 else s.searchOut f r i reason
  let s := s.fslotMod k fun y => { y with
    float := none, dropSearch := false
    held := if reason = 0 then r.best else []
    prevBest := if drop then [] else r.best }
  let s := if reason = 7 then s.logSlot 0x4501 k [] else s
  let late := x.hostRec.isSome
  if late then s.newPos k out.pos else s.fixReady k reason (cdiv r.nodes 1000) out

/-- BRAMBLE_SEARCH_DONE (R153, R154, R157): the oldest submitted search ends.
(DESIGN CHOICE: log entry 11; DEDUCED: log entry 86.) -/
def execBrambleSearchDone (r : SearchIn) (s : State) : Host.Outcome State Fault Refusal := act s fun s =>
  (match s.fix.searchQ with
  | [] => s
  | q :: qs =>
    let k := q.1
    let f := s.fslot k
    let s := match s.fix.inst with
      | some i => if i.1 = q.2 then s.advanceMono (i.2 + r.readyUs * usU) else s
      | none => s
    let s := { s with fix := { s.fix with
      searchQ := qs
      completed := if r.complete then min (s.fix.completed + 1) 0xFFFFFFFF else s.fix.completed
      capped := if r.complete then s.fix.capped else min (s.fix.capped + 1) 0xFFFFFFFF
      maxNodes := max s.fix.maxNodes r.nodes } }
    let s := s.sample 5 0 (cdiv r.nodes 1000)
    match f.float with
    | none => s
    | some x =>
      let i := s.fix.inst.getD (q.2, s.tbs.mono - (s.tbs.time - q.2 * epU))
      if i.1 = q.2 then s.validate k x r i
      else s.validate k x r (q.2, s.tbs.mono - (s.tbs.time - q.2 * epU)))

/-- The positioning part of a boundary (R161, R163): the fixes of the instant one epoch ago that are not ready are LATE. -/
def Dev.fixBoundary (s : Dev) : Dev :=
  match s.fix.inst with
  | some i => if i.1 < s.gen.epochFull then s.central.foldl (fun s k => s.noFix k 11) s else s
  | none => s

/-- The air slot of some machines has ended (R150): a CENTRAL slot without an accepted uplink for the instant gets NO_UPLINK. -/
def Dev.uplinkEnd (s : Dev) (air : Nat) : Dev :=
  match s.fix.inst with
  | some i =>
    if i.1 = s.gen.epochFull then
      s.central.foldl (fun s k => if airOf k = air ∧ (s.fslot k).obsFor ≠ some i.1 then s.noFix k 1 else s) s
    else s
  | none => s

/-! ### Commands (R143, R154, R164) -/

/-- Lanes of the search engine (00 R5). -/
def Dev.lanesN (s : Dev) : Nat := if s.full then 8 else 4

/-- Every uplink air slot keeps within the search budget (R154). -/
def Dev.searchFits (s : Dev) : Bool :=
  (List.range 24).all fun a =>
    decide ((s.central.filter fun k => k % 24 == a).length * cdiv s.fix.nodeK 100 ≤ s.lanesN)

/-- Fields of FIX_CFG. -/
def fixCfgFields : List FieldRule :=
  [fAny 0 0 8, fIn 0 8 2 0 2, fAny 0 10 6, fAny 0 16 1, fIn 0 17 7 0 30, fIn 0 24 8 10 100, fIn 1 0 16 1 65535,
    fIn 1 16 16 1 65535, fIn 2 0 8 1 100]

/-- The slot's bit stands in the permission bitmap in force (R143). -/
def Dev.bitInForce (s : Dev) (k : Nat) : Bool := ((s.lastTwo.headD none).getD 0).getLsbD k

/-- FIX_CFG takes effect; without `mode` the MODE stays (R143). (DEDUCED: log entry 88.) -/
def Dev.fixSet (s : Dev) (c : Cmd) (mode : Bool) : Dev :=
  s.fslotMod (argF c 0 0 8) fun f =>
    let m := if mode then argF c 0 8 2 else f.mode
    let f := if m = f.mode then f
      else { f.restart with
        mode := m, newest := none, hist := [], obsFor := none, float := none, fixes := [], hostRec := none }
    { f with
      constEn := BitVec.ofNat 6 (argF c 0 10 6), floatOk := argB c 0 16, elev := argF c 0 17 7, ratioMin := argF c 0 24 8
      hal := argF c 1 0 16, val := argF c 1 16 16, accMax := argF c 2 0 8 }

/-- FIX_CFG (R143, R154, R164). -/
def fixCfgRun (c : Cmd) (s : Dev) : Res :=
  let k := argF c 0 0 8
  if s.nSlots ≤ k then refuse s .notFitted
  else if argF c 0 8 2 ≠ (s.fslot k).mode ∧ s.bitInForce k then refuse s .slotMoving
  else
    let t := s.fixSet c true
    if t.searchFits then done t [] else refuse s .searchBudget

/-- FIX_CFG at the boundary where it applies (R143): a MODE change of a slot whose bit is set does not apply, with a record
that names the slot. (DEDUCED: log entry 88.) -/
def Dev.fixApply (s : Dev) (c : Cmd) : Dev :=
  let k := argF c 0 0 8
  if argF c 0 8 2 ≠ (s.fslot k).mode ∧ s.bitInForce k then (s.fixSet c false).logSlot (fwCode 1 0x05 0x10) k []
  else s.fixSet c true

/-- Fields of FIX_GLOBAL_CFG. -/
def fixGlobalFields : List FieldRule := [fIn 0 0 10 10 400, fIn 0 10 4 3 9, fIn 1 0 16 300 1000, fIn 1 16 16 300 1000]

/-- FIX_GLOBAL_CFG (R154, R164). -/
def fixGlobalCfgRun (c : Cmd) (s : Dev) : Res :=
  let t := { s with fix := { s.fix with
    nodeK := argF c 0 0 10, pExp := argF c 0 10 4, kH := argF c 1 0 16, kV := argF c 1 16 16 } }
  if t.searchFits then done t [] else refuse s .searchBudget

/-- FIX_RESET (R164): the filter and the held integers go, and a search in progress is disowned.
(DEDUCED: log entry 86.) -/
def fixResetRun (c : Cmd) (s : Dev) : Res :=
  let k := argF c 0 0 8
  if s.nSlots ≤ k then refuse s .notFitted
  else done (s.fslotMod k fun f => { f.restart with dropSearch := f.float.isSome }) []

/-- Fields of FIX_STATUS. -/
def fixStatusFields : List FieldRule := [fAny 0 0 8, fIn 0 8 2 0 2]

/-- FIX_STATUS (R164). -/
def fixStatusRun (c : Cmd) (s : Dev) : Res :=
  let k := argF c 0 0 8
  if s.nSlots ≤ k then refuse s .notFitted
  else
    let f := s.fslot k
    let st := match f.newest with | some z => z.status | none => 0
    let st := if f.reason = 1 ∨ f.reason = 2 ∨ f.reason = 11 then 0 else st
    done s (match argF c 0 8 2 with
    | 0 => [word (f.mode + 4 * st + 32 * f.reason + 512 * b2n (s.posOk k)), sat32 f.nAcc, sat32 f.nRef, sat32 f.nDup,
        sat32 f.nNon, sat32 f.nFixed, 0, 0]
    | 1 => (List.range 8).map fun r => sat32 (tget 0 f.reasons (r + 1))
    | _ => ((List.range 3).map fun r => sat32 (tget 0 f.reasons (r + 9))) ++ [0, 0, 0, 0, 0])

/-- FIX_READ (R163). -/
def fixReadRun (c : Cmd) (s : Dev) : Res := pendRead .fix c s

/-- BRM_STATUS (R164): the read clears the maximum node count. -/
def brmStatusRun (_c : Cmd) (s : Dev) : Res :=
  done { s with fix := { s.fix with maxNodes := 0 } }
    [sat32 s.fix.completed, sat32 s.fix.capped, word (min s.fix.peak 65535 + 2 ^ 16 * s.lanesN), sat32 s.fix.maxNodes,
      0, 0, 0, 0]

end Sys2Proof.Machine
end

