-- ==== Sys2Proof/Machine/L2.lean ====
section
/-! DEFINITION. The tables of the switch: the L2 table engine, table walks, flushes, the LPM TCAM and the block digests
(10_switching_forwarding R297 to R310). -/
namespace Sys2Proof.Machine

/-! ### Keys and positions (R298) -/

/-- The seeds of the four banks. -/
def l2Seed (k : Nat) : Nat := [0x00000000, 0x5A5A5A5A, 0xA5A50F0F, 0x3C3CC3C3].getD k 0

/-- The position of a key in bank k. -/
def l2Pos (mac : BitVec 48) (vid k : Nat) : Nat :=
  16384 * k + crc32c (leBytes 4 (l2Seed k) ++ beBytes 6 mac.toNat ++ leBytes 2 vid) % 16384

/-- The four positions of a key, in bank order. -/
def l2Cands (mac : BitVec 48) (vid : Nat) : List Nat := (List.range 4).map (l2Pos mac vid)

/-- The entry at a position. -/
def Dev.l2At (s : Dev) (p : Nat) : Option L2 := tget none s.sw.l2 p

/-- Where a key stands, with its entry. -/
def Dev.l2Find (s : Dev) (mac : BitVec 48) (vid : Nat) : Option (Nat × L2) :=
  (l2Cands mac vid).findSome? fun p =>
    match s.l2At p with
    | some e => if e.mac = mac ∧ e.vid = vid then some (p, e) else none
    | none => none

/-- A write to a position; the change count of its block rises (R309). -/
def Dev.l2Set (s : Dev) (p : Nat) (e : Option L2) : Dev :=
  { s with sw := { s.sw with
    l2 := tset none s.sw.l2 p e, l2Chg := tmod 0 s.sw.l2Chg (p / 64) fun n => (n + 1) % 65536 } }

/-- Restarts the age of an entry, which no digest covers (R300, R308). (DEDUCED: log entry 98.) -/
def Dev.l2Touch (s : Dev) (p : Nat) (e : L2) : Dev :=
  { s with sw := { s.sw with l2 := tset none s.sw.l2 p (some { e with age := 0 }) } }

/-- Units of AGE: 2^AGE_SHIFT s (R301). -/
def ageUnit (ageS : Nat) : Nat := if ageS ≤ 65535 then 1 else 16

/-! ### Insertion with moves (R299, R302) -/

/-- Where the entry at the head of a path can move: its other positions, lowest first. -/
def Dev.l2Moves (s : Dev) (path : List Nat) : List Nat :=
  match path with
  | [] => []
  | p :: _ =>
    match s.l2At p with
    | some e => sortBy (fun a b => decide (a ≤ b)) ((l2Cands e.mac e.vid).filter fun q => q != p)
    | none => []

/-- Breadth-first search for a chain of moves: a path lists the empty target first and the candidate last. -/
def Dev.l2Search (s : Dev) : Nat → List (List Nat) → List Nat → Option (List Nat)
  | 0, _, _ => none
  | n + 1, front, seen =>
    let front := sortBy (fun a b => decide (a.headD 0 ≤ b.headD 0)) front
    match front.findSome? fun path =>
        ((s.l2Moves path).find? fun q => (s.l2At q).isNone).map fun q => q :: path with
    | some path => some path
    | none =>
      let next := front.foldl (fun acc path =>
        (s.l2Moves path).foldl (fun acc q => if acc.2.contains q then acc else (acc.1 ++ [q :: path], q :: acc.2)) acc)
        ([], seen)
      Dev.l2Search s n next.1 next.2

/-- The moves of a path, the one nearest the empty position first: source and target. -/
def pathMoves : List Nat → List (Nat × Nat)
  | t :: p :: ps => (p, t) :: pathMoves (p :: ps)
  | _ => []

/-- A move adds to the carry list of a walk (R302). (DEDUCED: log entry 99.) -/
def Walk.carries (w : Walk) (m : Nat × Nat) : Bool := decide (w.cursor ≤ m.1) && decide (m.2 < w.cursor)

/-- Some open walk has no room for the carries of these moves. (DEDUCED: log entry 97.) -/
def Dev.l2Blocked (s : Dev) (ms : List (Nat × Nat)) : Bool :=
  s.sw.walks.any fun x => match x.2 with
    | some w => decide (64 < w.carry.length + (ms.filter w.carries).length) && ms.any w.carries
    | none => false

/-- One move: the copy, the cleared source, MOVE_GEN, and the open walks (R299, R302, R303). -/
def Dev.l2Move (s : Dev) (m : Nat × Nat) : Dev :=
  match s.l2At m.1 with
  | some e =>
    let s := (s.l2Set m.2 (some e)).l2Set m.1 none
    { s with sw := { s.sw with
      moveGen := (s.sw.moveGen + 1) % 65536
      walks := s.sw.walks.map fun x => (x.1, x.2.map fun w => { w with
        moved := true, carry := if w.carries m then w.carry ++ [(m.2, e)] else w.carry }) } }
  | none => s

/-- How an insertion ends. -/
inductive InsEnd where
  | put (pos : Nat)
  | full
  | held
deriving DecidableEq, Repr

/-- Inserts an absent key (R299), or finds it full, or is held back by a full carry list (R302).
(DEDUCED: log entry 97.) -/
def Dev.l2Insert (s : Dev) (e : L2) : Dev × InsEnd :=
  let cands := l2Cands e.mac e.vid
  match cands.find? fun p => (s.l2At p).isNone with
  | some p => (s.l2Set p (some e), .put p)
  | none =>
    match s.l2Search 4 (cands.map fun p => [p]) cands with
    | none => ({ s with sw := { s.sw with l2Full := min (s.sw.l2Full + 1) 0xFFFFFFFF } }, .full)
    | some path =>
      let ms := pathMoves path
      if s.l2Blocked ms then (s, .held)
      else
        let p := path.getLastD 0
        ((ms.foldl Dev.l2Move s).l2Set p (some e), .put p)

/-- Dynamic entries of a port (R300). -/
def Dev.learned (s : Dev) (p : Nat) : Nat :=
  (s.sw.l2.filter fun x => match x.2 with
    | some e => !e.static && decide (e.mask = BitVec.ofNat 8 (2 ^ p)) | none => false).length

/-- Counts a drop or event of an ingress port, in the order of SW_STATUS pages 1 to 3. -/
def Dev.swCount (s : Dev) (p n : Nat) : Dev := s.eportMod p fun e => { e with counts := tinc e.counts n }

/-- A dynamic entry enters the table from a port, or waits for a carry list (R300, R302). (DEDUCED: log entry 101.) -/
def Dev.learn (s : Dev) (p : Nat) (mac : BitVec 48) (vid : Nat) : Dev :=
  let e : L2 := { mac := mac, vid := vid, mask := BitVec.ofNat 8 (2 ^ p) }
  let r := s.l2Insert e
  if r.2 = InsEnd.held then { s with sw := { s.sw with heldIns := s.sw.heldIns ++ [⟨e, p, none⟩] } } else r.1

/-- Response of SW_L2_ADD: POSITION and MOVE_GEN. -/
def Dev.addWords (s : Dev) (p : Nat) : List Word := [word (p + 2 ^ 16 * s.sw.moveGen)]

/-- Insertions held back try again once a carry list has drained or a walk has closed (R302).
(DEDUCED: log entry 97.) -/
def Dev.retryHeld (s : Dev) : Dev :=
  s.sw.heldIns.foldl (fun s h =>
    let r := match s.l2Find h.ent.mac h.ent.vid with
      | some x => if h.cmd.isSome then (s.l2Set x.1 (some h.ent), InsEnd.put x.1) else (s, .put x.1)
      | none => s.l2Insert h.ent
    let t := r.1
    match r.2 with
    | .held => s
    | e =>
      let t := { t with sw := { t.sw with heldIns := t.sw.heldIns.erase h } }
      match h.cmd, e with
      | some c, .put p => t.owe c.1 c.2 .swL2Add .success (t.addWords p)
      | some c, _ => t.owe c.1 c.2 .swL2Add .l2Full []
      | none, _ => t) s

/-- LEARN_NOTICE (R300): on the PQ9096, firmware takes the oldest notice and inserts the entry, or updates it when it has
been learned elsewhere meanwhile. -/
def execLearnNotice (s : State) : Host.Outcome State Fault Refusal := act s fun s =>
  match s.sw.notices with
  | [] => s
  | (mac, vid, p) :: ns =>
    let s := { s with sw := { s.sw with notices := ns } }
    match s.l2Find mac vid with
    | some x => if x.2.static then s
      else ((s.l2Set x.1 (some { x.2 with mask := BitVec.ofNat 8 (2 ^ p), age := 0 })))
    | none => (s.learn p mac vid)

/-- LEARN_DEFER_TIMEOUT (R302): the oldest insertion held back for 1 ms is dropped, or fails with L2_DEFERRED. -/
def execLearnDeferTimeout (s : State) : Host.Outcome State Fault Refusal := act s fun s =>
  match s.sw.heldIns with
  | [] => s
  | h :: hs =>
    let s := { s with sw := { s.sw with heldIns := hs } }
    match h.cmd with
    | some c => (s.owe c.1 c.2 .swL2Add .l2Deferred [])
    | none => (s.swCount h.port 15)

/-- Removes the entries that a test names, and raises the change counts of their blocks (R305, R309). -/
def Dev.l2Remove (s : Dev) (gone : L2 → Bool) : Dev :=
  let ps := s.sw.l2.filterMap fun x => match x.2 with | some e => if gone e then some x.1 else none | none => none
  ps.foldl (fun s p => s.l2Set p none) s

/-- L2_AGE_TICK (R301): one unit of AGE passes; a dynamic entry goes when its age reaches AGE_S rounded up to a whole
unit. -/
def execL2AgeTick (s : State) : Host.Outcome State Fault Refusal := act s fun s =>
  let lim := cdiv s.sw.ageS (ageUnit s.sw.ageS)
  let s := { s with sw := { s.sw with
    l2 := s.sw.l2.map fun (x : Nat × Option L2) => (x.1, x.2.map fun (e : L2) => { e with age := min (e.age + 1) 65535 }) } }
  (s.l2Remove fun e => !e.static && decide (lim ≤ e.age))

/-- A change of AGE_S: a change of AGE_SHIFT rescales every AGE, rounding down (R301). (DEDUCED: log entry 98.) -/
def Dev.setAge (s : Dev) (a : Nat) : Dev :=
  let u := ageUnit s.sw.ageS
  { s with sw := { s.sw with
    ageS := a
    l2 := s.sw.l2.map fun (x : Nat × Option L2) => (x.1, x.2.map fun (e : L2) => { e with age := min (e.age * u / ageUnit a) 65535 }) } }

/-! ### Walks (R302 to R304) -/

/-- An entry passes the filter of a walk. (DEDUCED: log entry 99.) -/
def Walk.matches (w : Walk) (e : L2) : Bool :=
  (match w.vid with | some v => e.vid == v | none => true)
    && (w.ports == 0 || w.ports &&& e.mask != 0)
    && (w.typ == 0 || (w.typ == 1 && !e.static) || (w.typ == 2 && e.static))

/-- An entry's 16 bytes (R297). -/
def l2Bytes (e : L2) (age : Nat) : List Byte :=
  beBytes 6 e.mac.toNat ++ leBytes 2 e.vid
    ++ leBytes 1 e.mask.toNat ++ leBytes 1 (1 + 2 * b2n e.static + 4 * b2n e.drop + 8 * b2n e.cpu) ++ leBytes 2 age
    ++ [0, 0, 0, 0]

/-- An entry as SW_L2_NEXT writes it: byte 12 bit 0 is CARRIED, bytes 14 and 15 the position. -/
def walkBytes (carried : Bool) (p : Nat) (e : L2) : List Byte :=
  (l2Bytes e e.age).take 12 ++ leBytes 1 (b2n carried) ++ [0] ++ leBytes 2 p

/-- Changes a walk. -/
def Dev.walkSet (s : Dev) (h : Nat) (w : Option Walk) : Dev :=
  { s with sw := { s.sw with walks := tset none s.sw.walks h w } }

/-- Fields of SW_L2_SEARCH. -/
def swL2SearchFields : List FieldRule := [fAny 0 0 12, fAny 0 12 1, fAny 0 13 8, fIn 0 21 2 0 2]

/-- SW_L2_SEARCH (R302, R304): opens a walk, of which at most 4 are open. -/
def swL2SearchRun (c : Cmd) (s : Dev) : Res :=
  match (List.range 4).find? fun h => (tget none s.sw.walks h).isNone with
  | none => refuse s .resourceBusy
  | some h =>
    let w : Walk := {
      vid := if argB c 0 12 then some (argF c 0 0 12) else none
      ports := BitVec.ofNat 8 (argF c 0 13 8), typ := argF c 0 21 2, used := s.tbs.mono }
    done (s.walkSet h (some w)) [word h]

/-- Fields of SW_L2_NEXT. -/
def swL2NextFields : List FieldRule := fAny 0 0 2 :: fWords 1 3

/-- SW_L2_NEXT (R302 to R304): the carried entries first, then those from the cursor on. -/
def swL2NextRun (c : Cmd) (s : Dev) : Res :=
  let h := argF c 0 0 2
  match tget none s.sw.walks h with
  | none => refuse s .swWalkClosed
  | some w =>
    let n := (arg c 3).toNat / 16
    let carry := w.carry.filter fun x => w.matches x.2
    let rest := s.sw.l2.filterMap fun x => match x.2 with
      | some e => if w.cursor ≤ x.1 ∧ w.matches e then some (x.1, e) else none
      | none => none
    let first := carry.take n
    let then' := rest.take (n - first.length)
    let closed := decide (carry.length ≤ n) && decide (rest.length ≤ n - first.length)
    let bs := (first.map fun x => walkBytes true x.1 x.2).flatten ++ (then'.map fun x => walkBytes false x.1 x.2).flatten
    let cur := match then'.getLast? with | some x => x.1 + 1 | none => w.cursor
    let s := s.toBuffer c.path (arg64 c 1) bs
    let s := if closed then s.walkSet h none
      else s.walkSet h (some { w with cursor := cur, carry := carry.drop n, used := s.tbs.mono })
    done s.retryHeld
      [word (first.length + then'.length + 2 ^ 16 * b2n closed + 2 ^ 17 * b2n w.moved), word s.sw.moveGen]

/-- WALK_IDLE_CLOSE (R304): a walk idle for 10 s closes. -/
def execWalkIdleClose (h : Fin 4) (s : State) : Host.Outcome State Fault Refusal := act s fun s =>
  match tget none s.sw.walks h with
  | some w => ((s.advanceMono (w.used + 10 * secU)).walkSet h none).retryHeld
  | none => s

/-! ### L2 commands and flushes (R299, R301, R305) -/

/-- Fields of SW_L2_ADD. -/
def swL2AddFields : List FieldRule :=
  [fWord 0, fAny 1 0 16, fIn 1 16 12 1 4094, fAny 2 0 8, fAny 2 8 1, fAny 2 9 1]

/-- SW_L2_ADD (R299, R301, R302): a present key becomes static; an absent one is inserted. -/
def swL2AddRun (c : Cmd) (s : Dev) : Res :=
  let e : L2 := {
    mac := argMac c 0, vid := argF c 1 16 12, mask := BitVec.ofNat 8 (argF c 2 0 8)
    static := true, drop := argB c 2 8, cpu := argB c 2 9 }
  match s.l2Find e.mac e.vid with
  | some x => done (s.l2Set x.1 (some e)) (s.addWords x.1)
  | none =>
    let r := s.l2Insert e
    match r.2 with
    | .put p => done r.1 (r.1.addWords p)
    | .full => ⟨some .l2Full, [], r.1⟩
    | .held => later' { s with sw := { s.sw with heldIns := s.sw.heldIns ++ [⟨e, 0, some (c.path, c.tag)⟩] } }

/-- Fields of SW_L2_DEL. -/
def swL2DelFields : List FieldRule := [fWord 0, fAny 1 0 16, fIn 1 16 12 1 4094]

/-- SW_L2_DEL (R299). -/
def swL2DelRun (c : Cmd) (s : Dev) : Res :=
  match s.l2Find (argMac c 0) (argF c 1 16 12) with
  | some x => done (s.l2Set x.1 none) []
  | none => refuse s .l2Absent

/-- Fields of SW_FLUSH_BY_PORT. -/
def swFlushByPortFields : List FieldRule := [fAny 0 0 3, fAny 0 3 1, fAny 0 4 12, fAny 0 16 1]

/-- SW_FLUSH_BY_PORT (R305): accepted, and completed by FLUSH_DONE. -/
def swFlushByPortRun (c : Cmd) (s : Dev) : Res :=
  let f : Flush := {
    port := argF c 0 0 3, static := argB c 0 3
    vid := if argB c 0 16 then some (argF c 0 4 12) else none, cmd := some (c.path, c.tag) }
  later' { s with sw := { s.sw with flushQ := s.sw.flushQ ++ [f] } }

/-- What a flush does to an entry: keeps it, changes it, or removes it. (DEDUCED: log entry 104.) -/
def Flush.act (f : Flush) (e : L2) : Option L2 :=
  let bit := BitVec.ofNat 8 (2 ^ f.port)
  if (match f.vid with | some v => e.vid != v | none => false) then some e
  else if !e.static then (if e.mask = bit then none else some e)
  else if f.static then
    (let m := e.mask &&& ~~~bit
     if m = 0 then none else some { e with mask := m })
  else some e

/-- FLUSH_DONE (R305): the oldest flush completes, counted at its port, and reports the entries removed.
(DEDUCED: log entry 104.) -/
def execFlushDone (s : State) : Host.Outcome State Fault Refusal := act s fun s =>
  match s.sw.flushQ with
  | [] => s
  | f :: fs =>
    let chg := s.sw.l2.filterMap fun x => match x.2 with
      | some e => if f.act e = some e then none else some (x.1, f.act e)
      | none => none
    let gone := (chg.filter fun x => x.2.isNone).length
    let s := chg.foldl (fun s x => s.l2Set x.1 x.2) { s with sw := { s.sw with flushQ := fs } }
    let s := s.eportMod f.port fun e => { e with flushes := min (e.flushes + 1) 0xFFFFFFFF }
    match f.cmd with
    | some c => (s.owe c.1 c.2 .swFlushByPort .success [sat32 gone])
    | none => s

/-! ### The LPM TCAM (R306, R307) -/

/-- A prefix matches an address. (DEDUCED: log entry 103.) -/
def prefixHit (pfx : Word) (plen : Nat) (a : Word) : Bool :=
  a.toNat / 2 ^ (32 - plen) == pfx.toNat / 2 ^ (32 - plen)

/-- The route a lookup returns: the lowest valid position that matches. -/
def Dev.lpm (s : Dev) (a : Word) (vid : Nat) : Option Route :=
  s.sw.tcam.find? fun r => (r.vid == 0 || r.vid == vid) && prefixHit r.pfx r.plen a

/-- Routes of one length, in position order. -/
def grp (l : List Route) (g : Nat) : List Route := l.filter fun r => r.plen == g

/-- The first entry of a group moved behind its last. -/
def rotUp : List Route → List Route
  | [] => []
  | r :: rs => rs ++ [r]

/-- The last entry of a group moved before its first. -/
def rotDown (l : List Route) : List Route :=
  match l.getLast? with
  | some r => r :: l.dropLast
  | none => []

/-- The number of routes of length g and more: the position just after that group. -/
def endOf (l : List Route) (g : Nat) : Nat := (l.filter fun r => decide (g ≤ r.plen)).length

/-- A write to each position, in order: the change counts of the blocks rise. -/
def Dev.tcWrites (s : Dev) (ps : List Nat) : Dev :=
  { s with sw := { s.sw with
    tcChg := ps.foldl (fun t p => tmod 0 t (p / 64) fun n => (n + 1) % 65536) s.sw.tcChg } }

/-- Inserts a route (R307). -/
def Dev.routeInsert (s : Dev) (r : Route) : Dev :=
  let l := s.sw.tcam
  let short := (List.range r.plen).filter fun g => !(grp l g).isEmpty
  let s := s.tcWrites ((short.flatMap fun g => [endOf l g, endOf l (g + 1)]) ++ [endOf l r.plen])
  { s with sw := { s.sw with
    tcam := l.filter (fun x => decide (r.plen ≤ x.plen)) ++ [r]
      ++ (List.range r.plen).reverse.flatMap fun g => rotUp (grp l g) } }

/-- Deletes the route at a position (R307). -/
def Dev.routeDelete (s : Dev) (i : Nat) (r : Route) : Dev :=
  let l := s.sw.tcam
  let g := grp l r.plen
  let at' := i - endOf l (r.plen + 1)
  let g' := match g.getLast? with
    | some z => if at' + 1 = g.length then g.dropLast else (g.set at' z).dropLast
    | none => []
  let short := ((List.range r.plen).filter fun n => !(grp l n).isEmpty).reverse
  let s := s.tcWrites ([i, i, endOf l r.plen - 1] ++ short.flatMap fun n => [endOf l (n + 1) - 1, endOf l n - 1])
  { s with sw := { s.sw with
    tcam := l.filter (fun x => decide (r.plen < x.plen)) ++ g'
      ++ (List.range r.plen).reverse.flatMap fun n => rotDown (grp l n) } }

/-- Where a route stands: same length, VID and prefix. -/
def Dev.routeFind (s : Dev) (pfx : Word) (plen vid : Nat) : Option Nat :=
  s.sw.tcam.findIdx? fun r => r.plen == plen && r.vid == vid && prefixHit r.pfx plen pfx

/-- Fields of SW_ROUTE_ADD and SW_ROUTE_DEL. -/
def swRouteFields : List FieldRule := [fWord 0, fIn 1 0 6 0 32, fIn 1 6 12 0 4094, fAny 1 18 10]

/-- SW_ROUTE_ADD (R306, R307). -/
def swRouteAddRun (c : Cmd) (s : Dev) : Res :=
  let r : Route := { pfx := arg c 0, plen := argF c 1 0 6, vid := argF c 1 6 12, nh := argF c 1 18 10 }
  if (tget none s.sw.nhs r.nh).isNone then refuse s .nhUnset
  else match s.routeFind r.pfx r.plen r.vid with
  | some i =>
    let s := s.tcWrites [i]
    done { s with sw := { s.sw with tcam := s.sw.tcam.modify i fun x => { x with nh := r.nh } } } []
  | none => if 4096 ≤ s.sw.tcam.length then refuse s .tcamFull else done (s.routeInsert r) []

/-- SW_ROUTE_DEL (R307): NH is ignored. -/
def swRouteDelRun (c : Cmd) (s : Dev) : Res :=
  match s.routeFind (arg c 0) (argF c 1 0 6) (argF c 1 6 12) with
  | some i =>
    (match s.sw.tcam[i]? with
     | some r => done (s.routeDelete i r) []
     | none => refuse s .routeAbsent)
  | none => refuse s .routeAbsent

/-- Fields of SW_NH_SET. -/
def swNhSetFields : List FieldRule := [fAny 0 0 10, fAny 0 10 3, fIn 0 13 12 1 4094, fWord 1, fAny 2 0 16]

/-- SW_NH_SET (R306). -/
def swNhSetRun (c : Cmd) (s : Dev) : Res :=
  done { s with sw := { s.sw with
    nhs := tset none s.sw.nhs (argF c 0 0 10)
      (some { port := argF c 0 10 3, vid := argF c 0 13 12, mac := argMac c 1 }) } } []

/-- Fields of SW_RIF_CFG. -/
def swRifCfgFields : List FieldRule := [fIn 0 0 12 1 4094, fAny 0 12 1, fWord 1, fAny 2 0 16]

/-- SW_RIF_CFG (R306): at most 16 router interfaces. -/
def swRifCfgRun (c : Cmd) (s : Dev) : Res :=
  let v := argF c 0 0 12
  if argB c 0 12 ∧ (tget none s.sw.rifs v).isNone ∧ 16 ≤ s.sw.rifs.length then refuse s .resourceBusy
  else done { s with sw := { s.sw with
    rifs := tset none s.sw.rifs v (if argB c 0 12 then some (argMac c 1) else none) } } []

/-! ### Digests (R308 to R310) -/

/-- The bytes of an L2 block, with AGE as it stands or as 0. -/
def Dev.l2Block (s : Dev) (b : Nat) (withAge : Bool) : List (List Byte) :=
  (List.range 64).map fun i => match s.l2At (64 * b + i) with
    | some e => l2Bytes e (if withAge then e.age else 0)
    | none => List.replicate 16 0

/-- A TCAM entry's 16 bytes (R308). -/
def tcBytes : Option Route → List Byte
  | some r => beBytes 4 r.pfx.toNat ++ leBytes 2 r.vid ++ leBytes 1 (r.plen + 128) ++ [0] ++ leBytes 2 r.nh
      ++ [0, 0, 0, 0, 0, 0]
  | none => List.replicate 16 0

/-- The entries of a TCAM block. -/
def Dev.tcBlock (s : Dev) (b : Nat) : List (List Byte) := (List.range 64).map fun i => tcBytes s.sw.tcam[64 * b + i]?

/-- The digest of a block (R308). -/
def Dev.digest (s : Dev) (tcam : Bool) (b : Nat) : Nat :=
  crc32c (if tcam then s.tcBlock b else s.l2Block b false).flatten

/-- The change count of a block. (DEDUCED: log entry 98.) -/
def Dev.chgOf (s : Dev) (tcam : Bool) (b : Nat) : Nat := tget 0 (if tcam then s.sw.tcChg else s.sw.l2Chg) b

/-- Digest, change count and 2 reserved bytes of a block. -/
def Dev.digestEntry (s : Dev) (tcam : Bool) (b : Nat) : List Byte :=
  leBytes 4 (s.digest tcam b) ++ leBytes 2 (s.chgOf tcam b) ++ [0, 0]

/-- A snapshot read whose response holds the bytes written alone. -/
def snapshot1 (c : Cmd) (s : Dev) (entries : List (List Byte)) : Res :=
  let bs := (wholeFit (arg c 3).toNat entries).flatten
  done (s.toBuffer c.path (arg64 c 1) bs) [word bs.length]

/-- Fields of SW_DIGEST_READ. -/
def swDigestReadFields : List FieldRule := fAny 0 0 1 :: fWords 1 3

/-- SW_DIGEST_READ (R310): 1,024 entries of the L2 table, or 64 of the TCAM. -/
def swDigestReadRun (c : Cmd) (s : Dev) : Res :=
  let t := argB c 0 0
  snapshot1 c s ((List.range (if t then 64 else 1024)).map (s.digestEntry t))

/-- Fields of SW_BLOCK_READ. -/
def swBlockReadFields : List FieldRule := fAny 0 0 1 :: fAny 0 1 10 :: fWords 1 3

/-- SW_BLOCK_READ (R310): a block's entries, then its digest and change count. -/
def swBlockReadRun (c : Cmd) (s : Dev) : Res :=
  let t := argB c 0 0
  let b := argF c 0 1 10
  if t ∧ 64 ≤ b then refuse s .reservedValue
  else snapshot1 c s ((if t then s.tcBlock b else s.l2Block b true) ++ [s.digestEntry t b])

/-- DIGEST_SWEEP (R309): the digest found for a block is compared with its stored one. On a mismatch static and TCAM entries
are reloaded from SUP's copy, and the block's dynamic entries are cleared. -/
def execDigestSweep (tcam : Bool) (block : Fin 1024) (found : Word) (s : State) : Host.Outcome State Fault Refusal := act s fun s =>
  if (tcam && decide (64 ≤ block.val)) || found == word (s.digest tcam block) then s
  else
    let s := { s with sw := { s.sw with digestErr := true } }.log (fwCode 1 0x0A 0x10)
      (leBytes 1 (b2n tcam) ++ [0] ++ leBytes 2 block)
    if tcam then s
    else ((List.range 64).foldl (fun s i =>
      match s.l2At (64 * block.val + i) with
      | some e => if e.static then s else s.l2Set (64 * block.val + i) none
      | none => s) s)

end Sys2Proof.Machine
end

