-- ==== Sys2Proof/Machine/Switch.lean ====
section
/-! DEFINITION. The forwarding path of the switch: classification, admission, queues, flow control, MACsec, PTP, and the
switch commands (10_switching_forwarding R291 to R296, R311 to R316, R321). -/
namespace Sys2Proof.Machine

/-! ### Ports (R291, R294) -/

/-- A port takes and sends frames: E0 to E5 enabled with their link up, HPF1 with its link up, SUP while the NET domain
runs (11 R333). (DEDUCED: log entry 104.) -/
def Dev.portUp (s : Dev) (p : Nat) : Bool :=
  let e := s.eport p
  if p = 7 then !s.blw.backup && !decide (s.blw.st = PwrSt.night) else if p = 6 then e.link else e.link && e.en

/-- The members of a VLAN; a VLAN that is not enabled has none. -/
def Dev.members (s : Dev) (vid : Nat) : BitVec 8 := if (s.vlan vid).en then (s.vlan vid).members else 0

/-- MAC address of the SUP port: 0x02, then DEVICE_ID[39:0] (14 R411). -/
def Dev.supMac (s : Dev) : BitVec 48 := BitVec.ofNat 48 (2 * 2 ^ 40 + s.gen.deviceId.toNat % 2 ^ 40)

/-- MACsec is enabled on a port: an SA is installed (R315). (DEDUCED: log entry 102.) -/
def EPort.macsec (e : EPort) : Bool := e.sas.any fun x => x.2.isSome

/-- The EtherType bypasses MACsec (R315): EAPOL, and PTP with PTP_BYPASS. -/
def EPort.bypass (e : EPort) (etherType : Nat) : Bool :=
  etherType == 0x888E || (etherType == 0x88F7 && e.ptpBypass)

/-- Frames that leave port p with this EtherType are protected. -/
def Dev.protects (s : Dev) (p etherType : Nat) : Bool :=
  decide (p < 2) && (s.eport p).macsec && !(s.eport p).bypass etherType

/-- The key of a MACsec SA stands in its vault slot (R315). -/
def Dev.saKey (s : Dev) (a : Sa) : Bool := (s.kslot a.slot).full && (s.kslot a.slot).dest.getLsbD 1

/-- Validates a received frame (R315): the SA of its SCI and association number, a verified ICV, and a PN not below the
lowest acceptable one, which with replay window 0 then follows it. -/
def Dev.secValidate (s : Dev) (p : Nat) (t : SecTag) : Option Dev :=
  if p < 2 ∧ t.an < 2 then
    ((List.range 4).findSome? fun sc =>
      let k := 8 + 2 * sc + t.an
      match tget none (s.eport p).sas k with
      | some a =>
        if a.sci = t.sci ∧ t.icvOk ∧ a.pn ≤ t.pn ∧ s.saKey a then
          some (s.eportMod p fun e => { e with sas := tset none e.sas k (some { a with pn := t.pn + 1 }) })
        else none
      | none => none)
  else none

/-! ### Buffer admission (R311 to R314) -/

/-- A priority of an ingress port is lossless (R314). -/
def EPort.lossless (e : EPort) (prio : Nat) : Bool := e.fc == 1 || (e.fc == 2 && e.pfcMask.getLsbD prio)

/-- Lossless priorities of a port. -/
def EPort.losslessN (e : EPort) : Nat := ((List.range 8).filter e.lossless).length

/-- A port begins or ends to hold back NET frames for its lookup FIFO (R317): with PAUSE or PFC, XOFF goes out on every
priority; XON follows on those whose held cells do not call for XOFF (R314). (DEDUCED: log entry 136.) -/
def EPort.laneSet (e : EPort) (hold : Bool) : EPort :=
  if e.laneHold = hold then e
  else if e.fc = 0 then { e with laneHold := hold }
  else { e with
    laneHold := hold
    xoff := if hold then 0xFF else (List.range 8).foldl (fun m k =>
      if e.lossless k && decide (e.xonCells < tget 0 e.held k) then m ||| BitVec.ofNat 8 (2 ^ k) else m) 0
    xoffSent := if hold then min (e.xoffSent + 1) 0xFFFFFFFF else e.xoffSent }

/-- Cells of the shared pool, from the headrooms and flow-control modes of the ports (R311). -/
def sharedCells (ports : List EPort) : Nat :=
  32768 - 512 - (ports.map fun e => e.headroom * e.losslessN).sum

/-- The eight ports. -/
def Dev.eports (s : Dev) : List EPort := (List.range 8).map s.eport

/-- Cells drawn from the FLEET reserve, the headroom and the shared pool, or the drop reason (R313, R314): a frame that
arrives at XOFF_CELLS or above draws on its headroom. -/
def Dev.cellsFor (s : Dev) (src prio need : Nat) (fleet : Bool) : Except Nat (Nat × Nat × Nat) :=
  let e := s.eport src
  let f := if fleet then min need (512 - s.sw.fleetUsed) else 0
  let r := need - f
  let head := e.headroom - tget 0 e.headUsed prio
  let free := sharedCells s.eports - s.sw.sharedUsed
  if e.lossless prio ∧ e.xoffCells ≤ tget 0 e.held prio then
    (if r ≤ head then .ok (f, r, 0) else .error 11)
  else if r ≤ free then .ok (f, 0, r)
  else if e.lossless prio then
    (if r - free ≤ head then .ok (f, r - free, free) else .error 11)
  else .error 9

/-- Cells in an egress queue. -/
def queueCells (q : List QFrame) : Nat := (q.map QFrame.cells).sum

/-- A frame enters an egress queue of a port, its cells taken; XOFF goes out when its priority reaches XOFF_CELLS. -/
def Dev.enqueue (s : Dev) (out q : Nat) (f : QFrame) : Dev :=
  let s := s.eportMod out fun e => { e with queues := tmod [] e.queues q fun l => l ++ [f] }
  let s := { s with sw := { s.sw with
    fleetUsed := s.sw.fleetUsed + f.fromFleet, sharedUsed := s.sw.sharedUsed + f.fromShared } }
  s.eportMod f.src fun e =>
    let held := tget 0 e.held f.prio + f.cells
    let raise : Bool := e.lossless f.prio && decide (e.xoffCells ≤ held) && !e.xoff.getLsbD f.prio
    { e with
      held := tset 0 e.held f.prio held
      headUsed := tmod 0 e.headUsed f.prio (· + f.fromHead)
      xoff := if raise then e.xoff ||| BitVec.ofNat 8 (2 ^ f.prio) else e.xoff
      xoffSent := if raise then min (e.xoffSent + 1) 0xFFFFFFFF else e.xoffSent }

/-- The cells of a frame return; XON goes out when its priority falls to XON_CELLS. -/
def Dev.release (s : Dev) (f : QFrame) : Dev :=
  let s := { s with sw := { s.sw with
    fleetUsed := s.sw.fleetUsed - f.fromFleet, sharedUsed := s.sw.sharedUsed - f.fromShared } }
  s.eportMod f.src fun e =>
    let held := tget 0 e.held f.prio - f.cells
    { e with
      held := tset 0 e.held f.prio held
      headUsed := tmod 0 e.headUsed f.prio (· - f.fromHead)
      xoff := if held ≤ e.xonCells ∧ e.laneHold = false then e.xoff &&& ~~~(BitVec.ofNat 8 (2 ^ f.prio)) else e.xoff }

/-- Admits a frame to an egress queue of one port, or counts its drop (R313); the flag tells that it entered. A FLEET frame
that finds neither the reserve nor the shared pool is handled as NET (R296). -/
def Dev.admitFrame (s : Dev) (out q : Nat) (f : QFrame) : Dev × Bool :=
  let lossless := (s.eport f.src).lossless f.prio
  let q' (fleet : Bool) := if out = 7 ∧ fleet then 8 else q
  let dropped (s : Dev) : Dev :=
    if out = 6 then s.nqMod (8 + q) fun n => { n with drops := min (n.drops + 1) 65535 } else s
  let put (s : Dev) (fleet : Bool) : Dev × Bool × Bool :=
    if !lossless && decide ((s.eport out).qlimit ≤ queueCells (tget [] (s.eport out).queues (q' fleet))) then
      (dropped (s.swCount f.src 8), false, false)
    else match s.cellsFor f.src f.prio f.cells fleet with
    | .ok (a, b, c) =>
      (s.enqueue out (q' fleet) { f with fromFleet := a, fromHead := b, fromShared := c, fleet := fleet }, true, false)
    | .error n => if fleet then (s.swCount f.src 20, false, true) else (dropped (s.swCount f.src n), false, false)
  let r := put s f.fleet
  if r.2.2 then (let r := put r.1 false; (r.1, r.2.1)) else (r.1, r.2.1)

/-! ### Classification (R294) -/

/-- The egress queue of a frame at a port (R312). -/
def Dev.queueOf (s : Dev) (src out pcp : Nat) (f : EthFrame) : Nat :=
  if f.ptp.isSome then 7
  else match f.prioOvr with
  | some q => q % 8
  | none =>
    match f.ip with
    | some h =>
      if (s.eport src).trustDscp then (tget none s.sw.dscp (h.dscp % 64)).getD (h.dscp % 64 / 8)
      else (s.eport out).pcpMap.getD pcp 0
    | none => (s.eport out).pcpMap.getD pcp 0

/-- The ports of a mask, in order. -/
def maskPorts (m : BitVec 8) : List Nat := (List.range 8).filter fun p => m.getLsbD p

/-- The ingress timestamp of a port, corrected for the external PHY and the link asymmetry (R316). -/
def Dev.rxStamp (s : Dev) (p : Nat) : Nat :=
  ((s.tbs.time : Int) - (s.eport p).extRx * nsU - (s.eport p).asym * nsU / 1000).toNat

/-- What a frame carries through classification. -/
structure Ingress where
  src : Nat
  vid : Nat
  pcp : Nat
  fleet : Bool
  secured : Bool
  ring : Option Nat
  frame : EthFrame

/-- A frame goes to the ports of a mask (R294 steps 8 and 9): without the ingress port, non-members of the VID and ports
whose link is down. The ports it entered are returned, rising. (PRESUMED: log entry 100.) -/
def Dev.forward (s : Dev) (g : Ingress) (vid : Nat) (mask : BitVec 8) (f : EthFrame) : Dev × List Nat :=
  let outs := (maskPorts (mask &&& s.members vid)).filter fun p => p != g.src && s.portUp p
  if outs.isEmpty then (s.swCount g.src 7, [])
  else
    let rx := s.rxStamp g.src
    outs.foldl (fun acc out =>
      let r := acc.1.admitFrame out (acc.1.queueOf g.src out g.pcp f) {
        cells := cdiv f.len 256, src := g.src, prio := g.pcp, fromFleet := 0, fromHead := 0, fromShared := 0
        fleet := g.fleet, secured := g.secured, rxTs := rx, came := s.tbs.time, tsRing := g.ring
        frame := { f with tag := some (vid, g.pcp) } }
      (r.1, if r.2 then acc.2 ++ [out] else acc.2)) (s, [])

/-- A frame goes to SUP alone, whatever the VLANs (R294 steps 3 and 6). (DEDUCED: log entry 101.) -/
def Dev.toSup (s : Dev) (g : Ingress) : Dev × List Nat :=
  if g.src = 7 ∨ !s.portUp 7 then (s.swCount g.src 7, [])
  else
    let r := s.admitFrame 7 (s.queueOf g.src 7 g.pcp g.frame) {
      cells := cdiv g.frame.len 256, src := g.src, prio := g.pcp, fromFleet := 0, fromHead := 0, fromShared := 0
      fleet := false, secured := g.secured, rxTs := s.rxStamp g.src, came := s.tbs.time, tsRing := g.ring
      frame := { g.frame with tag := some (g.vid, g.pcp) } }
    (r.1, if r.2 then [7] else [])

/-- The source lookup and learning (R300): an absent source is learned, within MAX_LEARN; a dynamic one seen on another
port moves; a static one on another port is counted. (DEDUCED: log entry 101.) -/
def Dev.learnStep (s : Dev) (src vid : Nat) (sa : BitVec 48) : Dev :=
  let e := s.eport src
  if e.learn && (s.vlan vid).learn then
    match s.l2Find sa vid with
    | some x =>
      if x.2.mask.getLsbD src then s.l2Touch x.1 x.2
      else if x.2.static then s.swCount src 16
      else s.l2Set x.1 (some { x.2 with mask := BitVec.ofNat 8 (2 ^ src), age := 0 })
    | none =>
      if e.maxLearn ≠ 0 ∧ e.maxLearn ≤ s.learned src then s.swCount src 14
      else if s.full then s.learn src sa vid
      else if 1024 ≤ s.sw.notices.length then s.swCount src 13
      else { s with sw := { s.sw with notices := s.sw.notices ++ [(sa, vid, src)] } }
  else s

/-- The IPv4 header at the start of these bytes with its TTL one lower: byte 8 falls by one, and the ones' complement sum of
the header in bytes 10 and 11 rises by 0x0100 (PRESUMED, log entry 100: as IP routing does). -/
def ttlDown (b : List Byte) : List Byte :=
  match b.drop 8 with
  | t :: p :: c :: d :: rest =>
    let k := 256 * c.toNat + d.toNat + 0x100
    let k := if k ≤ 0xFFFF then k else k - 0xFFFF
    b.take 8 ++ [t - 1, p, BitVec.ofNat 8 (k / 256), BitVec.ofNat 8 k] ++ rest
  | _ => b

/-- Steps 6 to 9 of R294: routing at a router interface, or the L2 destination lookup. (PRESUMED: log entry 100.) -/
def Dev.route (s : Dev) (g : Ingress) : Dev × List Nat :=
  let f := g.frame
  match f.ip, decide (tget none s.sw.rifs g.vid = some f.da) with
  | some h, true =>
    if h.ttl ≤ 1 then s.toSup g
    else match (s.lpm h.dst g.vid).bind fun r => tget none s.sw.nhs r.nh with
    | some n =>
      let f := { f with
        da := n.mac, sa := (tget none s.sw.rifs n.vid).getD f.sa, ip := some { h with ttl := h.ttl - 1 }
        body := ttlDown f.body }
      s.forward { g with vid := n.vid } n.vid (BitVec.ofNat 8 (2 ^ n.port)) f
    | none => (s.swCount g.src 6, [])
  | _, _ =>
    match s.l2Find f.da g.vid with
    | some x =>
      if x.2.drop then (s.swCount g.src 7, [])
      else s.forward g g.vid (if x.2.cpu then x.2.mask ||| 0x80 else x.2.mask) f
    | none => s.forward g g.vid (s.members g.vid) f

/-- The policer of a port's FLEET lane: 20,000 frames in each second (R296). -/
def Dev.police (s : Dev) (p : Nat) : Dev × Bool :=
  let sec := s.tbs.mono / secU
  let n := if (s.eport p).fleetSec.1 = sec then (s.eport p).fleetSec.2 else 0
  if n < 20000 then (s.eportMod p fun e => { e with fleetSec := (sec, n + 1) }, true) else (s, false)

/-- A frame arrives at the lookup FIFO of a port E0 to E5 (R317): from 192 waiting NET frames on, a port with PAUSE or PFC
sends XOFF on every priority, and another drops NET frames until 64 wait; the flag tells that the frame is dropped. A FLEET
frame has a lane of its own (R296). (DEDUCED: log entry 136.) -/
def Dev.laneArrive (s : Dev) (p vid : Nat) (f : EthFrame) : Dev × Bool :=
  let fleet := decide (p < 2) && f.macsec.isSome && decide (vid = s.sw.mgmtVid) && decide (f.da = s.supMac) && (s.police p).2
  if 6 ≤ p ∨ fleet = true then (s, false)
  else
    let e := s.eport p
    let hold := decide (192 ≤ f.lane) || (e.fc == 0 && e.laneHold && decide (64 < f.lane))
    (s.eportMod p fun e => e.laneSet hold, hold && e.fc == 0)

/-- No lookup FIFO holds frames back any more (R317, R319). (DEDUCED: log entry 136.) -/
def Dev.laneClear (s : Dev) : Dev :=
  (List.range 6).foldl (fun s p => if (s.eport p).laneHold then s.eportMod p fun e => e.laneSet false else s) s

/-- The classification of a frame that arrives at a port (R294); the ports whose queues it entered are returned.
(DEDUCED: log entry 101.) -/
def Dev.classify (s : Dev) (p : Nat) (ring : Option Nat) (f : EthFrame) : Dev × List Nat :=
  let s := s.eportMod p fun e => { e with rx := min (e.rx + 1) 0xFFFFFFFF }
  let e := s.eport p
  if f.len < 64 then (s.swCount p 0, [])
  else if e.maxFrame < f.len then (s.swCount p 1, [])
  else if !f.fcsOk then (s.swCount p 2, [])
  else match f.pause with
  | some (m, quanta) =>
    let m := BitVec.ofNat 8 m
    (s.eportMod p fun e => { e with stopped := if quanta = 0 then e.stopped &&& ~~~m else e.stopped ||| m }, [])
  | none =>
    let vid := match f.tag with | some t => if t.1 = 0 then e.pvid else t.1 | none => e.pvid
    let l := s.laneArrive p vid f
    if l.2 then (l.1.swCount p 10, [])
    else
    let s := l.1
    let v : Option Dev :=
      match f.macsec with
      | some t => s.secValidate p t
      | none => if s.protects p f.etherType then none else some s
    match v with
    | none => (s.swCount p 3, [])
    | some s =>
      let pcp := (match f.tag with | some t => t.2 | none => 0) % 8
      let g : Ingress := ⟨p, vid, pcp, false, f.macsec.isSome, ring, f⟩
      if f.da.toNat / 16 = 0x0180C200000 then s.toSup g
      else if 4095 ≤ vid ∨ !(s.members vid).getLsbD p then (s.swCount p 4, [])
      else
        let dropped : Bool := match s.l2Find f.sa vid with | some x => x.2.static && x.2.drop | none => false
        if dropped then (s.swCount p 5, [])
        else
          let s := s.learnStep p vid f.sa
          if p < 2 ∧ f.macsec.isSome ∧ vid = s.sw.mgmtVid ∧ f.da = s.supMac then
            (let r := s.police p; r.1.route { g with fleet := r.2 })
          else s.route g

/-- ETH_FRAME_RECEIVE (R294): a frame at a port that is up is classified. HPF1 and SUP give theirs by their rings. -/
def execEthFrameReceive (p : Fin 8) (f : EthFrame) (s : State) : Host.Outcome State Fault Refusal := act s fun s =>
  if s.portUp p then (s.classify p none f).1 else s

/-! ### Egress (R312, R314 to R316) -/

/-- Deficit round robin over queues 5 to 0 (R312), in cells: the queue that sends next. (DEDUCED: log entry 103.) -/
def EPort.drr : Nat → EPort → Option (Nat × EPort)
  | 0, _ => none
  | n + 1, e =>
    let step (e : EPort) : EPort :=
      let t := if e.turn = 0 then 5 else e.turn - 1
      { e with turn := t, deficits := tmod 0 e.deficits t (· + e.weights.getD t 16) }
    match tget [] e.queues e.turn with
    | f :: _ =>
      if e.stopped.getLsbD e.turn then EPort.drr n (step e)
      else if f.cells ≤ tget 0 e.deficits e.turn then
        some (e.turn, { e with deficits := tmod 0 e.deficits e.turn (· - f.cells) })
      else EPort.drr n (step e)
    | [] => EPort.drr n (step { e with deficits := tset 0 e.deficits e.turn 0 })

/-- The queue that a port serves next (R312): the FLEET queue, 7, 6, then the others by deficit round robin. -/
def EPort.nextQueue (e : EPort) : Option (Nat × EPort) :=
  match [8, 7, 6].find? fun q => !(tget [] e.queues q).isEmpty && (q == 8 || !e.stopped.getLsbD q) with
  | some q => some (q, e)
  | none => e.drr 64

/-- The SA under which a port transmits now (R315): installed, its key in the vault, its PN space not exhausted.
(DEDUCED: log entry 102.) -/
def Dev.txSa (s : Dev) (p : Nat) : Option Sa :=
  let e := s.eport p
  match tget none e.sas e.txAn with
  | some a => if a.exhausted || !s.saKey a then none else some a
  | none => none

/-- A protected frame takes the next PN; an SA that has used PN 0xFFFF_FFFF stops, counted PN_EXHAUSTED (R315).
(DEDUCED: log entry 102.) -/
def Dev.usePn (s : Dev) (p : Nat) : Dev :=
  match s.txSa p with
  | some a =>
    let out := decide (0xFFFFFFFF ≤ a.pn)
    let s := s.eportMod p fun e => { e with sas := tset none e.sas e.txAn (some { a with pn := a.pn + 1, exhausted := out }) }
    if out then s.swCount p 17 else s
  | none => s

/-- The ordering domain of a frame to SUP (11 R324). -/
def supDomain (f : QFrame) : Nat :=
  if f.fleet then 264 + f.src
  else
    let vid := match f.frame.tag with | some t => t.1 | none => 0
    1024 + crc32c (match f.frame.ip with
      | some h =>
        if h.proto = 6 ∨ h.proto = 17 then
          beBytes 4 h.src.toNat ++ beBytes 4 h.dst.toNat ++ beBytes 1 h.proto ++ beBytes 2 h.sport ++ beBytes 2 h.dport
        else beBytes 6 f.frame.sa.toNat ++ leBytes 2 vid
      | none => beBytes 6 f.frame.sa.toNat ++ leBytes 2 vid) % 1024

/-- A frame to SUP is offered to the scheduler (11 R326, R327): none when it is held at its source. -/
def Dev.supOffer (s : Dev) (f : QFrame) : Dev × Bool :=
  let e : Ent := { cls := if f.fleet then 1 else 3, domain := supDomain f, source := 1, pool := 3, order := 0, at_ := 0 }
  let busy := (s.ents.filter fun x => x.2.domain == e.domain).length
  let held := (decide (e.domain = 264 ∨ e.domain = 265) && decide (32 ≤ busy)) || (s.poolFor e.cls false).isNone
  (s.offer e, !held)

/-- A port sends the next frame of its queues, if the frame may go now; the frame is returned (R312, R314 to R316). -/
def Dev.sendNext (s : Dev) (p : Nat) : Dev × Option QFrame :=
  if !s.portUp p then (s, none)
  else match (s.eport p).nextQueue with
  | none => (s, none)
  | some (q, e) =>
    match tget [] e.queues q with
    | [] => (s, none)
    | f :: fs =>
      let prot := s.protects p f.frame.etherType
      let r : Dev × Bool := if p = 7 then s.supOffer f else (s, !prot || (s.txSa p).isSome)
      if !r.2 then (r.1, none)
      else
        let s := r.1.eportMod p fun _ => { e with queues := tset [] e.queues q fs }
        let s := s.release f
        let s := if prot then s.usePn p else s
        let origin := f.frame.oneStep && decide (6 ≤ f.src) && f.frame.ptp == some 0
        let tc := (s.eport p).tc && f.frame.ptp.isSome && decide (f.src < 6)
        let s := if prot && (origin || tc) then s.swCount p 18 else s
        let ts := s.tbs.time + (s.eport p).extTx * nsU
        let vid := match f.frame.tag with | some t => t.1 | none => 0
        let left := if (s.vlan vid).untag.getLsbD p ∧ p < 6 then { f.frame with tag := none } else f.frame
        (s.eportMod p fun e => { e with
          tx := min (e.tx + 1) 0xFFFFFFFF
          txTs := if f.frame.ptp.isSome then stamp80 ts else e.txTs
          out := some left
          outCorr := if tc && !prot then (s.tbs.time - f.came) / 2 ^ 16 else 0
          outOrigin := origin && !prot }, some f)

/-- Drops every frame queued for a port, each counted LINK_DOWN at its ingress port (R305). -/
def Dev.dropQueues (s : Dev) (p : Nat) : Dev :=
  let fs := (s.eport p).queues.flatMap Prod.snd
  let s := s.eportMod p fun e => { e with queues := [] }
  fs.foldl (fun s f => (s.release f).swCount f.src 12) s

/-- The effects of a link that goes down (R292, R305). -/
def Dev.portDown (s : Dev) (p : Nat) : Dev :=
  let e := s.eport p
  let s := s.eportMod p fun e => { e.laneSet false with link := false, fellBack := false, stopped := 0 }
  let s := s.dropQueues p
  if e.link && e.autoFlush then
    { s with sw := { s.sw with flushQ := s.sw.flushQ ++ [{ port := p, static := false, vid := none, cmd := none }] } }
  else s

/-- LINK_DOWN (R305). -/
def execLinkDown (p : Fin 8) (s : State) : Host.Outcome State Fault Refusal := act s fun s =>
  (s.portDown p)

/-- LINK_UP (R292): the link of an enabled port E0 to E5 comes up; a 10GBASE-R port that has fallen back, and the
1000BASE-X mode, run at 1 Gbit/s. -/
def execLinkUp (p : Fin 8) (speed : Fin 4) (s : State) : Host.Outcome State Fault Refusal := act s fun s =>
  if 6 ≤ p.val ∨ !(s.eport p).en ∨ s.blw.st = PwrSt.night ∨ s.blw.backup then s
  else (s.eportMod p fun e => { e with
    link := true
    speed := if p.val < 2 then (if e.mode = 0 ∧ !e.fellBack then 3 else 1) else if e.mode = 3 then 2 else speed.val % 2 })

/-- AUTO_FALLBACK (R292): no block lock within 500 ms of signal detect. -/
def execAutoFallback (p : Fin 2) (s : State) : Host.Outcome State Fault Refusal := act s fun s =>
  (s.eportMod p fun e => if e.en && e.fallback && e.mode == 0 && !e.link then { e with fellBack := true } else e)

/-- XOFF_REFRESH (R314): a standing XOFF is sent again. (DEDUCED: log entry 103.) -/
def execXoffRefresh (p prio : Fin 8) (s : State) : Host.Outcome State Fault Refusal := act s fun s =>
  (s.eportMod p fun e =>
    if e.xoff.getLsbD prio then { e with xoffSent := min (e.xoffSent + 1) 0xFFFFFFFF } else e)

/-- PAUSE_QUANTA_EXPIRY (R314): an egress queue resumes. (DEDUCED: log entry 103.) -/
def execPauseQuantaExpiry (p prio : Fin 8) (s : State) : Host.Outcome State Fault Refusal := act s fun s =>
  (s.eportMod p fun e => { e with stopped := e.stopped &&& ~~~(BitVec.ofNat 8 (2 ^ prio.val)) })

/-! ### Port, VLAN and queue commands (R321, 14) -/

/-- Fields of SW_PORT_CFG. -/
def swPortCfgFields : List FieldRule :=
  [fIn 0 0 3 0 5, fAny 0 3 2, fAny 0 5 1, fIn 0 6 2 0 2, fAny 0 8 8, fAny 0 16 5, fIn 0 21 11 0 526, fIn 1 0 12 1 4094,
   fIn 1 12 20 0 65536, fWord 2, fWord 3]

/-- The configuration that SW_PORT_CFG writes. -/
def portCfg (c : Cmd) (e : EPort) : EPort := { e with
  mode := argF c 0 3 2, fallback := argB c 0 5, fc := argF c 0 6 2, pfcMask := BitVec.ofNat 8 (argF c 0 8 8)
  learn := argB c 0 16, autoFlush := argB c 0 17, trustDscp := argB c 0 18, tc := argB c 0 19, ptpBypass := argB c 0 20
  maxFrame := 1522 + argF c 0 21 11, pvid := argF c 1 0 12, maxLearn := argF c 1 12 20
  extTx := argF c 2 0 16, extRx := argF c 2 16 16, asym := argI c 3 }

/-- SW_PORT_CFG (R292): E0 and E1 take modes 0 and 1, E2 to E5 modes 2 and 3. A repeat of the values in force succeeds on an
enabled port (01 R39). -/
def swPortCfgRun (c : Cmd) (s : Dev) : Res :=
  let p := argF c 0 0 3
  let e := s.eport p
  let new := portCfg c e
  if (p < 2) ≠ (new.mode < 2) then refuse s .reservedValue
  else if new = e then done s []
  else if e.en then refuse s .notHalted
  else done (s.eportMod p fun _ => new) []

/-- Fields of SW_PORT_EN. -/
def swPortEnFields : List FieldRule := [fIn 0 0 3 0 5, fAny 0 3 1]

/-- SW_PORT_EN (R321): a disabled port's link is down. -/
def swPortEnRun (c : Cmd) (s : Dev) : Res :=
  let p := argF c 0 0 3
  if argB c 0 3 then done (s.eportMod p fun e => { e with en := true }) []
  else done ((s.portDown p).eportMod p fun e => { e with en := false }) []

/-- Fields of SW_GLOBAL_CFG. -/
def swGlobalCfgFields : List FieldRule := [fIn 0 0 12 1 4094, fIn 0 12 20 10 1000000]

/-- SW_GLOBAL_CFG (R301). -/
def swGlobalCfgRun (c : Cmd) (s : Dev) : Res :=
  done ({ s with sw := { s.sw with mgmtVid := argF c 0 0 12 } }.setAge (argF c 0 12 20)) []

/-- Fields of SW_VLAN_CFG. -/
def swVlanCfgFields : List FieldRule := [fIn 0 0 12 1 4094, fAny 0 12 2, fAny 0 16 8, fAny 1 0 8]

/-- SW_VLAN_CFG (R294). -/
def swVlanCfgRun (c : Cmd) (s : Dev) : Res :=
  done (s.vlanMod (argF c 0 0 12) fun _ => {
    en := argB c 0 12, learn := argB c 0 13
    members := BitVec.ofNat 8 (argF c 0 16 8), untag := BitVec.ofNat 8 (argF c 1 0 8) }) []

/-- Fields of SW_QOS_CFG, by bit 31 of word 0. -/
def swQosCfgFields (c : Cmd) : List FieldRule :=
  if argB c 0 31 then [fAny 0 4 2, fAny 0 31 1, fAny 1 0 24, fAny 2 0 24]
  else [fAny 0 0 27, fAny 0 31 1, fIn 1 0 7 1 127, fIn 1 7 7 1 127, fIn 1 14 7 1 127, fIn 1 21 7 1 127,
    fIn 2 0 7 1 127, fIn 2 7 7 1 127, fIn 2 16 14 16 8192, fAny 3 0 14, fAny 3 16 14, fAny 4 0 14]

/-- SW_QOS_CFG (R311, R312): the reserves and headrooms leave at least 8,192 shared cells. -/
def swQosCfgRun (c : Cmd) (s : Dev) : Res :=
  if argB c 0 31 then
    let b := argF c 0 4 2
    done { s with sw := { s.sw with
      dscp := (List.range 16).foldl (fun t i =>
        let d := 16 * b + i
        let q := argF c (1 + i / 8) (3 * (i % 8)) 3
        tset none t d (if q = d / 8 then none else some q)) s.sw.dscp } } []
  else
    let p := argF c 0 0 3
    let new : EPort := { s.eport p with
      pcpMap := (List.range 8).map fun i => argF c 0 (3 + 3 * i) 3
      weights := (List.range 6).map fun i => argF c (1 + i / 4) (7 * (i % 4)) 7
      qlimit := argF c 2 16 14, headroom := argF c 3 0 14, xoffCells := argF c 3 16 14, xonCells := argF c 4 0 14 }
    if new.xoffCells ≤ new.xonCells then refuse s .reservedValue
    else
      let t := s.eportMod p fun _ => new
      if sharedCells t.eports < 8192 then refuse s .swBuffer else done t []

/-- Fields of SW_MACSEC_SA. -/
def swMacsecSaFields : List FieldRule := [fAny 0 0 14, fWord 1, fWord 2, fWord 3]

/-- SW_MACSEC_SA (R315): installs or removes an SA; the newest transmit SA transmits. -/
def swMacsecSaRun (c : Cmd) (s : Dev) : Res :=
  let p := argF c 0 0 3
  let slot := argF c 0 8 6
  let key := if argB c 0 3 then 8 + 2 * argF c 0 4 2 + argF c 0 6 1 else argF c 0 6 1
  if 2 ≤ p then refuse s .notFitted
  else if !argB c 0 7 then done (s.eportMod p fun e => { e with sas := tset none e.sas key none }) []
  else if !(s.kslot slot).dest.getLsbD 1 then refuse s .keyDest
  else done (s.eportMod p fun e => { e with
    sas := tset none e.sas key (some { sci := BitVec.ofNat 64 (arg64 c 1), slot := slot, pn := (arg c 3).toNat })
    txAn := if argB c 0 3 then e.txAn else argF c 0 6 1 }) []

/-- Fields of SW_STATUS. -/
def swStatusFields : List FieldRule := [fAny 0 0 3, fAny 0 8 2]

/-- SW_STATUS (14): a read of page 0 clears DIGEST_ERR. The device-wide counts read the same on every port. -/
def swStatusRun (c : Cmd) (s : Dev) : Res :=
  let p := argF c 0 0 3
  let e := s.eport p
  let cnt (n : Nat) := sat32 (tget 0 e.counts n)
  let page := argF c 0 8 2
  if page = 0 then
    done { s with sw := { s.sw with digestErr := false } }
      [word (b2n (s.portUp p) + 2 * e.speed + 8 * b2n s.sw.digestErr), sat32 e.rx, sat32 e.tx, word s.sw.moveGen,
       sat32 s.sw.l2.length, sat32 s.sw.tcam.length, sat32 e.flushes, sat32 e.xoffSent]
  else if page = 1 then done s ((List.range 8).map cnt)
  else if page = 2 then done s ((List.range 8).map fun n => cnt (8 + n))
  else done s [cnt 16, cnt 17, cnt 18, sat32 s.sw.l2Full, cnt 20, 0, 0, 0]

end Sys2Proof.Machine
end

