-- ==== Sys2Proof/Machine/Bellows.lean ====
section
/-! DEFINITION. Bellows: power states, wakes, voltages, budget windows, throttle levels, CRITICAL and heat, and the
scheduler and power commands (11_scheduler_bellows R333 to R353). -/
namespace Sys2Proof.Machine

/-! ### Registers (BLW_STATUS, BLW_WINDOW) -/

/-- STATE code. -/
def pwrCode : PwrSt → Nat
  | .run => 0 | .doze => 1 | .night => 2

/-- BLW_STATUS. -/
def Dev.blwStatus (s : Dev) : Word :=
  let b := s.blw
  word (pwrCode b.st + 4 * b2n b.change.isSome + 8 * b.level + 32 * b2n b.critical + 64 * b2n b.graceOver
    + 128 * b2n b.heatWarn + 256 * b2n (b.h < b.b) + 512 * b2n b.stale + 1024 * b2n b.pfw + 2 ^ 16 * (b.soc % 128)
    + 2 ^ 24 * low 8 b.tj)

/-- BLW_WINDOW. -/
def Dev.blwWindow (s : Dev) : List Word :=
  let b := s.blw
  let f (n : Nat) := min n 65535
  [word (f b.e + 2 ^ 16 * f b.beff), word (f b.b + 2 ^ 16 * f b.h)]

/-- GEN_IRQ_STATUS.BELLOWS: LEVEL, CRITICAL, PFW or HEAT_WARN differs from an earlier state (12 R359). -/
def Dev.blwIrq (s old : Dev) : Dev :=
  s.irqIf 2 (s.blw.level != old.blw.level || s.blw.critical != old.blw.critical || s.blw.pfw != old.blw.pfw
    || s.blw.heatWarn != old.blw.heatWarn)

/-! ### Domains (R333 to R335) -/

/-- Condition of a domain, in the order of GEN_RATEn, in each state (R333). In NIGHT the PCIe edge and the register windows
of MEM run. (DEDUCED: log entry 105.) -/
def domState (st : PwrSt) (d : Nat) : PState :=
  match st with
  | .run => .running
  | .doze => if (5 ≤ d ∧ d ≤ 7) ∨ d = 9 then .retained else .running
  | .night => if d = 0 ∨ d = 11 then .running else if d = 10 then .off else .retained

/-- Domain d takes a condition (01 R18): RATIO reads 0 while it does not run, and 0x1000 for AON and SAFE while they do. -/
def Dev.setDom (s : Dev) (d : Nat) (st : PState) : Dev :=
  s.rateMonMod d fun m =>
    if m.pstate = st then m
    else { m with
      pstate := st, valid := false
      ratio := if st ≠ .running then 0 else if d ≤ 1 then 0x1000 else m.ratio }

/-- Every domain takes its condition of the present state. (DEDUCED: log entry 105.) -/
def Dev.setDoms (s : Dev) : Dev := (List.range 12).foldl (fun s d => s.setDom d (domState s.blw.st d)) s

/-- The lowest voltage at which a domain's RATIO reaches 0x1000, mV: a value that the silicon fixes.
(DESIGN CHOICE: log entry 106.) -/
def Dev.rateFloorMv (s : Dev) (d : Nat) : Nat := 550 + 10 * (Config.rateFloor d s.tbs.mono % 34)

/-- The floor of a domain (05 R155, R335): with a CENTRAL slot, FLEET and every quad that holds a core of the FLEET mask.
(DESIGN CHOICE: log entry 106.) -/
def Dev.floorOf (s : Dev) (d : Nat) : Nat :=
  let quad := decide (4 ≤ d) && decide (d ≤ 7)
    && (List.range 4).any fun i => (s.clsCfg 1).mask.getLsbD (4 * (d - 4) + i)
  if !s.central.isEmpty && (d == 9 || quad) then s.rateFloorMv d else 550

/-- The cap of a domain at a throttle level (R346). -/
def Dev.capOf (s : Dev) (d : Nat) : Nat :=
  if d = 10 ∧ 2 ≤ s.blw.level then 640
  else if d = 8 ∧ s.blw.level = 3 then 550 + 10 * s.blw.cfg.v3
  else 880

/-- Floors and caps are brought up to date. -/
def Dev.setCaps (s : Dev) : Dev :=
  (List.range 12).foldl (fun s d => s.bdomMod d fun b => { b with vcap := s.capOf d, vfloor := s.floorOf d }) s

/-- A regulated domain takes a voltage, between its floor and its cap; where they disagree the floor wins (R334). -/
def Dev.regulate (s : Dev) (d want : Nat) : Dev :=
  let b := s.bdom d
  (s.bdomMod d fun b => { b with capNow := b.capNow || decide (b.vcap < want) }).setVdom d (max b.vfloor (min b.vcap want))

/-- A demand-driven domain at a tick (R334): 10 mV up while an event waits or its cores are more than 90 % busy; 10 mV down
after 100 ms below 60 %. -/
def Dev.demandTick (s : Dev) (d busy : Nat) (waited : Bool) : Dev :=
  let v := (s.rateMon d).vdom
  let calm := if busy < 60 then (s.bdom d).calm + 1 else 0
  if waited || decide (90 < busy) then (s.bdomMod d fun b => { b with calm := calm }).regulate d (v + 10)
  else if 100 ≤ calm then (s.bdomMod d fun b => { b with calm := 0 }).regulate d (v - 10)
  else (s.bdomMod d fun b => { b with calm := calm }).regulate d v

/-- f(V) of the NET domain in units of 10^-6, V in mV (10 R318). -/
def netF (v : Nat) : Nat :=
  if v ≤ 550 then 450000
  else if v ≤ 640 then 450000 + (v - 550) * 170000 / 90
  else if v ≤ 720 then 620000 + (v - 640) * 1750
  else if v ≤ 800 then 760000 + (v - 720) * 1500
  else if v ≤ 880 then 880000 + (v - 800) * 1500
  else 1000000

/-- The NET domain at a tick (10 R317, R319): 10 mV up while lookups are dropped or held back; 10 mV down after 100 ms without,
while the capacity at the lower voltage is at least 1.1 × the lookup rate of those 100 ms. A tick without them ends every
hold of a lookup FIFO. (DEDUCED: log entry 136.) -/
def Dev.netTick (s : Dev) (u : TickIn) : Dev :=
  let s := if u.netHeld then s else s.laneClear
  let v := (s.rateMon 10).vdom
  let calm := if u.netHeld then 0 else (s.bdom 10).calm + 1
  let s := s.bdomMod 10 fun b => { b with calm := calm }
  if u.netHeld then s.regulate 10 (v + 10)
  else if 100 ≤ calm ∧ 11 * u.lookups ≤ 90 * netF (v - 10) then
    (s.bdomMod 10 fun b => { b with calm := 0 }).regulate 10 (v - 10)
  else s.regulate 10 v

/-- LEVEL changes to n (R347): a trace item, a record, and the interrupt. -/
def Dev.setThrottle (s : Dev) (n : Nat) : Dev :=
  if s.blw.level = n then s
  else
    let old := s
    let s := { s with blw := { s.blw with level := n, nLevel := min (s.blw.nLevel + 1) 0xFFFFFFFF } }
    let s := s.trace 6 n 31 0 { cls := 0, domain := 0, source := 6, pool := 3, order := 0, at_ := 0 }
    (s.setCaps.log (fwCode 1 0x0B 0x10) (leBytes 1 n)).blwIrq old

/-- The part of a profile tick that belongs to Bellows and the scheduler (R334, R346, R347): quotas start anew, the level
rises once the window's energy reaches B_eff, and the voltages of the running domains follow. -/
def Dev.bellowsTick (s : Dev) (u : TickIn) : Dev :=
  let s := { s with sch := { s.sch with used := [] } }
  let s := if !s.blw.rose && decide (s.blw.beff ≤ u.spent) then
      { s with blw := { s.blw with rose := true } }.setThrottle (min 3 (s.blw.level + 1)) else s
  let s := s.setCaps
  let quad (s : Dev) (k : Nat) : Dev :=
    if (s.rateMon (4 + k)).pstate = .running then s.demandTick (4 + k) (u.busy.getD k 0) (u.waited.getD k false) else s
  let s := (List.range 4).foldl quad s
  let s := if (s.rateMon 9).pstate = .running then s.demandTick 9 (u.busy.getD 4 0) (u.waited.getD 4 false) else s
  let s := if (s.rateMon 10).pstate = .running then s.netTick u else s
  (s.setVdom 11 (if s.ifc.pcie then 880 else 720)).dispatch

/-! ### Budget windows (R343 to R349) -/

/-- The heat cap after a window, from the heat estimate (R349); a product is rounded down. (DEDUCED: log entry 105.) -/
def heatCap (cap h : Nat) (t tj : Int) : Nat :=
  if t < tj - 10 then min cap (105 * h / 100) else if t < tj - 5 then h else 9 * h / 10

/-- Input power, mW: BLW_INPUT, or the mean of the last 10 charger readings (R344). -/
def Blw.power (b : Blw) : Nat :=
  if b.cfg.source = 1 then b.pIn else if b.charger.isEmpty then 0 else b.charger.sum / b.charger.length

/-- The budget of a window, mJ (R344, R345). -/
def Blw.budget (b : Blw) : Nat :=
  if b.cfg.source = 0 then b.cfg.cap
  else if b.stale then min b.cfg.cap b.cfg.draw
  else min b.cfg.cap ((b.power - b.cfg.other) + if b.cfg.floor < b.soc then b.cfg.draw else 0)

/-- The heat estimate: the highest reading + 3 °C. -/
def heatOf (temps : List Int) : Int := (temps.foldl max (temps.headD 0)) + 3

/-- The readings of a window: each sensor, and the heat estimate. -/
def Dev.readHeat (s : Dev) (temps : List Int) : Dev :=
  let s := (List.range 16).foldl (fun s k =>
    match temps[k]? with
    | some t => s.thermMod k fun x => { x with t := t, peak := max x.peak t }
    | none => s) s
  { s with blw := { s.blw with tj := if temps.isEmpty then s.blw.tj else heatOf temps } }

/-- The energy source at the end of a window (R345): a window without a reading, or without FRESH, is a failed one. -/
def Blw.source (b : Blw) : Blw :=
  let failed : Bool := (b.cfg.source == 1 && !b.fresh) || (b.cfg.source == 2 && b.failNow)
  let run := if failed then min (b.failRun + 1) 10 else 0
  { b with
    failRun := run, stale := b.cfg.source != 0 && decide (10 ≤ run), failNow := false, fresh := false
    nSmb := if b.cfg.source = 1 ∧ failed then min (b.nSmb + 1) 0xFFFFFFFF else b.nSmb
    soc := if b.cfg.source = 1 then (if failed then b.soc else b.socPct)
      else if b.cfg.source = 2 then b.battery else b.soc }

/-- The conditions of CRITICAL (R348): overspending at level 3, a low battery, heat. (DEDUCED: log entry 67.) -/
def Blw.critCond (b : Blw) : Nat :=
  b2n (5 ≤ b.overRun) + 2 * b2n (b.cfg.source ≠ 0 ∧ !b.stale ∧ b.soc ≤ b.cfg.crit) + 4 * b2n (10 ≤ b.hotRun)

/-- CRITICAL at the end of a window (R348). (DEDUCED: log entries 67, 105.) -/
def Dev.critStep (s : Dev) : Dev :=
  let b := s.blw
  let c := b.critCond
  if c ≠ 0 ∧ !b.critical then
    let s := { s with blw := { b with critical := true, critFor := 0, clearRun := 0, nCrit := min (b.nCrit + 1) 0xFFFFFFFF } }
    (s.trace 6 4 31 0 { cls := 0, domain := 0, source := 6, pool := 3, order := 0, at_ := 0 }).log 0x4B02 (leBytes 1 c)
  else if b.critical then
    let run := if c = 0 then b.clearRun + 1 else 0
    if 10 ≤ run then
      { s with blw := { b with critical := false, critFor := 0, clearRun := 0, graceOver := false } }
    else { s with blw := { b with critFor := b.critFor + 1, clearRun := run } }
  else s

/-- GRACE_OVER: the fleet-enable latch is cleared as BGL_DISABLE does (R348). (DEDUCED: log entry 105.) -/
def Dev.graceClear (s : Dev) : Dev :=
  { s with blw := { s.blw with graceOver := true }, bgl := { s.bgl with enable := false } }

/-- The level at the end of a window that spent e (R347): it falls after 5 windows in a row below 0.8 × B_eff. -/
def Dev.levelStep (s : Dev) (e : Nat) : Dev :=
  let b := s.blw
  let n := if b.beff < e ∧ !b.rose then min 3 (b.level + 1) else b.level
  let calm := if 10 * e < 8 * b.beff then b.calm + 1 else 0
  let n := if 5 ≤ calm then n - 1 else n
  ({ s with blw := { b with calm := if 5 ≤ calm then 0 else calm, rose := false } }).setThrottle n

/-- The samples of a window (16 R457): heat estimate, sensors, supplies, Orchard denials, domain energies.
(DEDUCED: log entry 134.) -/
def Dev.windowSamples (s : Dev) (w : WindowIn) : Dev :=
  let s := s.sample 0 0 s.blw.tj
  let s := (List.range 16).foldl (fun s k => match w.temps[k]? with | some t => s.sample 1 k t | none => s) s
  let s := (List.range 5).foldl (fun s k => s.sample 2 k (s.gen.supply.getD k 0)) s
  let s := s.sample 6 0 s.orc.denWin
  (List.range 12).foldl (fun s d => s.sample 8 d (s.bdom d).e) { s with orc := { s.orc with denWin := 0 } }

/-- What a window that ends has measured: readings, domain energies, samples, core time, and the counts of R348. -/
def Dev.windowEnd (s : Dev) (w : WindowIn) : Dev :=
  let s := s.readHeat w.temps
  let s := (List.range 12).foldl (fun s d => s.bdomMod d fun b => { b with
    e := if d = 0 then 0 else w.energy.getD d 0, capped := b.capNow, capNow := false }) s
  let s := s.windowSamples w
  let e := (w.energy.drop 1).sum
  let tj := s.tjMax
  let b := s.blw.source
  let ct := (List.range 5).foldl (fun t c => tset 0 t c (w.coreTime.getD c 0)) s.sch.coreTime
  { s with
    sch := { s.sch with coreTime := ct }
    blw := { b with
      e := e
      overRun := if b.level = 3 ∧ b.beff < e then min 5 (b.overRun + 1) else 0
      hotRun := if tj ≤ b.tj then min 10 (b.hotRun + 1) else 0
      heatWarn := decide (tj - 10 ≤ b.tj), h := heatCap b.cfg.cap b.h b.tj tj } }

/-- The level and CRITICAL at the end of a window (R347 to R349). -/
def Dev.windowLevel (s : Dev) : Dev :=
  let s := s.levelStep s.blw.e
  let s := if s.tjMax ≤ s.blw.tj then s.setThrottle 3 else s
  let s := s.critStep
  if s.blw.critical && decide (s.blw.cfg.grace ≤ s.blw.critFor) then s.graceClear else s

/-- The budget of the next window (R344). -/
def Dev.newBudget (s : Dev) : Dev :=
  let bud := s.blw.budget
  { s with blw := { s.blw with b := bud, beff := min bud s.blw.h } }

/-- BUDGET_WINDOW (R343): CMP25 ends a window at a TAI second. The level, the heat cap, CRITICAL, the budget of the next
window and the shed channels follow. -/
def execBudgetWindow (w : WindowIn) (s : State) : Host.Outcome State Fault Refusal := act s fun s =>
  if !s.tbs.en || s.tbs.resync then s
  else
    let x := nextFire secU 0 s.tbs.time s.blw.winAt
    let t := s.advanceTo x
    let t := { t with blw := { t.blw with winAt := some x } }
    ((t.windowEnd w).windowLevel.newBudget.restoreShed.setCaps.blwIrq s)

/-- CRIT_GRACE_EXPIRY (R348): CRITICAL has held for CRIT_GRACE_S. -/
def execCritGraceExpiry (s : State) : Host.Outcome State Fault Refusal := act s fun s =>
  if s.blw.critical then ((s.advance ((s.blw.cfg.grace - s.blw.critFor) * secU)).graceClear) else s

/-- SMBUS_READ_DONE (R345): a charger or battery reading; a failed one keeps the last value and is counted. -/
def execSmbusReadDone (battery : Bool) (word : Option (BitVec 16)) (s : State) : Host.Outcome State Fault Refusal := act s fun s =>
  let b := s.blw
  if b.cfg.source ≠ 2 then s
  else match word with
  | none => { s with blw := { b with failNow := true, nSmb := min (b.nSmb + 1) 0xFFFFFFFF } }
  | some w =>
    if battery then { s with blw := { b with battery := min w.toNat 100 } }
    else { s with blw := { b with charger := (w.toNat * b.cfg.pinLsb :: b.charger).take 10 } }

/-- THERM_PEAK_READ (R349): T_C and T_PEAK; the read clears T_PEAK. -/
def Dev.thermPeakRead (s : Dev) (_m : Master) (k : Fin 16) : Dev :=
  let x := s.therm k.val
  ((s.thermMod k.val fun x => { x with peak := 0 }).readOut [word (low 8 x.t + 2 ^ 8 * low 8 x.peak)])

/-- THERM_PEAK_READ: the read as a step of its own. -/
def execThermPeakRead (_m : Master) (k : Fin 16) (s : State) : Host.Outcome State Fault Refusal := act s fun s => s.thermPeakRead _m k

/-! ### Changing state (R336 to R340) -/

/-- The fleet is active: the latch is set, GO_ACTIVE, or a slot is moving (R336). -/
def Dev.fleetActive (s : Dev) : Bool :=
  s.bgl.enable || s.goActive || (List.range s.nSlots).any s.moving

/-- A wake cause (R340): RUN at the first boundary at least 2 ms later, and in NIGHT REFCLK_WARM_MS more, unless an earlier
wake stands. -/
def Dev.wake (s : Dev) (cause : Nat) : Dev :=
  let go (d : Nat) : Dev :=
    let e := cdiv (s.tbs.time + d) epU
    if s.blw.wakeAt.all fun w => decide (e < w) then
      { s with blw := { s.blw with wakeAt := some e, waking := cause } } else s
  match s.blw.st with
  | .run => s
  | .doze => go (2 * msU)
  | .night => go ((s.blw.cfg.warm + 2) * msU)

/-- A check of step 2 of R25 for the epoch before a change (R336): it is abandoned, with a record, if the fleet is
active. -/
def Dev.pwrRecheck (s : Dev) (epoch : Nat) : Dev :=
  match s.blw.change with
  | some c =>
    if c.target = epoch + 1 ∧ c.st ≠ PwrSt.run ∧ s.fleetActive then
      { s with blw := { s.blw with change := none } }.log (fwCode 1 0x0B 0x11) (leBytes 1 (pwrCode c.st))
    else s
  | none => s

/-- The frozen beacon of an epoch carries NIGHT_NEXT (R337 step 2). -/
def Dev.nightNext (s : Dev) (epoch : Nat) : Bool :=
  match s.blw.change with | some c => c.st == .night && c.target == epoch + 1 | none => false

/-- The device enters a state (R333, R337 step 3, R338). (DEDUCED: log entry 120.) -/
def Dev.enterPwr (s : Dev) (c : PwrChg) : Dev :=
  let b := s.blw
  let s := { s with blw := { b with
    st := c.st, change := none, wakeAt := c.wake, waking := 1, postponed := 0, restored := false
    nightAt := s.tbs.mono, gpio31 := b.gpio31 && !(c.st == .night && b.cfg.gate) } }
  let s := if c.st = .night then
      let s := s.setClock true
      let s := { s with
        sec := { s.sec with cache := fitTo 256 ((s.sec.slots.filter fun x => x.2.dest.getLsbD 0).flatMap fun x => x.2.key) }
        rad := { s.rad with partners := s.rad.partners.map fun x => (x.1, { x.2 with night := x.2.st != .none }) } }
      ((List.range 7).foldl Dev.portDown s).refreshTime
    else s
  s.setDoms

/-- The device returns to RUN (R337 step 7, R338, R340): the sample channels have missed the NIGHT, the CENTRAL filters
restart, and without REFCLK the loss is handled by 01 R15. -/
def Dev.resumeRun (s : Dev) : Dev :=
  let b := s.blw
  let wasNight := decide (b.st = .night)
  let d := s.tbs.mono - b.nightAt
  let s := { s with blw := { b with st := .run, wakeAt := none, wakeCause := b.waking, gpio31 := true, restored := false } }
  let s := s.setDoms
  let s := s.central.foldl (fun s k => s.fslotMod k FixSlot.restart) s
  if wasNight then
    let s := s.setClock (!s.gen.refclkOk)
    let s := { s with
      rad := { s.rad with nightLen := some (d / nsU) }
      blw := { s.blw with backAt := some s.tbs.mono } }
    let s := s.gnss.chans.foldl (fun s x =>
      if x.2.st = .track ∨ x.2.st = .coast then
        (s.chanMod x.1 fun ch => ch.coast (d / nsU) s.tbs.mono true).coastOver x.1
      else s) s
    (if s.gen.refclkOk then s else s.islandFault).refreshTime
  else s

/-- The boundary of an epoch, in which a change or a wake falls due; the flag tells that the device returned to RUN. -/
def Dev.pwrBoundary (s : Dev) (e : Nat) : Dev × Bool :=
  match s.blw.change with
  | some c => if c.target ≤ e then (if c.st = .run then (s.resumeRun, true) else (s.enterPwr c, false)) else (s, false)
  | none =>
    if s.blw.st ≠ .run ∧ s.blw.wakeAt.any fun w => decide (w ≤ e) then (s.resumeRun, true) else (s, false)

/-- NIGHT_CALIBRATE (R337 step 1): TBS_INCR32 is calibrated against REFCLK 1 s before NIGHT. -/
def execNightCalibrate (incr32 : BitVec 47) (s : State) : Host.Outcome State Fault Refusal := act s fun s =>
  match s.blw.change with
  | some c =>
    if c.st = .night ∧ s.tbs.en then
      (let s := s.advanceTo (c.target * epU - secU)
       { s with tbs := { s.tbs with incr32 := incr32.toNat } })
    else s
  | none => s

/-- The wake boundary of the present NIGHT. -/
def Dev.wakeEpoch (s : Dev) : Option Nat := if s.blw.st = .night then s.blw.wakeAt else none

/-- NIGHT_WAKE_PREPARE (R337 step 4): GPIO31 is driven high. -/
def execNightWakePrepare (s : State) : Host.Outcome State Fault Refusal := act s fun s =>
  match s.wakeEpoch with
  | some w =>
    let s := s.advanceTo (w * epU - (s.blw.cfg.warm + 2) * msU)
    { s with blw := { s.blw with gpio31 := true } }
  | none => s

/-- NIGHT_DOMAIN_RESTORE (R337 step 5): SAFE, SEC, SUP and MEM run again. -/
def execNightDomainRestore (s : State) : Host.Outcome State Fault Refusal := act s fun s =>
  match s.wakeEpoch with
  | some w =>
    let s := s.advanceTo (w * epU - 2 * msU)
    ([1, 2, 3, 11].foldl (fun s d => s.setDom d .running) { s with blw := { s.blw with restored := true } })
  | none => s

/-- NIGHT_REFCLK_CHECK (R337 step 6): without REFCLK edges the wake boundary moves one epoch later, up to 100 times. -/
def execNightRefclkCheck (edges : Bool) (s : State) : Host.Outcome State Fault Refusal := act s fun s =>
  match s.wakeEpoch with
  | some w =>
    let s := s.advanceTo (w * epU - msU)
    let s := { s with gen := { s.gen with refclkOk := edges } }
    if edges || decide (100 ≤ s.blw.postponed) then s
    else { s with blw := { s.blw with wakeAt := some (w + 1), postponed := s.blw.postponed + 1 } }
  | none => s

/-! ### Commands (R353) -/

/-- Fields of PWR_SET. -/
def pwrSetFields : List FieldRule := [fIn 0 0 2 0 2, fWord 1, fWord 2]

/-- The state that a code names. -/
def pwrSt : Nat → PwrSt
  | 0 => .run | 1 => .doze | _ => .night

/-- PWR_SET (R336, R340): TARGET and WAKE are ignored for RUN. (DEDUCED: log entry 66.) -/
def pwrSetRun (c : Cmd) (s : Dev) : Res :=
  let st := pwrSt (argF c 0 0 2)
  let t := fullOf s.gen.epochFull (arg c 1)
  let d := t - s.gen.epochFull
  let w := (arg c 2 - arg c 1).toNat
  if st = .run then (if s.blw.change.isSome then refuse s .pwrPending else done (s.wake 2) [])
  else if arg c 2 ≠ 0xFFFFFFFF ∧ !(decide (10 ≤ w) && decide (w ≤ 864000)) then refuse s .reservedValue
  else if d < 2 ∨ 600 < d then refuse s .pwrEpochRange
  else if s.fleetActive then refuse s .pwrFleetActive
  else if s.blw.change.isSome then refuse s .pwrPending
  else done { s with blw := { s.blw with
    change := some ⟨st, t, if arg c 2 = 0xFFFFFFFF then none else some (t + w)⟩ } } []

/-- Fields of PWR_CFG. -/
def pwrCfgFields : List FieldRule :=
  [fIn 0 0 2 0 2, fIn 0 2 14 500 11000, fAny 0 16 16, fIn 1 0 16 0 11000, fIn 1 16 7 0 100, fAny 1 23 7, fAny 2 0 15,
   fIn 2 16 8 1 255, fIn 3 0 10 0 600, fIn 3 10 10 1 1000, fAny 3 20 1, fIn 3 21 6 0 33]

/-- PWR_CFG (R344). -/
def pwrCfgRun (c : Cmd) (s : Dev) : Res :=
  let k : PwrCfg := {
    source := argF c 0 0 2, cap := argF c 0 2 14, other := argF c 0 16 16, draw := argF c 1 0 16, floor := argF c 1 16 7
    crit := argF c 1 23 7, chgAddr := argF c 2 0 7, chgCmd := argF c 2 7 8, pinLsb := argF c 2 16 8
    grace := argF c 3 0 10, warm := argF c 3 10 10, gate := argB c 3 20, v3 := argF c 3 21 6 }
  if k.floor ≤ k.crit then refuse s .reservedValue else done { s with blw := { s.blw with cfg := k } }.setCaps []

/-- Fields of PWR_WAKE_CFG. -/
def pwrWakeCfgFields : List FieldRule := [fAny 0 0 16, fWord 1]

/-- PWR_WAKE_CFG (R340): a wake bit of GPIO31 is refused while Bellows drives that pin (12 R380). -/
def pwrWakeCfgRun (c : Cmd) (s : Dev) : Res :=
  if s.blw.cfg.gate && argB c 1 31 then refuse s .gpioInUse
  else done { s with blw := { s.blw with wakeCap := BitVec.ofNat 16 (argF c 0 0 16), wakeGpio := arg c 1 } } []

/-- Fields of SCH_CLASS_CFG. -/
def schClassCfgFields : List FieldRule := [fIn 0 0 3 0 4, fAny 0 4 17, fIn 0 21 8 0 200, fIn 1 0 16 0 17000]

/-- SCH_CLASS_CFG (R331, R346, R353). -/
def schClassCfgRun (c : Cmd) (s : Dev) : Res :=
  let k : ClsCfg := {
    mask := BitVec.ofNat 16 (argF c 0 4 16), sup := argB c 0 20, wait := argF c 0 21 8, quota := argF c 1 0 16 }
  done { s with sch := { s.sch with cls := tset none s.sch.cls (argF c 0 0 3) (some k) } } []

/-- The four pools in the layout of SCH_STATUS word 0. -/
def poolWord (f : Nat → Nat) : Word := word (f 0 + 2 ^ 6 * f 1 + 2 ^ 16 * f 2 + 2 ^ 23 * f 3)

/-- SCH_STATUS (R353, 14): the read clears the peaks and the longest SAFETY time. -/
def schStatusRun (_c : Cmd) (s : Dev) : Res :=
  let ct (n : Nat) := min (tget 0 s.sch.coreTime n) 2047
  done { s with sch := { s.sch with peaks := [], longest := 0 } }
    [poolWord s.poolUsed, poolWord fun p => max (tget 0 s.sch.peaks p) (s.poolUsed p), sat32 s.sch.dispatched,
     sat32 s.sch.preemptions, sat32 s.sch.migrations, word (s.sch.longest + 2 ^ 16 * ct 4), word (ct 0 + 2 ^ 11 * ct 1),
     word (ct 2 + 2 ^ 11 * ct 3)]

/-- Fields of PWR_STATUS. -/
def pwrStatusFields : List FieldRule := [fAny 0 0 1]

/-- PWR_STATUS (R353, 14). -/
def pwrStatusRun (c : Cmd) (s : Dev) : Res :=
  let b := s.blw
  if argB c 0 0 then done s ((b.times.map fun t => sat32 (t / secU)) ++ [0, 0, 0, 0, 0])
  else done s (s.blwStatus :: s.blwWindow ++ [sat32 b.nLevel, sat32 b.nCrit, sat32 b.nSmb, word b.wakeCause, 0])

end Sys2Proof.Machine
end

