-- ==== Sys2Proof/Machine/Interfaces.lean ====
section
/-! DEFINITION. Host and local interfaces: PCIe, MSI-X, the network rings of PF1, CAN and ISOBUS, SMBus, GPIO, ADC and UART
configuration (12_host_local_interfaces R354 to R377, R380, R381; layouts of 14). -/
namespace Sys2Proof.Machine

/-! ### Reads of queues (14 R409) -/

/-- Whole items of a queue as far as n bytes hold them: their bytes and the queue without them. -/
def Queue.takeFit {α : Type} (enc : QItem α → List Byte) : Nat → Nat → Queue α → List Byte × Queue α
  | 0, _, q => ([], q)
  | k + 1, n, q =>
    match q.items with
    | [] => ([], q)
    | i :: _ =>
      let b := enc i
      if b.length ≤ n then
        let r := Queue.takeFit enc k (n - b.length) q.pop.2
        (b ++ r.1, r.2)
      else ([], q)

/-- A read of a queue (R409): what is queued is delivered at once; on an empty queue the read waits (03 R108).
(DEDUCED: log entry 83.) -/
def queueRead {α : Type} (kind : ReadKind) (c : Cmd) (s : Dev) (q : Queue α) (enc : QItem α → List Byte)
    (put : Dev → Queue α → Dev) : Res :=
  if q.items.isEmpty then pendRead kind c s
  else
    let r := q.takeFit enc q.items.length (arg c 3).toNat
    done ((put s r.2).toBuffer c.path (arg64 c 1) r.1) (readWords r.1.length (!r.2.items.isEmpty) s.epoch)

/-- The oldest pending read of a kind takes what has been queued (03 R108). -/
def Dev.serveQueue {α : Type} (s : Dev) (kind : ReadKind) (q : Queue α) (enc : QItem α → List Byte)
    (put : Dev → Queue α → Dev) : Dev :=
  match s.reads.find? fun r => r.kind == kind with
  | some r =>
    if q.items.isEmpty then s
    else
      let d := q.takeFit enc q.items.length r.len
      let s := { s with reads := s.reads.erase r }
      ((put s d.2).toBuffer r.path r.addr d.1).owe r.path r.tag (readOp kind) .success
        (readWords d.1.length (!d.2.items.isEmpty) s.epoch)
  | none => s

/-- Request layout of a read whose selector is a port number. -/
def portReadFields : List FieldRule := fAny 0 0 2 :: fWords 1 3

/-! ### PCIe and MSI-X (R354, R357, R358, R360) -/

/-- A vector is masked or unmasked in the MSI-X table; a message that is pending follows the unmask (R360).
(PRESUMED: log entry 25.) -/
def Dev.msixMask (s : Dev) (k : Nat) (mask : Bool) : Dev :=
  let s := { s with gen := { s.gen with msixOpen := tset false s.gen.msixOpen k (!mask) } }
  if !mask && tget false s.gen.msixPba k then
    { s with gen := { s.gen with msixPba := tset false s.gen.msixPba k false } }.vector k
  else s

/-- MSIX_UNMASK (R360): a pending message is sent. PF0 has 48 vectors and PF1 16. -/
def execMsixUnmask (pf1 : Bool) (v : Fin 48) (s : State) : Host.Outcome State Fault Refusal := act s fun s =>
  (if pf1 && decide (16 ≤ v.val) then s else s.msixMask (if pf1 then 64 + v.val else v.val) false)

/-- PCIE_LINK_UP (R354, R334): training ends; MEM rises to 0.88 V, and the network port of PF1 comes up.
(DEDUCED: log entry 104.) -/
def execPcieLinkUp (gen width : Fin 5) (s : State) : Host.Outcome State Fault Refusal := act s fun s =>
  if gen.val = 0 ∨ width.val = 0 ∨ width.val = 3 then s
  else
    let s := { s with ifc := { s.ifc with pcie := true, pcieGen := gen.val, pcieWidth := width.val } }
    ((s.setVdom 11 880).eportMod 6 fun e => { e with link := true })

/-- LEVEL of a network ring (R362). -/
def Nq.level (n : Nq) : Nat := (n.tail + 2 ^ n.log2 - n.head % 2 ^ n.log2) % 2 ^ n.log2

/-- Moves the pointers of a ring; its watermarks follow (R362). -/
def Dev.nqMove (s : Dev) (r : Nat) (g : Nq → Nq) : Dev :=
  s.nqMod r fun n => (let m := g n; { m with q := m.q.settle n.level m.level })

/-- The ring's vector for a write-back (R361): held back until ITR_US has passed since its previous message. -/
def Dev.nqSignal (s : Dev) (r : Nat) : Dev :=
  let n := s.nq r
  if n.itr = 0 ∨ n.msgAt.all fun t => decide (t + n.itr * usU ≤ s.tbs.mono) then
    (s.nqMod r fun n => { n with msgAt := some s.tbs.mono, held := false }).vector (64 + r)
  else s.nqMod r fun n => { n with held := true }

/-- ITR_EXPIRY (R361). -/
def execItrExpiry (r : Fin 16) (s : State) : Host.Outcome State Fault Refusal := act s fun s =>
  let n := s.nq r.val
  if n.held then ((s.advanceMono (n.msgAt.getD 0 + n.itr * usU)).nqSignal r.val) else s

/-- A TX write-back (R363): the bytes before and after the echoed COOKIE. -/
def Dev.txBack (s : Dev) (r : Nat) (ts status sent flags : Nat) : Dev :=
  let n := s.nq r
  let a := n.base + 32 * (n.head % 2 ^ n.log2)
  let s := (s.dma a (leBytes 10 ts ++ leBytes 2 status ++ leBytes 2 sent ++ leBytes 2 (1 + flags))).dma (a + 24)
    (List.replicate 8 0)
  s.nqMove r fun n => { n with head := (n.head + 1) % 4096 % 2 ^ n.log2 }

/-- A frame's descriptors are written back with a status; a zero-length one keeps its own (R363). -/
def Dev.txBacks (s : Dev) (r ts status sent flags : Nat) : List Nat → Dev
  | [] => s.nqSignal r
  | l :: ls =>
    let st := if l = 0 ∧ status ≠ 2 then 1 else status
    Dev.txBacks (s.txBack r ts st (if ls.isEmpty ∧ status = 0 then sent else 0) flags) r ts status sent flags ls

/-- An RX write-back (R365). -/
def Dev.rxBack (s : Dev) (r : Nat) (bs : List Byte) : Dev :=
  let n := s.nq r
  let s := s.dma (n.base + 32 * (n.head % 2 ^ n.log2)) (fitTo 32 bs)
  s.nqMove r fun n => { n with head := (n.head + 1) % 4096 % 2 ^ n.log2 }

/-- Every owned descriptor is written back with FLUSHED, oldest first. -/
def Dev.nqFlush : Nat → Nat → Dev → Dev
  | 0, _, s => s
  | k + 1, r, s =>
    Dev.nqFlush k r (if r < 8 then s.txBack r 0 5 0 0 else s.rxBack r (List.replicate 12 0 ++ [0x13]))

/-- A ring stops (R365): a waiting frame has been sent; the rest is flushed; STOPPED is set. -/
def Dev.nqStop (s : Dev) (r : Nat) : Dev :=
  if (s.nq r).stopped then s.nqMod r fun n => { n with en := false }
  else
    let s := match (s.nq r).tsWait with
      | some w => (s.txBacks r 0 0 w.bytes 0 w.lens).nqMod r fun n => { n with tsWait := none }
      | none => s
    let k := (s.nq r).level
    let s := Dev.nqFlush k r s
    let s := if k = 0 then s else s.nqSignal r
    s.nqMod r fun n => { n with en := false, stopped := true }

/-- A write of NQ_TAIL (R361): the host posts descriptors or buffers. -/
def Dev.nqTail (s : Dev) (r : Nat) (v : Word) : Dev := s.nqMove r fun n => { n with tail := wbits v 0 12 }

/-- NQ_TAIL_WRITE (R361). -/
def execNqTailWrite (r : Fin 16) (v : Word) (s : State) : Host.Outcome State Fault Refusal := act s fun s =>
  (s.nqTail r.val v)

/-- A write of NQ_CTRL (R361, R365, R366): ERR is W1C; EN starts a ring that is stopped, without ERR and with a valid
LOG2. -/
def Dev.nqCtrl (s : Dev) (r : Nat) (v : Word) : Dev :=
  if 1000 < wbits v 4 10 then s.cfgReject
  else
    let s := s.nqMod r fun n => { n with itr := wbits v 4 10, err := n.err && !wbit v 1 }
    let n := s.nq r
    if !wbit v 0 then s.nqStop r
    else if !n.stopped || n.err then s
    else if n.log2 < 6 ∨ 12 < n.log2 then s.cfgReject
    else
      let s := s.nqMod r fun n => { n with en := true, stopped := false }
      if s.ifc.pcie then s.eportMod 6 fun e => { e with link := true } else s

/-- NQ_ENABLE (R365). -/
def execNqEnable (r : Fin 16) (v : Word) (s : State) : Host.Outcome State Fault Refusal := act s fun s =>
  (s.nqCtrl r.val v)

/-- NQ_DISABLE (R365). -/
def execNqDisable (r : Fin 16) (v : Word) (s : State) : Host.Outcome State Fault Refusal := act s fun s =>
  (s.nqCtrl r.val v)

/-- TX_WRITEBACK (R363, R364): the next frame of a TX ring enters the switch and is written back, or waits for its egress
timestamp. A ring whose frame waits takes no other. -/
def execTxWriteback (r : Fin 8) (bufLens : List Nat) (reservedBad : Bool) (f : EthFrame) (s : State) :
    Host.Outcome State Fault Refusal := act s fun s =>
  let n := s.nq r.val
  if !n.en || n.stopped || n.tsWait.isSome || bufLens.isEmpty || decide (n.level < bufLens.length) then s
  else if 8 < bufLens.length ∨ reservedBad then (s.txBacks r.val 0 2 0 0 bufLens)
  else if bufLens.sum = 0 then (s.txBacks r.val 0 0 0 0 bufLens)
  else
    let wait := f.tsReq || f.oneStep
    let c := s.classify 6 (if wait then some r.val else none) f
    match c.2 with
    | [] => (c.1.txBacks r.val 0 3 0 0 bufLens)
    | p :: ps =>
      if wait then (c.1.nqMod r.val fun n => { n with
        tsWait := some { lens := bufLens, bytes := f.len, since := s.tbs.mono, port := p, multi := !ps.isEmpty } })
      else (c.1.txBacks r.val 0 0 f.len 0 bufLens)

/-- TX_TS_TIMEOUT (R364): 10 ms without an egress timestamp. (DEDUCED: log entry 107.) -/
def execTxTsTimeout (r : Fin 8) (s : State) : Host.Outcome State Fault Refusal := act s fun s =>
  match (s.nq r.val).tsWait with
  | some w =>
    let s := s.advanceMono (w.since + 10 * msU)
    ((s.txBacks r.val 0 6 0 0 w.lens).nqMod r.val fun n => { n with tsWait := none })
  | none => s

/-- ETH_FRAME_TRANSMIT (10 R316): a port other than HPF1, whose frames RX_FRAME_DELIVER takes, sends its next frame; the
frame of a TX ring that waits for its timestamp is written back by the lowest port it leaves by (R364).
(DEDUCED: log entry 107.) -/
def execEthFrameTransmit (p : Fin 8) (s : State) : Host.Outcome State Fault Refusal := act s fun s =>
  if p.val = 6 then s
  else
    let r := s.sendNext p.val
    match r.2 with
    | some f =>
      (match f.tsRing with
       | some k =>
         (match (r.1.nq k).tsWait with
          | some w =>
            if w.port = p.val then
              (let ts := stamp80 (s.tbs.time + (s.eport p.val).extTx * nsU)
               ((r.1.txBacks k ts 0 w.bytes (2 + 4 * b2n w.multi) w.lens).nqMod k fun n => { n with tsWait := none }))
            else r.1
          | none => r.1)
       | none => r.1)
    | none => r.1

/-- A frame's bytes as they arrived: addresses, the tag where the frame came with one, EtherType and the rest (R365; the
tag of a queued frame is its classified one, so its length tells whether it came tagged).
(DESIGN CHOICE: log entry 108.) -/
def frameImage (f : EthFrame) : List Byte :=
  let tag := match f.tag with
    | some t => if f.body.length + 18 ≤ f.len then beBytes 2 0x8100 ++ beBytes 2 (t.1 + 2 ^ 13 * (t.2 % 8)) else []
    | none => []
  beBytes 6 f.da.toNat ++ beBytes 6 f.sa.toNat ++ tag ++ beBytes 2 f.etherType ++ f.body

/-- A received frame written into buffers of the given addresses and lengths, with their write-backs (R365).
(DESIGN CHOICE: log entry 108.) -/
def Dev.rxBacks (s : Dev) (r : Nat) (f : QFrame) (drops : Nat) : Bool → Nat → List (Nat × Nat) → Dev
  | _, _, [] => s
  | first, left, b :: bs =>
    let n := min left b.2
    let last := decide (left ≤ b.2)
    let s := s.dma b.1 (((frameImage f.frame).drop (f.frame.len - left)).take n)
    let vtag := match f.frame.tag with | some t => t.1 + 2 ^ 13 * (t.2 % 8) | none => 0
    let s := s.rxBack r (leBytes 10 (if first then stamp80 f.rxTs else 0) ++ leBytes 2 n
      ++ leBytes 1 (1 + 2 * b2n last + 4 * b2n first + 8 * b2n f.secured) ++ leBytes 1 f.src ++ leBytes 2 vtag
      ++ leBytes 2 (if first then drops else 0) ++ leBytes 2 (if last then f.frame.len else 0))
    if last then s.nqSignal r else Dev.rxBacks s r f drops false (left - b.2) bs

/-- RX_FRAME_DELIVER (R365): the oldest frame of HPF1's egress queue q goes to RX ring q when its posted buffers, whose
addresses and lengths the step gives, hold it. -/
def execRxFrameDeliver (q : Fin 8) (bufs : List (Nat × Nat)) (s : State) : Host.Outcome State Fault Refusal :=
    act s fun s =>
  let r := 8 + q.val
  let n := s.nq r
  let bufs := bufs.take n.level
  match tget [] (s.eport 6).queues q.val with
  | f :: fs =>
    if !n.en || n.stopped || !s.portUp 6 || decide ((bufs.map Prod.snd).sum < f.frame.len) then s
    else
      let s := s.eportMod 6 fun e => { e with
        queues := tset [] e.queues q.val fs, tx := min (e.tx + 1) 0xFFFFFFFF }
      let s := (s.release f).rxBacks r f n.drops true f.frame.len bufs
      (s.nqMod r fun n' => { n' with
        drops := 0, q := { n'.q with drops := min (n'.q.drops + n.drops) 0xFFFFFFFF } })
  | [] => s

/-- A DMA error on a network ring (R366): the frame concerned is written back with DMA_ERR, and the ring stops.
(DEDUCED: log entry 107.) -/
def Dev.nqDmaError (s : Dev) (r : Nat) : Dev :=
  let n := s.nq r
  if n.stopped then s
  else
    let s := match n.tsWait with
      | some w => (s.txBacks r 0 4 0 0 w.lens).nqMod r fun n => { n with tsWait := none }
      | none => if r < 8 ∧ 0 < n.level then s.txBacks r 0 4 0 0 [1] else s
    (s.nqMod r fun n => { n with err := true, errs := min (n.errs + 1) 0xFFFFFFFF }).log (fwCode 2 0x0C 0x10) (leBytes 1 r)
      |>.nqStop r

/-- A function reset of PF1 (R358): the rings are disabled, port 6 is down, and its MSI-X vectors are masked. -/
def Dev.pf1Reset (s : Dev) : Dev :=
  let s := (List.range 16).foldl (fun s r => s.nqMod r fun n => { n with
    en := false, stopped := true, tsWait := none, held := false, head := n.tail, q := n.q.settle n.level 0 }) s
  let s := s.portDown 6
  { s with gen := { s.gen with msixOpen := s.gen.msixOpen.filter fun x => x.1 < 64 } }

/-- PF1_FUNCTION_RESET (R358). -/
def execPf1FunctionReset (s : State) : Host.Outcome State Fault Refusal := act s fun s =>
  s.pf1Reset

/-! ### UART, CAN and ISOBUS (R369 to R374) -/

/-- Fields of UART_CFG. -/
def uartCfgFields : List FieldRule := [fIn 0 0 22 9600 3000000]

/-- UART_CFG (R369). -/
def uartCfgRun (c : Cmd) (s : Dev) : Res := done { s with ifc := { s.ifc with baud := argF c 0 0 22 } } []

/-- A bit rate divides 80 MHz into 8 to 80 time quanta, under a prescaler (14 CAN_PORT_CFG).
(DEDUCED: log entry 110.) -/
def canRate (bps : Nat) : Bool :=
  bps != 0 && 80000000 % bps == 0 && (List.range 73).any fun k => 80000000 / bps % (8 + k) == 0

/-- Fields of CAN_PORT_CFG. -/
def canPortFields : List FieldRule := [fAny 0 0 18, fWord 1, fWord 2]

/-- CAN_PORT_CFG (R370): EN = 0 disables the port in any state. A port in ISOBUS mode runs classical CAN at 250 kbit/s and
claims its preferred address when it is enabled (R373). (DEDUCED: log entry 110.) -/
def canPortCfgRun (c : Cmd) (s : Dev) : Res :=
  let p := argF c 0 0 2
  let k := s.can p
  let n : Can := { k with
    en := true, fdEn := argB c 0 3, nomSp := argF c 0 4 7, dataSp := argF c 0 11 7
    nomBps := (arg c 1).toNat, dataBps := (arg c 2).toNat }
  let pct (v : Nat) : Bool := decide (50 ≤ v) && decide (v ≤ 90)
  let nomOk := pct n.nomSp && canRate n.nomBps && decide (125000 ≤ n.nomBps) && decide (n.nomBps ≤ 1000000)
  let datOk := !n.fdEn
    || (pct n.dataSp && canRate n.dataBps && decide (1000000 ≤ n.dataBps) && decide (n.dataBps ≤ 5000000))
  if !argB c 0 2 then done (s.canMod p fun k => { k with en := false }) []
  else if !nomOk || !datOk then refuse s .reservedValue
  else if k.en then (if n = k then done s [] else refuse s .notHalted)
  else
    let n := if k.isb then { n with fdEn := false, nomBps := 250000, addr := k.pref, nextAlt := 0 } else n
    done ((s.canMod p fun _ => { n with st := .active }).irqIf 10 (n.addr != k.addr)) []

/-- Fields of CAN_FILTER. -/
def canFilterFields : List FieldRule := [fAny 0 0 9, fAny 1 0 29, fAny 2 0 29]

/-- CAN_FILTER (R371). -/
def canFilterRun (c : Cmd) (s : Dev) : Res :=
  done (s.canMod (argF c 0 0 2) fun k => { k with
    filts := tset {} k.filts (argF c 0 2 5)
      { en := argB c 0 7, ide := argB c 0 8, id := (arg c 1).toNat, mask := (arg c 2).toNat } }) []

/-- The data lengths of CAN FD; classical CAN ends at 8. -/
def canLen (fd : Bool) (n : Nat) : Bool := decide (n ≤ 8) || (fd && [12, 16, 20, 24, 32, 48, 64].contains n)

/-- Fields of CAN_SEND. -/
def canSendFields : List FieldRule := [fAny 0 0 13, fAny 1 0 29, fWord 2, fWord 3]

/-- CAN_SEND (R372): the frame queues, and the command completes when it has been sent. (DEDUCED: log entry 110.) -/
def canSendRun (c : Cmd) (s : Dev) : Res :=
  let p := argF c 0 0 2
  let k := s.can p
  let n := argF c 0 6 7
  if !canLen (argB c 0 2) n then refuse s .reservedValue
  else if k.st = .busOff then refuse s .canBusOff
  else if 32 ≤ k.txq.length then refuse s .canQueueFull
  else later' (s.canMod p fun k => { k with
    txq := k.txq ++ [{
      id := (arg c 1).toNat, ide := argB c 0 4, rtr := argB c 0 5, fd := argB c 0 2, brs := argB c 0 3, isb := false
      data := fitTo n c.data, path := c.path, tag := c.tag }] })

/-- Of two queued frames the one that goes first (R372). -/
def canFirst : List CanTx → Option CanTx
  | [] => none
  | x :: xs => match canFirst xs with
    | some y => if y.id < x.id then some y else some x
    | none => some x

/-- CAN_TX_COMPLETE (R372): the lowest identifier is sent, and its command completes with the start-of-frame timestamp and
the retransmissions, or the bytes of the ISOBUS message. -/
def execCanTxComplete (p : Fin 4) (retries : Nat) (s : State) : Host.Outcome State Fault Refusal := act s fun s =>
  let k := s.can p.val
  match canFirst k.txq with
  | some x =>
    if !k.en || decide (k.st = .busOff) then s
    else
      let s := s.canMod p.val fun k => { k with
        txq := k.txq.erase x, sent := min (k.sent + 1) 0xFFFFFFFF, retries := min (k.retries + retries) 0xFFFFFFFF }
      (if x.isb then s.owe x.path x.tag .isbSend .success [word x.data.length]
        else s.owe x.path x.tag .canSend .success (stampWords s.tbs.time ++ [sat32 retries]))
  | none => s

/-- A record of CAN_READ, 88 bytes (R371). -/
def canRecord (p : Nat) : QItem CanRx → List Byte
  | .data x _ =>
    let f := x.frame
    leBytes 10 (stamp80 x.ts) ++ leBytes 1 p
      ++ leBytes 1 (b2n f.fd + 2 * b2n f.brs + 4 * b2n f.esi + 8 * b2n f.ide + 16 * b2n f.rtr)
      ++ leBytes 4 (f.id % 2 ^ 29) ++ leBytes 1 f.dlc ++ leBytes 1 (min f.data.length 64) ++ [0, 0, 0, 0, 0, 0]
      ++ fitTo 64 f.data
  | .gap n => List.replicate 10 0 ++ leBytes 1 p ++ [0x20] ++ List.replicate 6 0 ++ leBytes 2 n ++ List.replicate 68 0

/-- CAN_READ (R371). -/
def canReadRun (c : Cmd) (s : Dev) : Res :=
  let p := argF c 0 0 2
  queueRead (.can (Fin.ofNat 4 p)) c s (s.can p).rxq (canRecord p) fun s q => s.canMod p fun k => { k with rxq := q }

/-- A message of ISB_READ (14): header, data, and padding to a multiple of 4. -/
def isbRecord (p : Nat) : QItem IsbMsg → List Byte
  | .data m _ =>
    leBytes 10 (stamp80 m.ts) ++ leBytes 1 p ++ [0] ++ leBytes 1 m.sa ++ leBytes 1 m.da ++ leBytes 3 m.pgn
      ++ leBytes 1 m.prio ++ leBytes 4 m.data.length ++ [0, 0] ++ fitTo ((m.data.length + 3) / 4 * 4) m.data
  | .gap n => List.replicate 10 0 ++ leBytes 1 p ++ [1] ++ List.replicate 6 0 ++ leBytes 4 n ++ [0, 0]

/-- ISB_READ (R374). -/
def isbReadRun (c : Cmd) (s : Dev) : Res :=
  let p := argF c 0 0 2
  queueRead (.isb (Fin.ofNat 4 p)) c s (s.can p).isbq (isbRecord p) fun s q => s.canMod p fun k => { k with isbq := q }

/-- An acceptance filter takes a frame (R371). -/
def CanFilt.takes (f : CanFilt) (x : CanFrame) : Bool :=
  f.en && f.ide == x.ide && (f.id ^^^ x.id) &&& f.mask == 0

/-- CAN_FRAME_RECEIVE (R371, R374): a frame that passes a filter enters the receive queue; an ISOBUS message that it
completes and that the PGN list names enters the port's message queue. -/
def execCanFrameReceive (p : Fin 4) (f : CanFrame) (s : State) : Host.Outcome State Fault Refusal := act s fun s =>
  let k := s.can p.val
  if !k.en || decide (k.st = .busOff) then s
  else
    let s := if k.filts.any fun x => x.2.takes f then
        let r := k.rxq.push { ts := s.tbs.time, frame := f } true
        ((s.canMod p.val fun k => { k with rxq := r.1 }).irqIf 10 r.2).serveQueue (.can p) r.1 (canRecord p.val)
          fun s q => s.canMod p.val fun k => { k with rxq := q }
      else s
    match f.isb with
    | some (sa, da, pgn, prio, data) =>
      if k.isb && k.pgns.any fun x => x.2 == some pgn then
        let r := (s.can p.val).isbq.push { ts := s.tbs.time, sa := sa, da := da, pgn := pgn, prio := prio, data := data } true
        (((s.canMod p.val fun k => { k with isbq := r.1 }).irqIf 10 r.2).serveQueue (.isb p) r.1 (isbRecord p.val)
          fun s q => s.canMod p.val fun k => { k with isbq := q })
      else s
    | none => s

/-- CAN_BUS_OFF (R370). -/
def execCanBusOff (p : Fin 4) (s : State) : Host.Outcome State Fault Refusal := act s fun s =>
  if (s.can p.val).en ∧ (s.can p.val).st = .active then
    ((s.canMod p.val fun k => { k with st := .busOff, offs := min (k.offs + 1) 0xFFFFFFFF }).irq 10)
  else s

/-- CAN_BUS_OFF_RECOVERY (R370): the port recovers, with a record. -/
def execCanBusOffRecovery (p : Fin 4) (s : State) : Host.Outcome State Fault Refusal := act s fun s =>
  if (s.can p.val).st = .busOff then
    ((s.canMod p.val fun k => { k with st := .active }).log (fwCode 1 0x0C 0x11) (leBytes 1 p.val))
  else s

/-- Fields of ISB_CFG. -/
def isbCfgFields : List FieldRule := [fAny 0 0 11, fWord 1, fWord 2, fWord 3, fWord 4, fAny 5 0 22]

/-- ISB_CFG (R373, R374): while the port is disabled. (DEDUCED: log entry 110.) -/
def isbCfgRun (c : Cmd) (s : Dev) : Res :=
  let p := argF c 0 0 2
  let k := s.can p
  let n : Can := { k with
    isb := argB c 0 2, pref := argF c 0 3 8, name := BitVec.ofNat 64 (arg64 c 1)
    alts := (argBytes c 3 2).map BitVec.toNat
    pgns := tset none k.pgns (argF c 5 18 3) (if argB c 5 21 then some (argF c 5 0 18) else none) }
  if n = k then done s [] else if k.en then refuse s .notHalted else done (s.canMod p fun _ => n) []

/-- ISB_CLAIM_LOST (R373): the next alternate, or 254 with a record when none is left. -/
def execIsbClaimLost (p : Fin 4) (s : State) : Host.Outcome State Fault Refusal := act s fun s =>
  let k := s.can p.val
  if !k.en || !k.isb || k.addr == 254 then s
  else match (k.alts.filter fun a => a != 0xFF)[k.nextAlt]? with
  | some a => ((s.canMod p.val fun k => { k with addr := a, nextAlt := k.nextAlt + 1 }).irqIf 10 (a != k.addr))
  | none => (((s.canMod p.val fun k => { k with addr := 254 }).irq 10).log (fwCode 1 0x0C 0x12) (leBytes 1 p.val))

/-- Fields of ISB_SEND. -/
def isbSendFields : List FieldRule := fAny 0 0 31 :: fWords 1 3

/-- ISB_SEND (R374): up to 8 bytes go as one frame padded with 0xFF; a longer message uses the transport of R373, which the
model takes as one item of the send queue. (DEDUCED: log entry 110.) -/
def isbSendRun (c : Cmd) (s : Dev) : Res :=
  let p := argF c 0 0 2
  let k := s.can p
  let n := (arg c 3).toNat
  let pgn := argF c 0 13 18
  let da := argF c 0 5 8
  if !k.isb || k.addr == 254 then refuse s .isbNoAddress
  else if 1048576 < n then refuse s .isbTooLong
  else later' (s.canMod p fun k => { k with
    txq := k.txq ++ [{
      id := 2 ^ 26 * argF c 0 2 3 + 2 ^ 8 * (if pgn / 256 % 256 < 240 then pgn / 256 * 256 + da else pgn) + k.addr
      ide := true, rtr := false, fd := false, brs := false, isb := true
      data := fitTo n c.data, path := c.path, tag := c.tag }] })

/-! ### SMBus (R375, R376) -/

/-- Fields of SMB_XFER. -/
def smbXferFields : List FieldRule := [fAny 0 0 8, fIn 0 8 6 0 32, fIn 0 14 6 0 32, fAny 0 20 2, fWord 1, fWord 2]

/-- SMB_XFER (R375): the transfer queues on its master. -/
def smbXferRun (c : Cmd) (s : Dev) : Res :=
  later' (s.smbMod (argF c 0 0 1) fun m => { m with
    q := m.q ++ [{
      path := c.path, tag := c.tag, addr := argF c 0 1 7, wlen := argF c 0 8 6, rlen := argF c 0 14 6
      pec := argB c 0 20, fast := argB c 0 21, buf := arg64 c 1 }] })

/-- Data written into a buffer from an offset on. -/
def Dev.toBufferAt (s : Dev) (p : Path) (a ofs : Nat) (bs : List Byte) : Dev :=
  match p with
  | .mbx ch => if 8 ≤ ch.val ∧ ch.val ≤ 11 ∧ a = xferAddr then s.xferWrite ch.val ofs bs else s.dma (a + ofs) bs
  | _ => s.dma (a + ofs) bs

/-- SMB_XFER_DONE (R375): the oldest transfer of a master ends. -/
def execSmbXferDone (master : Fin 2) (r : SmbEnd) (s : State) : Host.Outcome State Fault Refusal := act s fun s =>
  match (s.smb master.val).q with
  | [] => s
  | x :: xs =>
    let s := s.smbMod master.val fun m => { m with q := xs }
    let fail (n : Nat) (c : Rc) : Dev :=
      (s.smbMod master.val fun m => { m with fails := tinc m.fails n }).owe x.path x.tag .smbXfer c []
    match r with
    | .ok bs =>
      let bs := fitTo x.rlen bs
      ((s.toBufferAt x.path x.buf 32 bs).owe x.path x.tag .smbXfer .success (word x.rlen :: packWords (fitTo 12 bs)))
    | .nack => (fail 0 .smbNack)
    | .timeout => (fail 1 .smbTimeout)
    | .pec => (fail 2 .smbPec)

/-! ### GPIO (R380) -/

/-- Pin 31 serves Bellows (R380). -/
def Dev.pin31 (s : Dev) (m : Word) : Bool := s.blw.cfg.gate && wbit m 31

/-- Fields of GPIO_CFG. -/
def gpioCfgFields : List FieldRule := [fWord 0, fIn 1 0 2 0 2, fIn 1 2 2 0 2, fAny 1 4 2]

/-- GPIO_CFG (R380). -/
def gpioCfgRun (c : Cmd) (s : Dev) : Res :=
  if s.pin31 (arg c 0) then refuse s .gpioInUse
  else done ((List.range 32).foldl (fun s k =>
    if argB c 0 k then s.pinMod k fun _ => { dir := argF c 1 0 2, pull := argF c 1 2 2, edge := argF c 1 4 2 } else s) s) []

/-- Fields of GPIO_WRITE. -/
def gpioWriteFields : List FieldRule := [fWord 0, fWord 1]

/-- GPIO_WRITE (R380): a pin in both masks is refused. -/
def gpioWriteRun (c : Cmd) (s : Dev) : Res :=
  if arg c 0 &&& arg c 1 ≠ 0 then refuse s .reservedValue
  else if s.pin31 (arg c 0 ||| arg c 1) then refuse s .gpioInUse
  else done { s with ifc := { s.ifc with drive := (s.ifc.drive ||| arg c 0) &&& ~~~(arg c 1) } } []

/-- Level of a pin (R380): as driven, or as sensed at the ball. -/
def Dev.pinLevel (s : Dev) (k : Nat) : Bool :=
  if k = 31 ∧ s.blw.cfg.gate then s.blw.gpio31
  else match (s.pin k).dir with
  | 1 => s.ifc.drive.getLsbD k
  | 2 => s.ifc.drive.getLsbD k && s.ifc.level.getLsbD k
  | _ => s.ifc.level.getLsbD k

/-- GPIO_READ (R381). -/
def gpioReadRun (_c : Cmd) (s : Dev) : Res :=
  done s [word ((List.range 32).foldl (fun n k => n + 2 ^ k * b2n (s.pinLevel k)) 0)]

/-- GPIO_EDGE (R380, R340): a selected edge raises GPIO, and wakes the device where PWR_WAKE_CFG selects the pin. -/
def execGpioEdge (pin : Fin 32) (rising : Bool) (s : State) : Host.Outcome State Fault Refusal := act s fun s =>
  let bit := BitVec.ofNat 32 (2 ^ pin.val)
  let s := { s with ifc := { s.ifc with
    level := if rising then s.ifc.level ||| bit else s.ifc.level &&& ~~~bit } }
  let e := (s.pin pin.val).edge
  if pin.val = 31 ∧ s.blw.cfg.gate then s
  else if e = 3 ∨ (e = 1 ∧ rising) ∨ (e = 2 ∧ !rising) then
    (let s := s.irq 11
     (if s.blw.wakeGpio.getLsbD pin.val then s.wake 5 else s))
  else s

/-- CAP_EDGE (02 R71, R340): a qualified edge dt after now, which wakes the device where PWR_WAKE_CFG selects the input. -/
def execCapEdge (n : Fin 16) (falling : Bool) (dt : Nat) (s : State) : Host.Outcome State Fault Refusal := act s fun s =>
  let s := (s.advance dt).capture n.val falling
  (if s.blw.wakeCap.getLsbD n.val && (s.capt n.val).edge.testBit (b2n falling) then s.wake 4 else s)

/-! ### ADC (R377) -/

/-- Fields of ADC_CFG. -/
def adcCfgFields : List FieldRule :=
  [fIn 0 0 5 1 16, fIn 0 5 20 100 1000000, fAny 1 0 20, fAny 2 0 30, fAny 3 0 18, fAny 4 0 29]

/-- ADC_CFG (R377). -/
def adcCfgRun (c : Cmd) (s : Dev) : Res :=
  let n := argF c 0 0 5
  let p := argF c 0 5 20
  if (100000 % p ≠ 0 ∧ p % 100000 ≠ 0) ∨ p - 16 < argF c 1 0 20 then refuse s .reservedValue
  else done { s with ifc := { s.ifc with
    adcN := n, adcPeriod := p, adcOffset := argF c 1 0 20
    adcSeq := (List.range 16).map fun i => if i < 10 then argF c 2 (3 * i) 3 else argF c 3 (3 * (i - 10)) 3
    adcLim := tset {} s.ifc.adcLim (argF c 4 0 3)
      { en := argB c 4 28, lo := argF c 4 4 12, hi := argF c 4 16 12 } } } []

/-- A block of ADC_READ (R377). -/
def adcRecord : QItem AdcBlk → List Byte
  | .data b _ => leBytes 10 (stamp80 b.ts) ++ leBytes 1 b.words.length ++ [0, 0, 0, 0, 0] ++ b.words.flatMap (leBytes 2)
  | .gap n => List.replicate 11 0 ++ [1] ++ leBytes 2 n ++ [0, 0]

/-- ADC_READ (R377). -/
def adcReadRun (c : Cmd) (s : Dev) : Res :=
  queueRead .adc c s s.ifc.adcq adcRecord fun s q => { s with ifc := { s.ifc with adcq := q } }

/-- A code lies outside the limits of its channel. (DEDUCED: log entry 129.) -/
def AdcLim.outside (l : AdcLim) (code : Nat) : Bool := l.en && (decide (code < l.lo) || decide (l.hi < code))

/-- The alarms of a sequence (R377): the second sequence in a row with a code outside a channel's limits.
(DEDUCED: log entry 129.) -/
def Dev.adcAlarms (s : Dev) (convs : List (Nat × Nat)) : Dev :=
  (List.range 8).foldl (fun s ch =>
    let cs := convs.filter fun x => x.1 == ch
    if cs.isEmpty then s
    else
      let bad := cs.any fun x => (s.adcLim ch).outside x.2
      let n := if bad then min ((s.adcLim ch).out + 1) 3 else 0
      let s := s.adcLimMod ch fun l => { l with out := n }
      if n = 2 then (s.irq 9).log (fwCode 1 0x0C 0x13) (leBytes 1 ch) else s) s

/-- ADC_SEQUENCE (R377): CMP6 starts a sequence at the next instant of its grid; the step gives the codes.
(DEDUCED: log entries 19, 129.) -/
def execAdcSequence (codes : List (Fin 4096)) (s : State) : Host.Outcome State Fault Refusal := act s fun s =>
  if !s.tbs.en || s.tbs.resync || s.ifc.adcN == 0 then s
  else
    let p := s.ifc.adcPeriod * usU
    let o := s.ifc.adcOffset * usU
    let x := nextFire p o s.tbs.time s.ifc.adcAt
    let s := s.advanceTo x
    let s := { s with ifc := { s.ifc with adcAt := some x } }
    let convs := (List.range s.ifc.adcN).map fun i => (s.ifc.adcSeq.getD i 0, (codes.getD i 0).val)
    let b : AdcBlk := {
      ts := s.tbs.time
      words := convs.map fun x => x.2 + 2 ^ 12 * x.1 + 2 ^ 15 * b2n ((s.adcLim x.1).outside x.2) }
    let r := s.ifc.adcq.push b true
    let s := ({ s with ifc := { s.ifc with adcq := r.1 } }.irqIf 9 r.2).adcAlarms convs
    (s.serveQueue .adc s.ifc.adcq adcRecord fun s q => { s with ifc := { s.ifc with adcq := q } })

/-! ### IF_STATUS (R381, 14) -/

/-- Fields of IF_STATUS: ten interfaces. -/
def ifStatusFields : List FieldRule := [fIn 0 0 4 0 9]

/-- Response words filled up to 8. -/
def eight (ws : List Word) : List Word := (ws ++ List.replicate 8 0).take 8

/-- IF_STATUS (R381): the state in an encoding that no rule gives, then the counts in the order of R381. The error counters
of a CAN controller are free values. (DESIGN CHOICE: log entry 109.) -/
def ifStatusRun (c : Cmd) (s : Dev) : Res :=
  let i := argF c 0 0 4
  let st (a b : Nat) : Word := Config.ifState i a b
  if i = 0 then done s (eight (st (s.ifc.pcieGen * b2n s.ifc.pcie) (s.ifc.pcieWidth * b2n s.ifc.pcie)
    :: (List.range 3).map fun k => sat32 (tget 0 s.ifc.aer k)))
  else if i = 1 then
    let sum (f : Nq → Nat) := ((List.range 16).map fun r => f (s.nq r)).sum
    done s (eight [st 0 0, sat32 (sum fun n => n.q.drops), sat32 (sum Nq.errs)])
  else if i < 6 then
    let k := s.can (i - 2)
    let a := s.draw
    let b := a.2.draw
    done b.2 (eight [st (b2n k.en + 2 * b2n (k.st == .busOff)) k.addr, a.1, b.1])
  else if i < 8 then done s (eight (st (s.smb (i - 6)).q.length 0 :: (List.range 3).map fun k => sat32 (tget 0 (s.smb (i - 6)).fails k)))
  else if i = 8 then done s (eight [st 0 0, sat32 s.ifc.spiErrs])
  else done s (eight [st s.ifc.baud 0, sat32 s.ifc.uartErrs])

end Sys2Proof.Machine
end

