-- ==== Sys2Proof/Machine/Mailbox.lean ====
section
/-! DEFINITION. Mailbox channels, command rings and their completions, and the loss of the host link (13 R382 to R406, 12
R357, R366, R369, 14 R411, R412). What a taken command does stands in `Catalogue` and `Intake`. -/
namespace Sys2Proof.Machine

/-! ### Endpoints (R383 to R385) -/

/-- Endpoint A (b = false) or B of a channel: the binding table, and the two rows a binding record may change. -/
def Dev.endpoint (s : Dev) (ch : Nat) (b : Bool) : Master :=
  if ch ≤ 7 then (if b then .sup else .hpf0)
  else if ch = 11 ∧ s.mbx.bind11 then (if b then .sec else .spih)
  else if ch ≤ 11 then (if b then .sup else .spih)
  else if ch = 12 then (if b then .sup else if s.mbx.bind12 then .dbg else .uart)
  else if ch = 13 then (if b then .sup else .sec)
  else if ch = 14 then (if b then .sup else .safe)
  else if ch = 15 then (if b then .sec else .hpf0)
  else if b then .sup else .clu

/-- The end of a channel that a master accesses (R384). (DEDUCED: log entry 135.) -/
def Dev.endOf (s : Dev) (ch : Nat) (m : Master) : Option Bool :=
  if s.endpoint ch false = m then some false else if s.endpoint ch true = m then some true else none

/-- Key of a channel's end. -/
def endKey (ch : Nat) (b : Bool) : Nat := 2 * ch + b2n b

/-- One end of a channel. -/
def Dev.mboxEnd (s : Dev) (ch : Nat) (b : Bool) : MEnd := s.mend (endKey ch b)

/-- Changes one end of a channel. -/
def Dev.mboxMod (s : Dev) (ch : Nat) (b : Bool) (g : MEnd → MEnd) : Dev := s.mendMod (endKey ch b) g

/-- The message of an end is acknowledged and not yet freed. -/
def MEnd.done (e : MEnd) : Bool := wbit e.ack 31

/-- The peer's message waits to be taken (R388). -/
def MEnd.posted (e : MEnd) : Bool := e.full && !e.taken

/-- The peer's message has been taken and not acknowledged (R389). -/
def MEnd.held (e : MEnd) : Bool := e.full && e.taken && !e.done

/-- Bits of DB_IN rise: the end's interrupt is sent on each rise of an unmasked bit (R391). -/
def Dev.dbSet (s : Dev) (ch : Nat) (b : Bool) (v : Word) : Dev :=
  let e := s.mboxEnd ch b
  let s' := s.mboxMod ch b fun e => { e with dbIn := e.dbIn ||| v }
  if (v &&& ~~~e.dbIn &&& e.dbMask) ≠ 0 ∧ s.endpoint ch b = .hpf0 then s'.vector (if ch = 15 then 8 else ch) else s'

/-- CROSSED (R392). -/
def Dev.crossed (s : Dev) (ch : Nat) : Bool :=
  let a := s.mboxEnd ch false
  let b := s.mboxEnd ch true
  a.posted && b.posted && !a.done && !b.done && a.waiting && b.waiting

/-- A rise of CROSSED against an earlier state sets CROSSED_SEEN and ALERT at both ends (R392). -/
def Dev.crossCheck (s old : Dev) (ch : Nat) : Dev :=
  if s.crossed ch && !old.crossed ch then
    let s := (s.mboxMod ch false fun e => { e with crossedSeen := true }).mboxMod ch true fun e => { e with crossedSeen := true }
    ((s.dbSet ch false 4).dbSet ch true 4).pathCntMod ch fun n => { n with crossed := min (n.crossed + 1) 0xFFFFFFFF }
  else s

/-! ### The four states of a slot (R387 to R395) -/

/-- A message is posted in a free slot, its timeout with the ACK_TMO_MS in force (R388, R394). -/
def Dev.mbxPost (s : Dev) (ch : Nat) (b : Bool) (msg : List Word) : Dev :=
  let t := s.mboxMod ch b fun e => { e with
    msg := msg, full := true, taken := false, ack := e.ack &&& 0x7FFFFFFF
    dueAt := some (s.tbs.mono + e.tmo * msU) }
  (t.dbSet ch (!b) 1).crossCheck s ch

/-- A write to an OUT_MSG word of a slot that is not free: WRITE_REJECT (R388). -/
def Dev.mbxReject (s : Dev) (ch : Nat) (b : Bool) : Dev :=
  (s.mboxMod ch b fun e => { e with reject := true }).pathCntMod ch fun n => { n with reject := min (n.reject + 1) 0xFFFFFFFF }

/-- A message with its header set; the reserved header bits are not kept (00 R9). -/
def withHeader (msg : List Word) (hdr : Word) : List Word := (hdr &&& 0x0FFFFFFF) :: msg.drop 1

/-- A write of OUT_MSG word 0 by end b posts the message (R388). -/
def Dev.mbxHeader (s : Dev) (ch : Nat) (b : Bool) (hdr : Word) : Dev :=
  let e := s.mboxEnd ch b
  if e.full then s.mbxReject ch b else s.mbxPost ch b (withHeader e.msg hdr)

/-- MBX_POST (R388): the write of word 0 posts the message. -/
def execMbxPost (m : Master) (ch : Fin 32) (hdr : Word) (s : State) : Host.Outcome State Fault Refusal := act s fun s =>
  (match s.endOf ch.val m with
  | some b => s.mbxHeader ch.val b hdr
  | none => s.turnAway m)

/-- A write of WAITING by end b (R392). -/
def Dev.mbxWait (s : Dev) (ch : Nat) (b on : Bool) : Dev :=
  (s.mboxMod ch b fun e => { e with waiting := on }).crossCheck s ch

/-- MBX_WAITING (R392). -/
def execMbxWaiting (m : Master) (ch : Fin 32) (on : Bool) (s : State) : Host.Outcome State Fault Refusal := act s fun s =>
  (match s.endOf ch.val m with
  | some b => s.mbxWait ch.val b on
  | none => s.turnAway m)

/-- An IN_ACK write of end b with DONE = 1 (R390): the sender's OUT_ACK and DB_IN.ACK are set. -/
def Dev.mbxAck (s : Dev) (ch : Nat) (b : Bool) (v : Word) : Dev :=
  if (s.mboxEnd ch !b).held then
    if wbit v 31 then
      (s.mboxMod ch (!b) fun e => { e with ack := v &&& 0x8FFFFFFF, dueAt := none }).dbSet ch (!b) 2
    else s
  else s.mboxMod ch b fun e => { e with ackErr := true }

/-- MBX_ACK (R390). -/
def execMbxAck (m : Master) (ch : Fin 32) (v : Word) (s : State) : Host.Outcome State Fault Refusal := act s fun s =>
  (match s.endOf ch.val m with
  | some b => s.mbxAck ch.val b v
  | none => s.turnAway m)

/-- Clearing DONE frees the slot of end b (R390). -/
def Dev.mbxFree (s : Dev) (ch : Nat) (b : Bool) : Dev :=
  if (s.mboxEnd ch b).done then
    s.mboxMod ch b fun e => { e with ack := e.ack &&& 0x7FFFFFFF, full := false, taken := false }
  else s

/-- MBX_FREE (R390). -/
def execMbxFree (m : Master) (ch : Fin 32) (s : State) : Host.Outcome State Fault Refusal := act s fun s =>
  (match s.endOf ch.val m with
  | some b => s.mbxFree ch.val b
  | none => s.turnAway m)

/-- MBX_RING (R391): software bits 3 to 31 of the peer's DB_IN. -/
def execMbxRing (m : Master) (ch : Fin 32) (v : Word) (s : State) : Host.Outcome State Fault Refusal := act s fun s =>
  (match s.endOf ch.val m with
  | some b => s.dbSet ch.val (!b) (v &&& 0xFFFFFFF8)
  | none => s.turnAway m)

/-- MBX_ACK_TIMEOUT (R394): a message not taken is withdrawn, and firmware posts a withdrawn ASYNC_DONE again, with a
record; a taken one stays, with TAKEN_LATE. (DEDUCED: log entry 112.) -/
def execMbxAckTimeout (ch : Fin 32) (endB : Bool) (s : State) : Host.Outcome State Fault Refusal := act s fun s =>
  let e := s.mboxEnd ch.val endB
  match e.dueAt with
  | some t =>
    let s := s.advanceMono t
    if e.posted then
      let s := s.mboxMod ch.val endB fun e => { e with full := false, timeout := true, dueAt := none }
      let s := (s.dbSet ch.val endB 4).pathCntMod ch.val fun n => { n with timeout := min (n.timeout + 1) 0xFFFFFFFF }
      let m := s.endpoint ch.val endB
      (if (m = .sup ∨ m = .sec) ∧ wbits (e.msg.getD 0 0) 0 16 = 1 then
          (s.mbxPost ch.val endB e.msg).log (fwCode 1 0x0D 0x10) (leBytes 1 ch.val)
        else s)
    else
      let s := s.mboxMod ch.val endB fun e => { e with late := true, dueAt := none }
      ((s.dbSet ch.val endB 4).pathCntMod ch.val fun n => { n with late := min (n.late + 1) 0xFFFFFFFF })
  | none => s

/-- UART_FRAME (12 R369): a frame of the UART bridge carries a message of channel 12: its words, the header last. A wrong
CRC or length is counted. (DEDUCED: log entry 114.) -/
def execUartFrame (bytes : List Byte) (crc : BitVec 16) (s : State) : Host.Outcome State Fault Refusal := act s fun s =>
  let ws := packWords bytes
  let need := 4 * (1 + wbits (ws.getD 0 0) 24 4)
  if crc16 bytes ≠ crc.toNat ∨ bytes.length < 4 ∨ 64 < bytes.length ∨ bytes.length % 4 ≠ 0 ∨ bytes.length < need then
    { s with ifc := { s.ifc with uartErrs := min (s.ifc.uartErrs + 1) 0xFFFFFFFF } }
  else (match s.endOf 12 .uart with
  | some b =>
    let e := s.mboxEnd 12 b
    if e.full then s.mbxReject 12 b
    else s.mbxPost 12 b ((ws.getD 0 0 &&& 0x0FFFFFFF) :: (ws.drop 1 ++ e.msg.drop ws.length))
  | none => s)

/-! ### Completions of command rings (R399 to R405) -/

/-- U: completions not yet consumed (R399). -/
def Ring.unread (k : Ring) : Nat := (k.cqTail + 2 ^ k.cqLog - k.cqHead % 2 ^ k.cqLog) % 2 ^ k.cqLog

/-- Entries posted and not fetched. (DEDUCED: log entry 113.) -/
def Ring.ready (k : Ring) : Bool := k.sqHead % 2 ^ k.sqLog != k.sqTail % 2 ^ k.sqLog

/-- Tags of ledger pool 5 in use: those of the rings and of the management paths (01 R31, 14 R412). -/
def Dev.tagsUsed (s : Dev) : Nat :=
  (s.cr.rings.map fun k => k.2.flight.length).sum + s.sw.mgmtBusy.length

/-- The conditions of a fetch but EN and a posted entry (R399). -/
def Dev.ringRoom (s : Dev) (k : Ring) : Bool :=
  decide (k.flight.length < 256) && decide (s.tagsUsed < 1024)
    && decide (2 * (k.flight.length + 1) + k.unread ≤ 2 ^ k.cqLog - 1)

/-- THROTTLED follows the conditions (R399). -/
def Dev.throttle (s : Dev) (r : Nat) : Dev :=
  s.ringMod r fun k => { k with throttled := k.en && k.ready && !s.ringRoom k }

/-- The ring's vector, subject to COAL_US (R401). -/
def Dev.crSignal (s : Dev) (r : Nat) : Dev :=
  let k := s.ring r
  if k.coal = 0 ∨ k.msgAt.all fun t => decide (t + k.coal * usU ≤ s.tbs.mono) then
    (s.ringMod r fun k => { k with msgAt := some s.tbs.mono, held := false }).vector (9 + r)
  else s.ringMod r fun k => { k with held := true }

/-- COAL_EXPIRY (R401). -/
def execCoalExpiry (r : Fin 16) (s : State) : Host.Outcome State Fault Refusal := act s fun s =>
  let k := s.ring r.val
  if k.held then ((s.advanceMono (k.msgAt.getD 0 + k.coal * usU)).crSignal r.val) else s

/-- Writes response words and a completion entry, and signals (R401): the flags are 2 INTERIM and 4 TXN. -/
def Dev.crComplete (s : Dev) (r idx : Nat) (tag : BitVec 8) (code : Rc) (flags : Nat) (ws : List Word)
    (epoch : Word) : Dev :=
  let k := s.ring r
  let ws := ws.take 15
  let s := s.dma (k.sqBase + 64 * idx + 4) (ws.flatMap fun w => leBytes 4 w.toNat)
  let s := s.dma (k.cqBase + 16 * (k.cqTail % 2 ^ k.cqLog))
    (leBytes 2 (rcCode code) ++ leBytes 1 tag.toNat ++ leBytes 1 (b2n k.phase + flags) ++ leBytes 2 idx
      ++ leBytes 1 ws.length ++ [0] ++ leBytes 4 epoch.toNat ++ leBytes 4 0)
  let s := s.ringMod r fun k =>
    let t := k.cqTail % 2 ^ k.cqLog + 1
    let n := { k with cqTail := t % 2 ^ k.cqLog, phase := if t = 2 ^ k.cqLog then !k.phase else k.phase }
    { n with q := n.q.settle k.unread n.unread }
  s.crSignal r

/-- The command of a ring that holds a tag. -/
def Ring.byTag (k : Ring) (tag : BitVec 8) : Option Flight := k.flight.find? fun f => f.tag == tag

/-- The first completion of a command that goes on: INTERIM, and TXN where it is staged (R401, R402). -/
def Dev.crInterim (s : Dev) (r : Nat) (tag : BitVec 8) (code : Rc) (ws : List Word) (epoch : Word) : Dev :=
  match (s.ring r).byTag tag with
  | some f =>
    let s := s.ringMod r fun k => { k with
      flight := k.flight.map fun g => if g.tag = tag then { g with dueAt := none, interim := true } else g }
    if f.lost || f.discard then s
    else s.crComplete r f.idx tag code (2 + 4 * b2n (code == .txnStaged)) ws epoch
  | none => s

/-- The end of a command frees its tag: its final completion, or a record where the completion is discarded or the result
is late (R357, R402, R403, R405). -/
def Dev.crFinal (s : Dev) (r : Nat) (tag : BitVec 8) (code : Rc) (ws : List Word) (epoch : Word) : Dev :=
  match (s.ring r).byTag tag with
  | some f =>
    let s := s.ringMod r fun k => { k with flight := k.flight.erase f }
    let name := leBytes 1 r ++ leBytes 1 tag.toNat ++ leBytes 2 f.op
    let s := if f.discard then s.log (fwCode 1 0x0D 0x11) name
      else if f.lost then s.log (fwCode 1 0x0D 0x13) name
      else s.crComplete r f.idx tag code 0 ws epoch
    s.throttle r
  | none => s

/-- CMD_TIMEOUT (R403): no first completion within TMO_MS; the tag stays held until the command ends. -/
def execCmdTimeout (r : Fin 16) (tag : BitVec 8) (s : State) : Host.Outcome State Fault Refusal := act s fun s =>
  match (s.ring r.val).byTag tag with
  | some f =>
    match f.dueAt with
    | some t =>
      let s := s.advanceMono t
      let s := s.ringMod r.val fun k => { k with
        flight := k.flight.map fun g => if g.tag = tag then { g with dueAt := none, lost := true } else g }
      let s := s.pathCntMod (32 + r.val) fun n => { n with cmdTmo := min (n.cmdTmo + 1) 0xFFFFFFFF }
      let s := if f.discard then s else s.crComplete r.val f.idx tag .cmdTimeout 0 [] s.epoch
      (s.log (fwCode 1 0x0D 0x12) (leBytes 1 r.val ++ leBytes 1 tag.toNat ++ leBytes 2 f.op))
    | none => s
  | none => s

/-- Changes a ring; the watermarks of its queue view follow U (R404). -/
def Dev.ringMove (s : Dev) (r : Nat) (g : Ring → Ring) : Dev :=
  s.ringMod r fun k => (let n := g k; { n with q := n.q.settle k.unread n.unread })

/-- A write of CR_SQ_TAIL (R399). -/
def Dev.crTail (s : Dev) (r : Nat) (v : Word) : Dev :=
  (s.ringMod r fun k => { k with sqTail := wbits v 0 12 }).throttle r

/-- A write of CR_CQ_HEAD (R399, R404): the host consumes completions. -/
def Dev.crHead (s : Dev) (r : Nat) (v : Word) : Dev :=
  (s.ringMove r fun k => { k with cqHead := wbits v 0 12 }).throttle r

/-- CR_SQ_TAIL_WRITE (R399). -/
def execCrSqTailWrite (r : Fin 16) (v : Word) (s : State) : Host.Outcome State Fault Refusal := act s fun s =>
  (s.crTail r.val v)

/-- CR_CQ_HEAD_WRITE (R399, R404). -/
def execCrCqHeadWrite (r : Fin 16) (v : Word) (s : State) : Host.Outcome State Fault Refusal := act s fun s =>
  (s.crHead r.val v)

/-- A write of CR_CTRL (R398, R405, 00 R497): an EN write with an invalid size leaves the ring stopped with CFG_REJECT; a
ring with ERR starts only when the host has cleared ERR. (DEDUCED: log entry 113.) -/
def Dev.crCtrl (s : Dev) (r : Nat) (v : Word) : Dev :=
  let tmo := wbits v 11 14
  if 1000 < wbits v 1 10 ∨ tmo < 10 ∨ 10000 < tmo then s.cfgReject
  else
    let s := s.ringMod r fun k => { k with coal := wbits v 1 10, tmo := tmo }
    let k := s.ring r
    if !wbit v 0 then (s.ringMod r fun k => { k with en := false }).throttle r
    else if k.en || k.err then s
    else if k.sqLog < 4 ∨ 12 < k.sqLog ∨ k.cqLog < 4 ∨ 12 < k.cqLog then s.cfgReject
    else (s.ringMod r fun k => { k with en := true }).throttle r

/-- CR_ENABLE (R398). -/
def execCrEnable (r : Fin 16) (v : Word) (s : State) : Host.Outcome State Fault Refusal := act s fun s =>
  (s.crCtrl r.val v)

/-- CR_DISABLE (R405): fetching stops at once; commands in flight run on. -/
def execCrDisable (r : Fin 16) (v : Word) (s : State) : Host.Outcome State Fault Refusal := act s fun s =>
  (s.crCtrl r.val v)

/-- The commands in flight complete inside the device, with their completions discarded and recorded (R357, R405). -/
def Dev.crDiscard (s : Dev) (r : Nat) : Dev :=
  s.ringMod r fun k => { k with
    en := false, throttled := false, flight := k.flight.map fun f => { f with discard := true, dueAt := none } }

/-- DMA_ERROR (12 R366, R405). -/
def execDmaError (r : DmaRing) (s : State) : Host.Outcome State Fault Refusal := act s fun s =>
  match r with
  | .nq k => (s.nqDmaError k.val)
  | .cr k =>
    if (s.ring k.val).en then
      (((s.crDiscard k.val).ringMod k.val fun n => { n with err := true }).log (fwCode 2 0x0D 0x14) (leBytes 1 k.val))
    else s

/-! ### Management frames (14 R411, R412) -/

/-- The answer of a management command: the reply frame of its SEQ is stored; the tag is free once nothing follows. -/
def Dev.mgmtAnswer (s : Dev) (hpf1 : Bool) (tag : BitVec 8) (code : Rc) (ws : List Word) : Dev :=
  match s.sw.mgmtBusy.find? fun b => b.hpf1 == hpf1 && b.tag == tag with
  | some b =>
    let rep : MgmtRep := { hpf1 := hpf1, seq := b.seq, at_ := s.tbs.mono, tag := tag, code := code, words := ws }
    let keep := s.sw.replies.filter fun r => decide (s.tbs.mono ≤ r.at_ + secU) && !(r.hpf1 == hpf1 && r.seq == b.seq)
    { s with sw := { s.sw with
      replies := keep ++ [rep]
      mgmtBusy := if code = .acceptedAsync then s.sw.mgmtBusy else s.sw.mgmtBusy.erase b } }
  | none => s

/-- The ASYNC_DONE frame of a management command leaves, and its tag is free. -/
def Dev.mgmtDone (s : Dev) (hpf1 : Bool) (tag : BitVec 8) : Dev :=
  match s.sw.mgmtBusy.find? fun b => b.hpf1 == hpf1 && b.tag == tag with
  | some b => { s with sw := { s.sw with mgmtBusy := s.sw.mgmtBusy.erase b } }
  | none => s

/-! ### Delivery -/

/-- A response fills words 1 to RLEN of a slot (R390). -/
def withResponse (msg ws : List Word) : List Word := msg.take 1 ++ ws.take 15 ++ msg.drop (1 + (ws.take 15).length)

/-- The first answer of a command reaches its sender (R390, R401, 14 R411). -/
def Dev.deliver (s : Dev) (d : Due) : Dev :=
  let s := s.answer d.code d.tag d.words d.epoch
  match d.path with
  | .mbx ch =>
    if (s.mboxEnd ch.val false).held then
      (s.mboxMod ch.val false fun e => { e with msg := withResponse e.msg d.words }).mbxAck ch.val true
        (word (rcCode d.code + 2 ^ 16 * d.tag.toNat + 2 ^ 24 * min d.words.length 15 + 2 ^ 31))
    else s
  | .ring r =>
    if d.code = .acceptedAsync ∨ d.code = .txnStaged then s.crInterim r.val d.tag d.code d.words d.epoch
    else s.crFinal r.val d.tag d.code d.words d.epoch
  | .mgmt => s.mgmtAnswer true d.tag d.code d.words
  | .site => s.mgmtAnswer false d.tag d.code d.words
  | .field => s

/-- EVENT_COMPLETE (11 R325, 13 R402, 14 R499): an event finishes and frees its entry and its core; a command event delivers
its result, or SERVICE_RESTART where its service restarted. (DESIGN CHOICE: log entry 3.) -/
def execEventComplete (entry : Fin 1024) (restarted : Bool) (s : State) : Host.Outcome State Fault Refusal := act s fun s =>
  match tget none s.sch.ents entry.val with
  | some e =>
    match e.core, e.due with
    | none, _ => s
    | some _, none => (s.finish entry.val restarted)
    | some _, some d =>
      let d := if restarted then { d with code := .serviceRestart, words := [] } else d
      ((s.finish entry.val restarted).deliver d)
  | none => s

/-- Whether firmware can deliver a final completion now: a mailbox needs its own slot free (R395).
(DEDUCED: log entry 112.) -/
def Dev.canDeliver (s : Dev) (d : AsyncDone) : Bool :=
  match d.path with
  | .mbx ch => !(s.mboxEnd ch.val true).full || s.mbx.orphans.contains (ch.val, d.tag)
  | _ => true

/-- The ASYNC_DONE message (R395): TAG, CODE and the original OPCODE, then the response words. -/
def asyncMsg (d : AsyncDone) : List Word :=
  let ws := d.words.take 14
  let l := (word (1 + 2 ^ 16 * d.tag.toNat + 2 ^ 24 * (1 + ws.length)))
    :: word (rcCode d.code + 2 ^ 16 * (opInfo d.op).code) :: ws
  l ++ List.replicate (16 - l.length) 0

/-- A final completion reaches its sender (R395, R402); one whose host has gone is discarded and recorded (R357).
(DEDUCED: log entry 112.) -/
def Dev.deliverFinal (s : Dev) (d : AsyncDone) : Dev :=
  let t := s.answer d.code d.tag d.words s.epoch
  match d.path with
  | .mbx ch =>
    if s.mbx.orphans.contains (ch.val, d.tag) then
      { s with mbx := { s.mbx with orphans := s.mbx.orphans.erase (ch.val, d.tag) } }.log (fwCode 1 0x0D 0x11)
        (leBytes 1 (128 + ch.val) ++ leBytes 1 d.tag.toNat ++ leBytes 2 (opInfo d.op).code)
    else { t with mbx := { t.mbx with owed := t.mbx.owed.erase (ch.val, d.tag) } }.mbxPost ch.val true (asyncMsg d)
  | .ring r => t.crFinal r.val d.tag d.code d.words s.epoch
  | .mgmt => t.mgmtDone true d.tag
  | .site => t.mgmtDone false d.tag
  | .field => s

/-- ASYNC_DONE (R395): the oldest final completion that can be delivered. -/
def execAsyncDone (s : State) : Host.Outcome State Fault Refusal := act s fun s =>
  match s.asyncQ.find? s.canDeliver with
  | some d => ({ s with asyncQ := s.asyncQ.erase d }.deliverFinal d)
  | none => s

/-! ### Loss of the host (12 R357, R358, 17 R460) -/

/-- The staged commands of a port's open transaction are discarded; those of a ring complete with a code (01 R44, 13
R402). -/
def Dev.dropStaged (s : Dev) (p : Nat) (code : Rc) : Dev :=
  let l := (s.tport p).staged
  let s := s.tportMod p fun t => { t with staged := [] }
  l.foldl (fun (s : Dev) (x : Staged) =>
    match x.cmd.path with
    | .ring _ => s.owe x.cmd.path x.cmd.tag x.op code (refusalWords x.op)
    | _ => s) s

/-- An open transaction is rolled back. -/
def Dev.rollback (s : Dev) (p : Nat) : Dev :=
  if (s.tport p).st = .opened then (s.dropStaged p .txnDiscarded).tportMod p fun t => { t with st := .none } else s

/-- A slot of an emptied channel: nothing is posted, taken or acknowledged. -/
def MEnd.emptied (e : MEnd) : MEnd :=
  { e with msg := List.replicate 16 0, full := false, taken := false, ack := 0, dueAt := none }

/-- A mailbox channel of the host. -/
def hostChan (ch : Nat) : Bool := ch ≤ 7 || ch == 15

/-- Mailbox channels 0 to 7 and 15 are emptied in both directions. -/
def Dev.emptyHost (s : Dev) : Dev :=
  ([0, 1, 2, 3, 4, 5, 6, 7, 15] : List Nat).foldl (fun s ch =>
    (s.mboxMod ch false MEnd.emptied).mboxMod ch true MEnd.emptied) s

/-- Commands of host mailboxes in execution run on; their answers are discarded and recorded.
(DEDUCED: log entry 115.) -/
def Dev.dropDues (s : Dev) : Dev :=
  let s := { s with mbx := { s.mbx with
    orphans := s.mbx.orphans ++ s.mbx.owed.filter fun (o : Nat × BitVec 8) => hostChan o.1
    owed := s.mbx.owed.filter fun (o : Nat × BitVec 8) => !hostChan o.1 } }
  s.ents.foldl (fun (s : Dev) (x : Nat × Ent) =>
    match x.2.due with
    | some d =>
      match d.path with
      | .mbx ch =>
        if hostChan ch.val then
          (s.entMod x.1 fun e => { e with due := none }).log (fwCode 1 0x0D 0x11)
            (leBytes 1 (128 + ch.val) ++ leBytes 1 d.tag.toNat)
        else s
      | _ => s
    | none => s) s

/-- A reset of PF0 (12 R357). (DEDUCED: log entry 115.) -/
def Dev.pf0Reset (s : Dev) : Dev :=
  let s := s.dropDues.emptyHost
  let s := (List.range 16).foldl (fun s r => s.crDiscard r) s
  let s := s.rollback 0
  { s with gen := { s.gen with msixOpen := s.gen.msixOpen.filter fun x => 64 ≤ x.1 } }

/-- PF0_FUNCTION_RESET (12 R357). -/
def execPf0FunctionReset (s : State) : Host.Outcome State Fault Refusal := act s fun s =>
  s.pf0Reset

/-- The link goes down: both functions are reset (12 R357, R358). -/
def Dev.linkLoss (s : Dev) : Dev :=
  { s with ifc := { s.ifc with pcie := false } }.pf0Reset.pf1Reset

/-- PCIE_LINK_LOSS (12 R357). -/
def execPcieLinkLoss (s : State) : Host.Outcome State Fault Refusal := act s fun s =>
  s.linkLoss

/-- PERST (17 R460): PERST_N resets the PCIe edge alone. -/
def execPerst (s : State) : Host.Outcome State Fault Refusal := act s fun s =>
  s.linkLoss

/-! ### Mailbox commands (R406) -/

/-- Fields of MBX_BIND_SET. -/
def mbxBindFields : List FieldRule := [fAny 0 0 2]

/-- MBX_BIND_SET (R385, R406): the record is stored, and takes effect at the next reset. -/
def mbxBindRun (c : Cmd) (s : Dev) : Res :=
  done { s with mbx := { s.mbx with bindRec := some (argB c 0 0, argB c 0 1) } } []

/-- Fields of CMD_PATH_STATUS. -/
def cmdPathFields : List FieldRule := [fAny 0 0 5, fAny 0 8 2]

/-- CMD_PATH_STATUS (R406, 14): counts of a channel or a ring; page 0 clears the peak it reports. Ring numbers above 15 are
not fitted. (DEDUCED: log entry 114.) -/
def cmdPathRun (c : Cmd) (s : Dev) : Res :=
  let n := argF c 0 0 5
  let isRing := argB c 0 8
  let k := if isRing then 32 + n else n
  let p := s.pathCnt k
  if isRing && decide (16 ≤ n) then refuse s .notFitted
  else if argB c 0 9 then done s ((List.range 8).map fun i => sat32 (tget 0 p.orders (i + 1)))
  else done (s.pathCntMod k fun p => { p with peak := 0 })
    [sat32 p.accepted, sat32 p.reject, sat32 p.timeout, sat32 p.late, sat32 p.crossed, sat32 p.cmdTmo, word p.peak, 0]

end Sys2Proof.Machine
end

