-- ==== Sys2Proof/Machine/Vault.lean ====
section
/-! DEFINITION. The key vault, the life cycle, debug unlock and tamper (15_security R422 to R441). The algorithms that other
standards define are constants of `Config` (log entry 10). -/
namespace Sys2Proof.Machine

/-! ### Roots and derivation (R425 to R427) -/

/-- LC_FUSES: one fuse for each state after the first (R422). -/
def Dev.lcFuses (s : Dev) : Nat := 2 ^ s.sec.lc - 1

/-- PRK_P or PRK_T, whichever is in use (R425, R426). -/
def Dev.prk (s : Dev) : List Byte :=
  if s.bgl.testRoot then
    Config.hkdfExtract (beBytes 48 (Config.sha384 (ascii "PQ TEST SALT" ++ beBytes 8 s.gen.deviceId.toNat)).toNat)
      (beBytes 48 (Config.sha384 (ascii "PQ TEST ROOT")).toNat)
  else
    let salt := Config.sha384 (beBytes 48 Config.puf.toNat ++ beBytes 1 s.lcFuses ++ beBytes 2 (2 ^ s.sec.tmpFuses - 1))
    Config.hkdfExtract (beBytes 48 salt.toNat) (beBytes 48 Config.rootSecret.toNat)

/-- A value derived from a pseudorandom key (R427). -/
def Dev.derive (s : Dev) (prk : List Byte) (label : String) (context : List Byte) (len : Nat) : List Byte :=
  fitTo len (Config.hkdfExpand prk (s.kindByte ++ ascii label ++ context) len)

/-- The order of the P-384 group. -/
def p384Order : Nat :=
  0xFFFFFFFFFFFFFFFFFFFFFFFFFFFFFFFFFFFFFFFFFFFFFFFFC7634D81F4372DDF581A0DB248B0A77AECEC196ACCC52973

/-- The anchor-signing key: the first counter whose value is a scalar of the group (R427). -/
def Dev.ancKey (s : Dev) : Nat → Nat → List Byte
  | 0, c => s.derive s.prk "PQ-ANCSIG" (beBytes 1 c) 48
  | n + 1, c =>
    let k := s.derive s.prk "PQ-ANCSIG" (beBytes 1 c) 48
    if beNat k = 0 ∨ p384Order ≤ beNat k then Dev.ancKey s n (c + 1) else k

/-- A slot that holds a key of given attributes. -/
def keySlot (typ : Nat) (dest usage : BitVec 8) (exportable persist nonapp : Bool) (key : List Byte) (at_ : Nat) : KSlot :=
  { full := true, typ := typ, dest := dest, usage := usage, exportable := exportable, persist := persist
    nonapp := nonapp, key := key, uses := 0, loaded := at_ }

/-- Whole TAI seconds, modulo 2^32. -/
def Dev.taiSec (s : Dev) : Nat := s.tbs.time / secU % 2 ^ 32

/-- A slot takes a key. -/
def Dev.putSlot (s : Dev) (k : Nat) (v : KSlot) : Dev := s.kslotMod k fun _ => v

/-- The fixed slots 0 to 4 are derived from the root in use (R427, R428). -/
def Dev.deriveFixed (s : Dev) : Dev :=
  let f (typ dest usage : Nat) (key : List Byte) : KSlot :=
    keySlot typ (BitVec.ofNat 8 dest) (BitVec.ofNat 8 usage) false false false key s.taiSec
  let k0 := s.derive s.prk "PQ-KEK" [] 32
  let k1 := s.ancKey 255 0
  let k2 := s.derive s.prk "PQ-CHAIN" [] 48
  let k3 := s.derive s.prk "PQ-RECSEAL" [] 32
  let k4 := s.derive s.prk "PQ-UPDKEK" [] 32
  ((((s.putSlot 0 (f 2 0 0x60 k0)).putSlot 1 (f 5 4 0x04 k1)).putSlot 2 (f 3 8 0x10 k2)).putSlot 3 (f 2 0x20 0x03 k3)).putSlot 4
    (f 2 0x10 0x40 k4)

/-- The root under which slot 0 is derived now: the life-cycle code, 8 for the test root, and the tamper fuse count. -/
def Dev.rootId (s : Dev) : Nat × Nat := if s.bgl.testRoot then (8, 0) else (s.sec.lc, s.sec.tmpFuses)

/-- The persistent slots that the slot-storage KEK in use opens are reloaded (R429). -/
def Dev.loadPersistent (s : Dev) : Dev :=
  s.sec.stored.foldl (fun (s : Dev) (x : Nat × Option (KSlot × Nat × Nat)) =>
    match x.2 with
    | some v => if v.2 = s.rootId then s.putSlot x.1 { v.1 with uses := 0, loaded := s.taiSec } else s
    | none => s) s

/-! ### Slots (R428, R429) -/

/-- Bytes of key material of a type, public keys in their standard encoding. -/
def keyLen : Nat → Nat
  | 1 => 16
  | 3 => 48
  | 5 => 48
  | 8 => 1952
  | 9 => 65
  | 10 => 97
  | _ => 32

/-- The usages a type allows (R429). -/
def usageMask : Nat → Nat
  | 1 => 0x63
  | 2 => 0x63
  | 3 => 0x10
  | 4 => 0x04
  | 5 => 0x04
  | 6 => 0x04
  | 7 => 0x80
  | 12 => 0x88
  | _ => 0x08

/-- A type of R429. -/
def typeOk (t : Nat) : Bool := decide (1 ≤ t) && decide (t ≤ 12)

/-- A combination of attributes that R429 allows. -/
def attrsOk (typ dest usage : Nat) : Bool :=
  typeOk typ && decide (dest < 128) && usage &&& usageMask typ == usage

/-- The public key of a slot, for the types that have one. -/
def KSlot.pub (k : KSlot) : Option (List Byte) :=
  if 8 ≤ k.typ then some k.key
  else if 4 ≤ k.typ then some (fitTo (keyLen (k.typ + 5)) (Config.publicKey k.typ k.key))
  else none

/-- KCV: the first 4 bytes of SHA-256 of the public key, or of AES-CMAC of 16 zero bytes. -/
def KSlot.kcv (k : KSlot) : Word :=
  match k.pub with
  | some p => word (leNat ((beBytes 32 (Config.sha256 p).toNat).take 4))
  | none => word (leNat ((beBytes 16 (Config.cmac k.key (List.replicate 16 0)).toNat).take 4))

/-- A slot's key is used: counted, and LC_STATUS.APPROVED follows (R432). -/
def Dev.useKey (s : Dev) (k : Nat) : Dev :=
  let v := s.kslot k
  let s := s.kslotMod k fun v => { v with uses := min (v.uses + 1) 0xFFFFFFFF }
  { s with sec := { s.sec with nonappUsed := s.sec.nonappUsed || v.nonapp } }

/-- A new key enters a slot; a persistent one is also stored wrapped under slot 0 (R429). -/
def Dev.enterKey (s : Dev) (k : Nat) (v : KSlot) : Dev :=
  let s := s.putSlot k v
  if v.persist then { s with sec := { s.sec with stored := tset none s.sec.stored k (some (v, s.rootId)) } } else s

/-- A command that names user slots only. -/
def userSlot (k : Nat) : Bool := decide (8 ≤ k)

/-- The refusals that every command of group 0x0E meets first (R422, R424, R434); KEY_INFO is exempt from those of the life
cycle. (DEDUCED: log entry 69.) -/
def keyGate (info : Bool) (s : Dev) : Option Rc :=
  if !info && s.sec.advance.isSome then some .lcIllegal
  else if !info && s.sec.lc == 4 then some .lcIllegal
  else if s.sec.testFail then some .selftestFail
  else none

/-- AUTH_FAIL writes a record (R441). -/
def authFail (s : Dev) (op : Op) : Res :=
  ⟨some .authFail, [], s.log (fwCode 1 0x0E 0x11) (leBytes 2 (opInfo op).code)⟩

/-- A conditional self-test fails (R434). (DESIGN CHOICE: log entry 24.) -/
def condFail (s : Dev) : Res :=
  ⟨some .selftestFail, [], { s with sec := { s.sec with testFail := true } }.log 0x8F03 [0, 0]⟩

/-! ### Key commands (R427 to R430) -/

/-- Fields of KEY_GENERATE. -/
def keyGenerateFields : List FieldRule := [fAny 0 0 6, fIn 0 8 4 1 7, fAny 1 0 7, fAny 1 8 10]

/-- KEY_GENERATE (R429). -/
def keyGenerateRun (c : Cmd) (s : Dev) : Res :=
  let k := argF c 0 0 6
  let typ := argF c 0 8 4
  let dest := argF c 1 0 8
  let usage := argF c 1 8 8
  match keyGate false s with
  | some e => refuse s e
  | none =>
    if !userSlot k || !attrsOk typ dest usage then refuse s .keyUsage
    else if (s.kslot k).full then refuse s .resourceBusy
    else if s.sec.condFlaw then condFail s
    else
      let v := keySlot typ (BitVec.ofNat 8 dest) (BitVec.ofNat 8 usage) (argB c 1 16) (argB c 1 17) false
        (fitTo (keyLen typ) (Config.freshKey typ s.free)) s.taiSec
      done ({ s with free := s.free + 1 }.enterKey k v) [v.kcv]

/-- Fields of KEY_IMPORT. -/
def keyImportFields : List FieldRule := [fAny 0 0 13, fWord 1, fWord 2, fWord 3]

/-- The slot that a plain or wrapped blob describes (R430): its header of 8 bytes, a key, and NONAPPROVED. -/
def blobSlot (b key : List Byte) (nonapp : Bool) (at_ : Nat) : KSlot :=
  let f := leAt b 4 1
  keySlot (leAt b 1 1) (BitVec.ofNat 8 (leAt b 2 1)) (BitVec.ofNat 8 (leAt b 3 1)) (f % 2 == 1) (nbits f 1 1 == 1)
    (nonapp || nbits f 2 1 == 1) key at_

/-- The header of a blob is of FORMAT 1, reserves nothing, and tells the length of its type (R430). -/
def blobHeaderOk (b : List Byte) : Bool :=
  leAt b 0 1 == 1 && decide (leAt b 4 1 < 8) && leAt b 5 1 == 0 && typeOk (leAt b 1 1) && leAt b 6 2 == keyLen (leAt b 1 1)

/-- KEY_IMPORT (R430, R432): public keys in plain form, and blobs wrapped under a slot. (DEDUCED: log entry 118.) -/
def keyImportRun (c : Cmd) (s : Dev) : Res :=
  let k := argF c 0 0 6
  let w := argF c 0 6 6
  let b := c.data
  let len := leAt b 6 2
  match keyGate false s with
  | some e => refuse s e
  | none =>
    if !userSlot k || (s.kslot k).full then refuse s .keyUsage
    else if argB c 0 12 then
      if !blobHeaderOk b || decide (leAt b 1 1 < 8) || b.length != 8 + len
          || !attrsOk (leAt b 1 1) (leAt b 2 1) (leAt b 3 1) then refuse s .keyUsage
      else
        let v := blobSlot b (b.drop 8) false s.taiSec
        done (s.enterKey k v) [v.kcv]
    else if !(s.kslot w).full then refuse s .keyEmpty
    else if !(s.kslot w).usage.getLsbD 6 || !userSlot w then refuse s .keyUsage
    else if !blobHeaderOk b || b.length != 36 + len || !c.sigOk then authFail s .keyImport
    else if !attrsOk (leAt b 1 1) (leAt b 2 1) (leAt b 3 1) then refuse s .keyUsage
    else
      let key := fitTo len (Config.gcmOpen (s.kslot w).key ((b.drop 8).take 12) (b.take 8) (b.drop 20))
      let v := blobSlot b key (s.kslot w).nonapp s.taiSec
      done ((s.useKey w).enterKey k v) [v.kcv]

/-- Fields of KEY_EXPORT. -/
def keyExportFields : List FieldRule := [fAny 0 0 12, fWord 1, fWord 2, fWord 3]

/-- The header of an exported slot (R430). -/
def blobHeader (v : KSlot) : List Byte :=
  leBytes 1 1 ++ leBytes 1 v.typ ++ leBytes 1 v.dest.toNat ++ leBytes 1 v.usage.toNat
    ++ leBytes 1 (b2n v.exportable + 2 * b2n v.persist + 4 * b2n v.nonapp) ++ [0] ++ leBytes 2 (keyLen v.typ)

/-- KEY_EXPORT (R430): the blob goes to the buffer. -/
def keyExportRun (c : Cmd) (s : Dev) : Res :=
  let k := argF c 0 0 6
  let w := argF c 0 6 6
  let v := s.kslot k
  let n := 36 + keyLen v.typ
  match keyGate false s with
  | some e => refuse s e
  | none =>
    if !v.full then refuse s .keyEmpty
    else if !v.exportable then refuse s .keyNoExport
    else if !(s.kslot w).full then refuse s .keyEmpty
    else if !(s.kslot w).usage.getLsbD 5 || !userSlot w then refuse s .keyUsage
    else if (arg c 3).toNat < n then refuse s .lengthShort
    else
      let r0 := s.draw
      let r1 := r0.2.draw
      let r2 := r1.2.draw
      let nonce := leBytes 4 r0.1.toNat ++ leBytes 4 r1.1.toNat ++ leBytes 4 r2.1.toNat
      let sealed := fitTo (keyLen v.typ + 16) (Config.gcmSeal (s.kslot w).key nonce (blobHeader v) v.key)
      let s := (r2.2.useKey k).useKey w
      done (s.toBuffer c.path (arg64 c 1) (blobHeader v ++ nonce ++ sealed)) [word n]

/-- Fields of KEY_DERIVE. -/
def keyDeriveFields : List FieldRule :=
  [fAny 0 0 12, fIn 0 12 2 0 2, fAny 0 16 6, fAny 1 0 7, fAny 1 8 10, fIn 1 18 4 1 12, fWord 2]

/-- The wrap key of an X25519 agreement (R427): pub_A is the lower of the two public keys in byte order. -/
def Dev.wrapKey (s : Dev) (src peer : KSlot) : List Byte :=
  let p := src.pub.getD []
  let q := peer.key
  let both := if beNat p ≤ beNat q then p ++ q else q ++ p
  s.derive (Config.hkdfExtract (beBytes 48 (Config.sha384 both).toNat) (Config.x25519 src.key q)) "PQ-WRAP" [] 32

/-- The key that KEY_DERIVE gives, and whether a non-approved algorithm produced it; a code where R429 forbids it.
(DEDUCED: log entry 118.) -/
def Dev.derivedKey (s : Dev) (c : Cmd) : Except Rc (List Byte × Bool) :=
  let src := s.kslot (argF c 0 0 6)
  let peer := s.kslot (argF c 0 16 6)
  let typ := argF c 1 18 4
  let kind := argF c 0 12 2
  if kind = 0 then
    if !src.usage.getLsbD 4 || decide (8 ≤ typ) then .error .keyUsage
    else .ok (s.derive src.key "PQ-USER" (beBytes 4 (arg c 2).toNat) (keyLen typ), false)
  else if kind = 1 then
    if !src.usage.getLsbD 4 || !src.dest.getLsbD 0 || typ != 1 then .error .keyUsage
    else
      let ext := (s.rslot (argF c 2 16 8)).ext.toNat
      .ok (s.derive (Config.hkdfExtract [] src.key) "PQ-ZFL" (beBytes 8 ext ++ beBytes 2 (argF c 2 0 16)) 16, false)
  else if src.typ != 7 || !src.usage.getLsbD 7 then .error .keyUsage
  else if !peer.full then .error .keyEmpty
  else if peer.typ != 12 || !peer.usage.getLsbD 7 || typ != 2 then .error .keyUsage
  else .ok (s.wrapKey src peer, true)

/-- KEY_DERIVE (R427, R429, R432). (DEDUCED: log entry 118.) -/
def keyDeriveRun (c : Cmd) (s : Dev) : Res :=
  let k := argF c 0 0 6
  let d := argF c 0 6 6
  let dest := argF c 1 0 8
  let usage := argF c 1 8 8
  let typ := argF c 1 18 4
  match keyGate false s with
  | some e => refuse s e
  | none =>
    if !(s.kslot k).full then refuse s .keyEmpty
    else if !userSlot k || !userSlot d || (s.kslot d).full || !attrsOk typ dest usage then refuse s .keyUsage
    else match s.derivedKey c with
    | .error e => refuse s e
    | .ok r =>
      let v := keySlot typ (BitVec.ofNat 8 dest) (BitVec.ofNat 8 usage) (argB c 1 16) (argB c 1 17) r.2 r.1 s.taiSec
      let s := if argF c 0 12 2 = 2 then s.useKey (argF c 0 16 6) else s
      done ((s.useKey k).enterKey d v) [v.kcv]

/-! ### Zeroization (R435) -/

/-- Zeroization of the persistent slot area starts for the slots that hold something there; the command that asked for it
completes after the readback. (DEDUCED: log entry 119.) -/
def Dev.zeroPersistent (s : Dev) (slots : List Nat) (ask : List (Path × BitVec 8 × Op)) : Dev :=
  { s with sec := { s.sec with
    zeroizing := true, zeroSlots := s.sec.zeroSlots ++ slots, zeroAsk := s.sec.zeroAsk ++ ask } }

/-- Slots that the persistent area holds. -/
def Dev.storedIn (s : Dev) (slots : List Nat) : List Nat := slots.filter fun k => (tget none s.sec.stored k).isSome

/-- Every volatile slot is zeroized, with a record (R435, R441). -/
def Dev.zeroVolatile (s : Dev) : Dev :=
  { s with sec := { s.sec with slots := [] } }.log (fwCode 1 0x0E 0x10) [0xFF]

/-- Every user slot is zeroized, with a record. -/
def Dev.zeroUser (s : Dev) : Dev :=
  { s with sec := { s.sec with slots := s.sec.slots.filter fun x => x.1 < 8 } }.log (fwCode 1 0x0E 0x10) [0xFE]

/-- Fields of KEY_ZEROIZE. -/
def keyZeroizeFields : List FieldRule := [fAny 0 0 6, fAny 0 8 1]

/-- KEY_ZEROIZE (R435). -/
def keyZeroizeRun (c : Cmd) (s : Dev) : Res :=
  let k := argF c 0 0 6
  let fin (s : Dev) (slots : List Nat) : Res :=
    if slots.isEmpty then done s [] else later' (s.zeroPersistent slots [(c.path, c.tag, .keyZeroize)])
  match keyGate false s with
  | some e => refuse s e
  | none =>
    if argB c 0 8 then fin s.zeroUser (s.storedIn ((List.range 64).filter userSlot))
    else if !userSlot k then refuse s .keyUsage
    else if !(s.kslot k).full then refuse s .keyEmpty
    else fin ((s.kslotMod k fun _ => {}).log (fwCode 1 0x0E 0x10) (leBytes 1 k)) (s.storedIn [k])

/-- ZEROIZE_PERSISTENT_DONE (R435): the readback passes, and the commands that wait complete; or it fails, with a record,
and the zeroization is repeated. (DEDUCED: log entry 119.) -/
def execZeroizePersistentDone (ok' : Bool) (s : State) : Host.Outcome State Fault Refusal := act s fun s =>
  let x := s.sec
  if !x.zeroizing then s
  else if !ok' then (s.log (fwCode 1 0x0E 0x12) [])
  else
    let s := { s with sec := { x with
      stored := x.zeroSlots.foldl (fun t k => tset none t k none) x.stored
      zeroizing := false, zeroSlots := [], zeroAsk := [] } }
    (x.zeroAsk.foldl (fun (s : Dev) (a : Path × BitVec 8 × Op) => s.owe a.1 a.2.1 a.2.2 .success []) s)

/-! ### Reading slots -/

/-- Fields of KEY_INFO. -/
def keyInfoFields : List FieldRule := [fAny 0 0 6]

/-- KEY_INFO (R429); an empty slot reads 0. -/
def keyInfoRun (c : Cmd) (s : Dev) : Res :=
  let v := s.kslot (argF c 0 0 6)
  match keyGate true s with
  | some e => refuse s e
  | none =>
    done s [word (v.typ + 2 ^ 4 * v.dest.toNat + 2 ^ 12 * v.usage.toNat + 2 ^ 20 * b2n v.exportable + 2 ^ 21 * b2n v.persist
      + 2 ^ 22 * b2n v.nonapp + 2 ^ 23 * b2n v.full), if v.full then v.kcv else 0, sat32 v.uses, word v.loaded]

/-- Fields of KEY_PUBLIC. -/
def keyPublicFields : List FieldRule := [fAny 0 0 6, fWord 1, fWord 2, fWord 3]

/-- KEY_PUBLIC (R428, R430). -/
def keyPublicRun (c : Cmd) (s : Dev) : Res :=
  let v := s.kslot (argF c 0 0 6)
  match keyGate false s with
  | some e => refuse s e
  | none =>
    if !v.full then refuse s .keyEmpty
    else match v.pub with
    | none => refuse s .keyUsage
    | some p =>
      if (arg c 3).toNat < p.length then refuse s .lengthShort
      else done (s.toBuffer c.path (arg64 c 1) p) [word p.length]

/-! ### Life cycle and debug (R422 to R424, R440) -/

/-- The targets that LC_ADVANCE accepts (R423). (DEDUCED: log entry 68.) -/
def lcTargets : Nat → List Nat
  | 1 => [2, 3, 4]
  | 2 => [3, 4]
  | 3 => [4]
  | _ => []

/-- Fields of LC_ADVANCE. -/
def lcAdvanceFields : List FieldRule := [fAny 0 0 3, fWord 1]

/-- The value that confirms an LC_ADVANCE. -/
def Dev.lcConfirm (s : Dev) (target : Nat) : Word :=
  BitVec.ofNat 32 s.gen.deviceId.toNat ^^^ (0x51434C00 + word target)

/-- LC_ADVANCE (R423, R424): the state tests come before CONFIRM. (DEDUCED: log entry 68.) -/
def lcAdvanceRun (c : Cmd) (s : Dev) : Res :=
  let t := argF c 0 0 3
  if s.sec.advance.isSome || !(lcTargets s.sec.lc).contains t || s.goActive || s.bgl.enable then refuse s .lcIllegal
  else if arg c 1 ≠ s.lcConfirm t then authFail s .lcAdvance
  else
    let all := s.storedIn (List.range 64)
    let s := s.zeroVolatile
    let s := { s with sec := { s.sec with advance := some t } }
    if all.isEmpty then done s [] else later' (s.zeroPersistent all [(c.path, c.tag, .lcAdvance)])

/-- LC_STATUS.APPROVED (R432). -/
def Dev.approved (s : Dev) : Bool :=
  s.sec.lc != 4 && s.sec.running && s.sec.testsOk && !s.sec.testFail && !s.sec.nonappUsed

/-- LC_STATUS (R440): every read draws a new CHALLENGE. -/
def lcStatusRun (_c : Cmd) (s : Dev) : Res :=
  let r := s.draw
  let x := s.sec
  let w := word (x.lc + 8 * b2n s.bgl.testRoot + 16 * b2n s.debugOpen + 32 * b2n s.approved + 64 * b2n x.advance.isSome
    + 2 ^ 8 * x.tmpFuses + 2 ^ 13 * s.lcFuses)
  done { r.2 with sec := { r.2.sec with challenge := r.1 } } (w :: words64 s.gen.deviceId.toNat ++ [r.1])

/-- Fields of DBG_UNLOCK. -/
def dbgUnlockFields : List FieldRule := fWords 1 3

/-- The fields of a debug token (R440). -/
def Dev.tokenOk (s : Dev) (b : List Byte) : Bool :=
  b.length == 120 && b.take 8 == ascii "PQDBGUNL" && leAt b 8 8 == s.gen.deviceId.toNat
    && leAt b 16 4 == s.sec.challenge.toNat && leAt b 20 4 == 0

/-- DBG_UNLOCK (R440). In MANUFACTURE and RETURNED a token that verifies changes nothing. (DEDUCED: log entry 68.) -/
def dbgUnlockRun (c : Cmd) (s : Dev) : Res :=
  let x := s.sec
  if x.lc == 4 || s.goActive || s.bgl.enable then refuse s .debugLocked
  else if x.advance.isSome then refuse s .lcIllegal
  else if !s.tokenOk c.data || !c.sigOk then authFail s .dbgUnlock
  else if x.lc == 0 || x.lc == 3 then done s []
  else
    let s := s.zeroVolatile
    let s := { s with sec := { s.sec with debug := true }, bgl := { s.bgl with testRoot := true } }
    done s.deriveFixed []

/-- Fields of SELFTEST_RUN. -/
def selftestFields : List FieldRule := [fAny 0 0 16]

/-- SELFTEST_RUN (R433, R434): the tests of MASK run again; a failed one fails the command and every later key command.
(DESIGN CHOICE: log entry 24; DEDUCED: log entry 69.) -/
def selftestRun (c : Cmd) (s : Dev) : Res :=
  let failed := argF c 0 0 14 &&& s.sec.flaws.toNat
  if failed = 0 then done s [0]
  else ⟨some .selftestFail, [word failed],
    { s with sec := { s.sec with testFail := true } }.log 0x8F03 (leBytes 2 failed)⟩

/-! ### Tamper (R436 to R439) -/

/-- Fields of TAMPER_CFG. -/
def tamperCfgFields : List FieldRule := [fAny 0 0 12, fAny 1 0 6]

/-- TAMPER_CFG (R436): it applies at the next reset; in DEPLOYED it may disable no enabled source. -/
def tamperCfgRun (c : Cmd) (s : Dev) : Res :=
  let en := BitVec.ofNat 12 (argF c 0 0 12)
  if s.sec.lc == 2 && s.sec.tmp.en &&& ~~~en != 0 then refuse s .lcIllegal
  else done { s with sec := { s.sec with
    tmpNext := some { en := en, level := BitVec.ofNat 4 (argF c 1 0 4), act01 := argB c 1 4, act23 := argB c 1 5 } } } []

/-- TAMPER_STATUS (R436). -/
def tamperStatusRun (_c : Cmd) (s : Dev) : Res :=
  let x := s.sec
  done s [word (x.latched.toNat + 2 ^ 12 * x.first), word x.latchAt, word x.tmpFuses, word x.live.toNat]

/-- A source that the configuration lets latch: a passive source of an active pair does not detect, and a pair detects only
in active mode (R436). -/
def TmpCfg.watches (t : TmpCfg) (src : Nat) : Bool :=
  t.en.getLsbD src
    && (if src ≤ 1 then !t.act01 else if src ≤ 3 then !t.act23 else if src = 4 then t.act01 else if src = 5 then t.act23
      else true)

/-- A domain's condition in TAMPER_HOLD (R438). -/
def holdState (d : Nat) : PState := if d ≤ 1 ∨ d = 3 ∨ d = 11 then .running else .off

/-- A key operation in progress aborts with TAMPER (R437). -/
def Dev.abortKeys (s : Dev) : Dev :=
  s.ents.foldl (fun (s : Dev) (x : Nat × Ent) =>
    match x.2.due with
    | some d => if s.secPath d.path then s.entMod x.1 fun e => { e with due := some { d with code := .tamper, words := [] } } else s
    | none => s) s

/-- The device-wide response (R438): zeroization, GEN_STATUS.TAMPER, a fleet stop of cause TAMPER out of the reserved
elements, the record, and TAMPER_HOLD. -/
def Dev.tamperResponse (s : Dev) : Dev :=
  let x := s.sec
  let all := s.storedIn (List.range 64)
  let s := s.abortKeys.zeroVolatile
  let s := if all.isEmpty then s else s.zeroPersistent all []
  let s := { s with
    sec := { s.sec with cache := [], running := false, wakeHold := false }
    gen := { s.gen with tamper := true, phase := .tamperHold }
    blw := { s.blw with st := .run, change := none, wakeAt := none } }
  let s := ((s.irq 0).fleetStop 10).log 0xCF01 (leBytes 2 x.latched.toNat ++ leBytes 1 x.first)
  (List.range 12).foldl (fun s d => s.setDom d (holdState d)) ((List.range 8).foldl Dev.portDown s)

/-- TAMPER_LATCH (R436, R437): a source latches in AON. In RUN and DOZE the response of R438 follows; in NIGHT and BACKUP the
key cache is zeroized, and from NIGHT the device wakes into TAMPER_HOLD. -/
def execTamperLatch (src : Fin 12) (s : State) : Host.Outcome State Fault Refusal := act s fun s =>
  if !s.sec.tmp.watches src.val then s
  else
    let x := s.sec
    let first := x.latched == 0
    let bit := BitVec.ofNat 12 (2 ^ src.val)
    let s := { s with sec := { x with
      latched := x.latched ||| bit, live := x.live ||| bit
      first := if first then src.val else x.first, latchAt := if first then s.opSec else x.latchAt } }
    (if !first then s
      else if s.blw.backup || s.blw.off || !(s.gen.phase == .ready || s.gen.phase == .recovery) then
        { s with sec := { s.sec with cache := [] } }
      else if s.blw.st = .night then { s with sec := { s.sec with cache := [], wakeHold := true } }.wake 6
      else s.tamperResponse)

end Sys2Proof.Machine
end

