-- ==== Sys2Proof/Machine/Record.lean ====
section
/-! DEFINITION. The event recorder: flushes, failures of its store and of its staging, reading, clearing, histograms and its
commands (16_event_recorder). -/
namespace Sys2Proof.Machine

/-! ### Commit (R446, R447) -/

/-- RECORD_COMMIT (R446, R447). -/
def execRecordCommit (r : RecIn) (s : State) : Host.Outcome State Fault Refusal := act s fun s =>
  (s.recordRaw r.code.toNat r.slot r.payload)

/-- REC_BUCKET_REFILL (R446): a code's bucket gains a token. -/
def execRecBucketRefill (code : BitVec 16) (s : State) : Host.Outcome State Fault Refusal := act s fun s =>
  (s.bucketMod code.toNat fun b => { b with missing := b.missing - 1 })

/-! ### Flushes (R449, R450, R452) -/

/-- The trailer of a page written now: ROOT, LC_FUSES and the tamper fuse count (R448). -/
def Dev.trailer (s : Dev) : Nat × Nat × Nat :=
  (if (s.kslot 3).full then (if s.bgl.testRoot then 0x54 else 0x50) else 0, s.lcFuses, s.sec.tmpFuses)

/-- Staged records, oldest first: those of the circulating area, and founding-area records that a clear has removed from it
(R448, R456). -/
def Recorder.stagedRecs (e : Recorder) : List Rec :=
  let c := (e.circ.filter fun r => r.page.isNone).reverse
  (e.founding.filter fun r => r.page.isNone && !c.any fun x => x.rnum == r.rnum) ++ c

/-- Records are written to pages and verified: they are no longer staged. -/
def Dev.written (s : Dev) (done : List Nat) : Dev :=
  let t := s.trailer
  let mark (r : Rec) : Rec := if r.page.isNone && done.contains r.rnum then { r with page := some t } else r
  let e := s.evr
  let e := { e with circ := e.circ.map mark, founding := e.founding.map mark }
  { s with evr := { e with staged := e.stagedRecs.length } }

/-- The power-fail flush writes the staged founding-area records first, then the newest, 126 in all (R450). -/
def Recorder.pfwSet (e : Recorder) : List Nat :=
  let l := e.stagedRecs.map Rec.rnum
  let f := l.filter fun n => e.founding.any fun r => r.rnum == n
  let rest := l.filter fun n => !f.contains n
  (f ++ rest.drop (f.length + rest.length - 126)).take 126

/-- A sentinel goes to the lowest free slot, or over slot 3 (R453); a fault-class one raises REC.
(DEDUCED: log entry 60.) -/
def Dev.sentinel (s : Dev) (code : Nat) (payload : List Byte) : Dev :=
  let r := s.mkRec code 0xFF payload 0 true
  let free := (List.range 4).find? fun k => (tget none s.evr.sentinels k).isNone
  let s := { s with evr := { s.evr with
    sentinels := tset none s.evr.sentinels (free.getD 3) (some r), sentOver := s.evr.sentOver || free.isNone } }
  s.irqIf 6 (decide (2 ≤ code / 2 ^ 14))

/-- Sentinel records enter the circulating area with a verified flush, and their slots are free again (R453).
(DEDUCED: log entry 121.) -/
def Dev.drainSentinels (s : Dev) : Dev :=
  let l := (List.range 4).filterMap fun k => tget none s.evr.sentinels k
  let t := s.trailer
  let s := l.foldl (fun (s : Dev) (r : Rec) =>
    let e := s.evr
    let r := { r with rnum := e.next, page := some t }
    { s with evr := { e with
      next := (e.next + 1) % 2 ^ 32, total := e.total + 1, circ := (r :: e.circ).take 16384
      founding := if e.total < 1024 then e.founding ++ [r] else e.founding } }) s
  let full := s.evr.sentOver
  let s := { s with evr := { s.evr with sentinels := [], sentOver := false } }
  if full then s.log 0x5006 [] else s

/-- A flush ends in STORE_FAIL (R452); the partition offset of the record is the flash's own.
(DEDUCED: log entry 121.) -/
def Dev.storeFail (s : Dev) (kind : Nat) : Dev :=
  let r := s.draw
  let s := r.2.sentinel 0x9001 (leBytes 1 kind ++ [0, 0, 0] ++ leBytes 4 r.1.toNat)
  { s with evr := { s.evr with
    storeFail := true, flushing := false, flushN := 0, badPage := false, retry := false, flushExempt := false, pfwFlush := false } }

/-- A verified flush (R449, R450, R452): staging is freed, and the snapshot of histograms and trackers is saved; the
power-fail flush writes records only. -/
def Dev.flushOk (s : Dev) : Dev :=
  let e := s.evr
  let n := e.staged
  let set := if e.pfwFlush then e.pfwSet else (e.stagedRecs.map Rec.rnum).take e.flushN
  let s := s.written set
  let s := { s with evr := { s.evr with
    flushing := false, flushN := 0, badPage := false, retry := false, flushExempt := false, pfwFlush := false
    storeFail := false, opFlushed := s.evr.opTime
    histsSaved := if e.pfwFlush then e.histsSaved else e.hists
    extsSaved := if e.pfwFlush then e.extsSaved else e.exts
    pfwGap := if e.pfwFlush then s.evr.staged else e.pfwGap, pfwDone := e.pfwDone || e.pfwFlush } }
  let s := if e.pfwFlush then s else s.drainSentinels
  if e.storeFail then s.log 0x1002 (leBytes 4 n) else s

/-- REC_FLUSH_DONE (R449, R452): a page that fails its readback is written again once; a second failure, or a page program
that fails or takes more than 10 ms, ends in STORE_FAIL. (DEDUCED: log entry 121.) -/
def execRecFlushDone (e : FlushEnd) (s : State) : Host.Outcome State Fault Refusal := act s fun s =>
  if !s.evr.flushing then s
  else match e with
  | .ok => s.flushOk
  | .program => (s.storeFail 0)
  | .readback =>
    if s.evr.badPage then (s.storeFail 1) else { s with evr := { s.evr with badPage := true } }
  | .timeout => (s.storeFail 2)

/-- A flush that may start in STORE_FAIL too: CMP26 and PFW_N (R452). -/
def Dev.flushRetry (s : Dev) : Dev :=
  if s.evr.flushing then { s with evr := { s.evr with flushN := s.evr.staged } }
  else { s with evr := { s.evr with
    flushing := true, flushN := s.evr.staged, badPage := false, retry := s.evr.storeFail } }

/-- Ten minutes, the interval of CMP26 (R449). -/
def tenMin : Nat := 600 * secU

/-- REC_FLUSH_TIMER (R449): CMP26 fires. (DEDUCED: log entry 19.) -/
def execRecFlushTimer (s : State) : Host.Outcome State Fault Refusal := act s fun s =>
  if !s.tbs.en || s.tbs.resync then s
  else
    let x := nextFire tenMin 0 s.tbs.time s.evr.timerAt
    let s := s.advanceTo x
    { s with evr := { s.evr with timerAt := some x } }.flushRetry

/-- The power-fail flush (R450). -/
def Dev.pfwFlush (s : Dev) : Dev :=
  let s := s.flushRetry
  { s with evr := { s.evr with pfwFlush := true, flushExempt := true } }

/-! ### Staging pages (R453) -/

/-- STAGING_PAGE_FAIL (R453): the page is retired with the staged records it held, in the order in which pages fill. -/
def execStagingPageFail (page : Fin 32) (s : State) : Host.Outcome State Fault Refusal := act s fun s =>
  let e := s.evr
  if e.retired.getLsbD page.val then s
  else
    let rank := ((List.range page.val).filter fun k => !e.retired.getLsbD k).length
    let gone := ((e.stagedRecs.map Rec.rnum).drop (256 * rank)).take 256
    let keep (r : Rec) : Bool := r.page.isSome || !gone.contains r.rnum
    let e := { e with
      retired := e.retired ||| BitVec.ofNat 32 (2 ^ page.val), circ := e.circ.filter keep, founding := e.founding.filter keep }
    let s := { s with evr := { e with staged := e.stagedRecs.length, flushN := min e.flushN e.stagedRecs.length } }
    (s.sentinel 0x9003 (leBytes 1 page.val ++ [0] ++ leBytes 2 gone.length))

/-! ### Reading (R454, R455) -/

/-- Flags [6:4] of a record as it is read (R454). (DEDUCED: log entries 60, 122.) -/
def Dev.readFlags (s : Dev) (r : Rec) : Nat :=
  match r.page with
  | none => 0x10
  | some (root, lc, tmp) =>
    let t := s.trailer
    let here := if s.sec.lc = 4 then 0 else if s.bgl.testRoot then 0x54 else 0x50
    if root = 0 then 0
    else if root ≠ here ∨ lc ≠ t.2.1 ∨ tmp ≠ t.2.2 then 0x20
    else if t.1 = 0 then 0 else 0x10

/-- The 32 bytes of a record with given read flags (R442). -/
def Rec.bytes (r : Rec) (flags : Nat) : List Byte :=
  leBytes 4 r.opTime ++ leBytes 3 r.pcycle
    ++ leBytes 1 (b2n r.tai + 2 * b2n r.suppSat + 4 * b2n r.sentinel + 8 * b2n r.retained + flags)
    ++ leBytes 2 r.code.toNat ++ [r.slot] ++ leBytes 1 r.supp ++ fitTo 16 r.payload ++ leBytes 4 r.epoch.toNat

/-- RNUM of the oldest circulating record. -/
def Recorder.oldest (e : Recorder) : Nat := (e.circ.getLast?.map Rec.rnum).getD e.next

/-- RNUM a comes after RNUM b (R447, 01 R22). -/
def rnumAfter (a b : Nat) : Bool := let d := (a + 2 ^ 32 - b) % 2 ^ 32; decide (0 < d) && decide (d < 2 ^ 31)

/-- A load of the window at INDEX and AREA (R454, R455). -/
def Dev.loadWindow (s : Dev) : Dev :=
  let e := s.evr
  let before := !e.area && !e.circ.isEmpty && rnumAfter e.oldest e.index
  let idx := if before then e.oldest else e.index
  let l := if e.area then (e.founding.drop idx).take 8
    else (e.circ.reverse.filter fun r => !rnumAfter idx r.rnum).take 8
  { s with evr := { e with
    index := idx, lost := e.lost || before, count := l.length, ready := true
    window := l.map fun r => r.bytes (s.readFlags r) } }

/-- A write of REC_CURSOR (R454, R455): the low word carries INDEX; the high word AREA, NEXT and LOST. -/
def Dev.cursorWrite (s : Dev) (lo hi : Option Word) : Dev :=
  let e := s.evr
  let nxt := hi.any fun h => wbit h 1
  let e := { e with lost := e.lost && !hi.any fun h => wbit h 2 }
  if lo.isNone && hi.isNone then s
  else if nxt then { s with evr := { e with index := (e.index + e.count) % 2 ^ 32 } }.loadWindow
  else { s with evr := { e with
    index := (lo.map BitVec.toNat).getD e.index, area := (hi.map fun h => wbit h 0).getD e.area } }.loadWindow

/-- REC_CURSOR_LOAD (R454). -/
def execRecCursorLoad (m : Master) (lo hi : Option Word) (s : State) : Host.Outcome State Fault Refusal := act s fun s =>
  (if s.reaches m then s.cursorWrite lo hi else s.turnAway m)

/-- REC_CURSOR_NEXT (R455). -/
def execRecCursorNext (m : Master) (hi : Word) (s : State) : Host.Outcome State Fault Refusal := act s fun s =>
  (if s.reaches m then s.cursorWrite none (some hi) else s.turnAway m)

/-! ### Commands (R446, R449, R456, R457) -/

/-- Fields of REC_CFG. -/
def recCfgFields : List FieldRule := [fAny 0 0 16, fIn 0 16 2 0 2, fAny 1 0 8, fAny 1 16 16, fAny 2 0 1]

/-- The buckets of a scope start full; their pending counts stay (R446). -/
def refill (t : Tab Bucket) (p : Nat → Bool) : Tab Bucket :=
  t.foldl (fun (u : Tab Bucket) (x : Nat × Bucket) =>
    if p x.1 then tset {} u x.1 { x.2 with missing := 0, own := none } else u) t

/-- REC_CFG (R446). -/
def recCfgRun (c : Cmd) (s : Dev) : Res :=
  let code := argF c 0 0 16
  let sev := code / 2 ^ 14
  let scope := argF c 0 16 2
  let v := (argF c 1 0 8, argF c 1 16 16)
  let e := { s.evr with taiEn := argB c 2 0 }
  if scope = 2 then done { s with evr := { e with sevCfg := [], buckets := refill e.buckets fun _ => true } } []
  else if sev = 3 then done { s with evr := e } []
  else if v.1 = 0 ∨ v.2 = 0 then refuse s .reservedValue
  else if scope = 0 then
    done { s with evr := { e with buckets := tmod {} e.buckets code fun b => { b with own := some v, missing := 0 } } } []
  else done { s with evr := { e with
    sevCfg := tset none e.sevCfg sev (some v), buckets := refill e.buckets fun k => k / 2 ^ 14 == sev } } []

/-- Fields of REC_HIST_CFG. -/
def recHistCfgFields : List FieldRule :=
  [fAny 0 0 8, fIn 0 8 8 0 8, fAny 0 16 8, fIn 0 24 6 0 32, fAny 0 30 2, fWord 1, fIn 2 0 32 1 (2 ^ 32 - 1)]

/-- The PARAM values of a source (R457). -/
def paramMax : Nat → Nat
  | 1 => 15
  | 2 => 4
  | 4 => 7
  | 8 => 11
  | _ => 255

/-- REC_HIST_CFG (R457): reconfiguring an entry clears it; CLEAR keeps its configuration. -/
def recHistCfgRun (c : Cmd) (s : Dev) : Res :=
  let ext := argB c 0 0
  let k := argF c 0 1 7
  let src := argF c 0 8 8
  let par := argF c 0 16 8
  let nb := argF c 0 24 6
  let clr := argB c 0 30
  if !ext && decide (64 ≤ k) then refuse s .reservedValue
  else if clr then
    done (if ext then s.setExt k { s.ext k with min := none, max := none }
      else s.setHist k { s.hist k with bins := [], cleared := s.opSec }) []
  else if (!ext && nb == 0) || decide (paramMax src < par) then refuse s .reservedValue
  else if ext then done (s.setExt k { en := argB c 0 31, source := src, param := par }) []
  else done (s.setHist k { en := argB c 0 31, source := src, param := par, nbins := nb, lo := argI c 1
                           width := (arg c 2).toNat, cleared := s.opSec }) []

/-- Fields of REC_HIST_READ. -/
def recHistReadFields : List FieldRule := [fAny 0 0 16, fWord 1, fWord 2, fWord 3]

/-- A histogram entry; the map of its flags byte is not given, so that byte is a free value.
(DEDUCED: log entry 121.) -/
def Dev.histBytes (s : Dev) (k : Nat) : List Byte :=
  let h := s.hist k
  leBytes 1 h.source ++ leBytes 1 h.param ++ leBytes 1 h.nbins ++ leBytes 1 (Config.freeWord (s.free + k)).toNat
    ++ leBytes 4 (low 32 h.lo) ++ leBytes 4 h.width ++ leBytes 4 h.cleared
    ++ (List.range h.nbins).flatMap fun i => leBytes 4 (tget 0 h.bins i)

/-- An extreme entry. -/
def Dev.extBytes (s : Dev) (k : Nat) : List Byte :=
  let x := s.ext k
  let b (m : Option (Int × Nat)) : List Byte := match m with
    | some v => leBytes 4 (low 32 v.1) ++ leBytes 4 v.2
    | none => List.replicate 8 0
  leBytes 1 x.source ++ leBytes 1 x.param ++ [0, 0] ++ b x.min ++ b x.max ++ List.replicate 4 0

/-- Whole items as far as n bytes hold them. -/
def takeWhole : Nat → List (List Byte) → List Byte
  | _, [] => []
  | n, b :: bs => if b.length ≤ n then b ++ takeWhole (n - b.length) bs else []

/-- REC_HIST_READ (R457): entries from INDEX on, NUM of them or all. -/
def recHistReadRun (c : Cmd) (s : Dev) : Res :=
  let ext := argB c 0 0
  let k := argF c 0 1 7
  let num := argF c 0 8 8
  let all := if ext then 128 else 64
  if all ≤ k then refuse s .reservedValue
  else
    let ks := ((List.range all).drop k).take (if num = 0 then all else num)
    let bs := takeWhole (arg c 3).toNat (ks.map fun i => if ext then s.extBytes i else s.histBytes i)
    let s := if ext then s else { s with free := s.free + 64 }
    done (s.toBuffer c.path (arg64 c 1) bs) [word bs.length]

/-- REC_FLUSH (R449). -/
def recFlushRun (_c : Cmd) (s : Dev) : Res := if s.evr.flushing then refuse s .resourceBusy else done s.flush []

/-- REC_CLEAR (R456): a challenge. -/
def recClearRun (_c : Cmd) (s : Dev) : Res :=
  if s.evr.clear.isSome || s.evr.clearing then refuse s .resourceBusy
  else
    let r := s.draw
    done { r.2 with evr := { r.2.evr with clear := some (r.1, s.tbs.mono) } } [r.1]

/-- Fields of REC_CLEAR_CONFIRM. -/
def recConfirmFields : List FieldRule := [fWord 0]

/-- REC_CLEAR_CONFIRM (R456): the challenge within 10 s; otherwise the clear is abandoned. -/
def recConfirmRun (c : Cmd) (s : Dev) : Res :=
  let t := { s with evr := { s.evr with clear := none } }
  match s.evr.clear with
  | some x =>
    if x.1 = arg c 0 ∧ s.tbs.mono ≤ x.2 + 10 * secU then done { t with evr := { t.evr with clearing := true } } []
    else authFail t .recClearConfirm
  | none => authFail t .recClearConfirm

/-- REC_CLEAR_EXPIRY (R456): the 10 s of a challenge pass. -/
def execRecClearExpiry (s : State) : Host.Outcome State Fault Refusal := act s fun s =>
  match s.evr.clear with
  | some x =>
    let s := s.advanceMono (x.2 + 10 * secU)
    { s with evr := { s.evr with clear := none } }
  | none => s

/-- A record that a clear commits again (R456). (DEDUCED: log entry 71.) -/
def Rec.keeps (r : Rec) : Bool :=
  let g := nbits r.code.toNat 8 6
  r.code.toNat / 2 ^ 14 == 3 || g == 0x0E || g == 0x0F || g == 0x11

/-- REC_CLEAR_DONE (R456): the circulating records go; those that must stay are committed again in their old order, then
CIRC_CLEARED, then the records that waited. (DEDUCED: log entry 71.) -/
def execRecClearDone (s : State) : Host.Outcome State Fault Refusal := act s fun s =>
  if !s.evr.clearing then s
  else
    let e := s.evr
    let kept := e.circ.reverse.filter Rec.keeps
    let wait := e.waiting
    let e' := { e with circ := [], clearing := false, waiting := [] }
    let s := { s with evr := { e' with staged := e'.stagedRecs.length } }
    let s := kept.foldl (fun (s : Dev) (r : Rec) => s.commitRec { r with retained := true, page := none }) s
    let s := s.log 0x5004 (leBytes 4 (e.circ.length - kept.length) ++ leBytes 4 kept.length)
    (wait.foldl (fun (s : Dev) (r : RecIn) => s.recordRaw r.code.toNat r.slot r.payload) s)

end Sys2Proof.Machine
end

