-- ==== Sys2Proof/Machine/Boot.lean ====
section
/-! DEFINITION. Resets, the boot sequence, power loss, thermal trips, the watchdog, and field update (17_boot_update R458 to
R481, 11 R341, R342, R350, 18 R484). -/
namespace Sys2Proof.Machine

/-! ### What a reset keeps (R458, R463) -/

/-- The records that lie in flash: the founding and circulating areas without what was staged (16 R449, R458).
(DEDUCED: log entry 123.) -/
def Recorder.inFlash (e : Recorder) : Recorder :=
  let keep (r : Rec) : Bool := r.page.isSome
  let circ := e.circ.filter keep
  let founding := e.founding.filter keep
  let newest := match circ.head? with | some r => some r | none => founding.getLast?
  { circ := circ, founding := founding, next := match newest with | some r => (r.rnum + 1) % 2 ^ 32 | none => 0
    total := e.total - e.staged, pcycle := e.pcycle, opTime := e.opTime, opFlushed := e.opFlushed
    sentinels := e.sentinels, sentOver := e.sentOver, pfwGap := e.pfwGap, pfwDone := e.pfwDone
    hists := e.histsSaved, exts := e.extsSaved, histsSaved := e.histsSaved, extsSaved := e.extsSaved }

/-- Bugle keeps its marks and generations (08 R229, R237). -/
def Bgl.kept (b : Bgl) : Bgl :=
  { goGen := b.goGen, goBase := b.goBase, stopGen := b.stopGen, markGo := b.markGo, markStop := b.markStop
    markGen := b.markGen, flashGo := b.flashGo, flashStop := b.flashStop, goIdx := b.markGo, stopIdx := b.markStop }

/-- A bound machine slot starts BOUND with its counters (09 R269, R273). (DEDUCED: log entry 70.) -/
def RSlot.kept (r : RSlot) : RSlot :=
  if r.st = .unbound then {}
  else { st := .bound, keyGen := r.keyGen, ext := r.ext, txCnt := r.txCnt, rxMark := r.rxMark, flashTx := r.flashTx
         flashRx := r.flashRx }

/-- A partner starts LOST with its binding and counters (09 R269, R278). (DEDUCED: log entries 70, 91.) -/
def Partner.kept (p : Partner) : Partner :=
  if p.st = .none then {}
  else { st := .lost, pslot := p.pslot, keyGen := p.keyGen, ext := p.ext, period := p.period, phase := p.phase
         txCnt := p.txCnt, rxMark := p.rxMark }

/-- A table whose entries are replaced; keys stay rising, and an entry that becomes the default goes. -/
def tmap {α : Type} [DecidableEq α] (d : α) (f : α → α) (t : Tab α) : Tab α :=
  (t.map fun x => (x.1, f x.2)).filter fun x => x.2 != d

/-- The vault keeps its fuses, its persistent area, the tamper latch and configuration, and AON's key cache (15 R424, R429,
R436). -/
def Sec.kept (x : Sec) : Sec :=
  { lc := x.lc, advance := x.advance, tmpFuses := x.tmpFuses, stored := x.stored, cache := x.cache, flaws := x.flaws
    condFlaw := x.condFlaw, tmp := x.tmp, tmpNext := x.tmpNext, latched := x.latched, first := x.first
    latchAt := x.latchAt, live := x.live }

/-- The boot control record, the banks and the settings generations (R464, R473); a session ends (R479). -/
def Upd.kept (u : Upd) : Upd :=
  { active := u.active, bankA := u.bankA, bankB := u.bankB, seq := u.seq, trialResets := u.trialResets
    trialStart := u.trialStart, trialS := u.trialS, gens := u.gens, genArp := u.genArp, rollback := u.rollback
    bootKind := u.bootKind, lostSess := u.lostSess || u.sess.isSome, running := u.running }

/-- Every volatile state is lost: what stays is flash, fuses, backup RAM, the AON latches, and what is the model's own.
(DEDUCED: log entries 70, 123.) -/
def Dev.lose (s : Dev) : Dev :=
  { ({} : Dev) with
    free := s.free, writes := s.writes, reply := s.reply
    gen := { part := s.gen.part, stepping := s.gen.stepping, deviceId := s.gen.deviceId, gradeX := s.gen.gradeX }
    bgl := s.bgl.kept
    rad := { slots := tmap {} RSlot.kept s.rad.slots, partners := tmap {} Partner.kept s.rad.partners }
    sec := s.sec.kept, evr := s.evr.inFlash, upd := s.upd.kept
    mbx := { bindRec := s.mbx.bindRec } }

/-- Backup RAM is invalid: marks, counters and operating time resume from flash (08 R229, 09 R269, 16 R443).
(DEDUCED: log entry 127.) -/
def Dev.backupLost (s : Dev) : Dev :=
  let g := s.bgl.flashGo + 32
  let t := s.bgl.flashStop + 32
  let e := s.evr
  { s with
    bgl := { s.bgl with markGo := g, markStop := t, goIdx := g, stopIdx := t }
    rad := { s.rad with
      slots := tmap {} (fun r => { r with txCnt := r.flashTx + 8192, rxMark := r.flashRx }) s.rad.slots
      partners := tmap {} (fun p => { p with txCnt := p.txCnt / 4096 * 4096 + 8192, rxMark := p.rxMark / 4096 * 4096 })
        s.rad.partners }
    evr := { e with opTime := e.opFlushed + 600 * secU, sentinels := [], sentOver := false }
    sec := { s.sec with latched := 0, first := 0, latchAt := 0, cache := [] } }

/-! ### Banks (R464 to R466, R476) -/

/-- Bank A (false) or B. -/
def Upd.bank (u : Upd) (b : Bool) : Bank := if b then u.bankB else u.bankA

/-- Changes a bank's entry; the boot control record is written (R464). -/
def Upd.bankMod (u : Upd) (b : Bool) (g : Bank → Bank) : Upd :=
  let u := { u with seq := (u.seq + 1) % 2 ^ 32 }
  if b then { u with bankB := g u.bankB } else { u with bankA := g u.bankA }

/-- The image that the ROM reads in a bank. -/
def Bank.read (k : Bank) (i : BankIn) : Bank := { k with version := i.version, sfn := i.sfn, len := i.len, hash := i.hash }

/-- A bank as it was written. -/
def Bank.asIn (k : Bank) : BankIn := { version := k.version, sfn := k.sfn, len := k.len, hash := k.hash }

/-- A generation is erased unless a bank of the list names it (R473, R478). -/
def Upd.eraseGen (u : Upd) (g : Nat) (by_ : List Bank) : Upd :=
  if g = 0 ∨ by_.any (fun k => k.gen == g) then u
  else { u with gens := u.gens.filter (fun x => x.1 != g), genArp := tset none u.genArp g none }

/-- A record that waits until the recorder runs. -/
abbrev LogItem := Nat × List Byte

/-- The boot of a bank as TRIAL (R476 rule 1). -/
def Upd.trialBoot (u : Upd) (b : Bool) (op : Nat) : Upd :=
  { u.bankMod b (fun k => { k with st := .trial }) with active := b, trialStart := op, trialResets := 0 }

/-- The fallback from a trial (R476 rule 3). -/
def Upd.fallBack (u : Upd) (cause : Nat) : Upd × List LogItem :=
  let t := u.active
  let k := u.bank t
  let u := u.bankMod t fun k => { k with st := .invalid, gen := 0 }
  ({ u.eraseGen k.gen [u.bank !t] with active := !t, trialResets := 0 },
    [(0x9106, leBytes 1 (b2n (cause == 2)) ++ [0, 0, 0] ++ leBytes 4 k.version.toNat)])

/-- Rules 1 to 4 of R476, after a swap that UPD_ROLLBACK has asked for (R477). -/
def Upd.choose (u : Upd) (cause op : Nat) : Upd × List LogItem :=
  let r : Upd × List LogItem :=
    if u.rollback then ({ u with rollback := false, active := !u.active, seq := (u.seq + 1) % 2 ^ 32 },
      [(0x5109, leBytes 1 (b2n !u.active))]) else (u, [])
  let u := r.1
  if u.bankA.st = .pending then (u.trialBoot false op, r.2)
  else if u.bankB.st = .pending then (u.trialBoot true op, r.2)
  else if (u.bank u.active).st = .trial then
    let u := if cause = 2 then { u with trialResets := u.trialResets + 1, seq := (u.seq + 1) % 2 ^ 32 } else u
    if 2 ≤ u.trialResets ∨ cause = 4 then
      let f := u.fallBack cause
      (f.1, r.2 ++ f.2)
    else (u, r.2)
  else (u, r.2)

/-- What the checks of R466 find: none, or 0 for the header and 1 for a component. (DEDUCED: log entry 126.) -/
def bankFlaw (i : BankIn) : Option Nat := if !i.headerOk then some 0 else if !i.componentsOk then some 1 else none

/-- A bank that the ROM rejects: BANK_BAD; a trial that cannot boot ends (R476 rule 5). (DEDUCED: log entry 126.) -/
def Upd.reject (u : Upd) (b : Bool) (flaw : Nat) : Upd × List LogItem :=
  (if (u.bank b).st = .trial then
      { u.bankMod b (fun k => { k with st := .invalid, gen := 0 }) with active := !b }
    else u,
    [(0x910A, leBytes 1 (b2n b) ++ leBytes 1 flaw)])

/-- The bank that boots, if any (R476). (DEDUCED: log entry 126.) -/
def Upd.bootBank (u : Upd) (cause op : Nat) (i : BootIn) : Option Bool × Upd × List LogItem :=
  let r := u.choose cause op
  let u := r.1
  let b := u.active
  let inOf (b : Bool) : BankIn := if b then i.bankB else i.bankA
  if (u.bank b).st = BankSt.invalid then (none, u, r.2)
  else match bankFlaw (inOf b) with
  | none => (some b, u, r.2)
  | some f =>
    let q := u.reject b f
    if (q.1.bank !b).st = BankSt.confirmed then
      match bankFlaw (inOf !b) with
      | none => (some !b, q.1, r.2 ++ q.2)
      | some g =>
        let z := q.1.reject (!b) g
        (none, z.1, r.2 ++ q.2 ++ z.2)
    else (none, q.1, r.2 ++ q.2)

/-! ### Start-up of the fleet's services (R461 steps 7 to 9, R473) -/

/-- The bank that runs. -/
def Dev.runBank (s : Dev) : Bank := s.upd.bank s.upd.running

/-- The settings generation of the running bank is opened, or a new one created; slots that no bank names are erased
(R473). (DEDUCED: log entry 128.) -/
def Dev.openGen (s : Dev) : Dev × List LogItem :=
  let u := s.upd
  let b := s.runBank
  let have_ : Bool := b.gen != 0 && u.gens.contains (b.gen, b.sfn)
  let n := if have_ then b.gen else (u.gens.foldl (fun m x => max m x.1) 0) + 1
  let made : List LogItem := if have_ then [] else [(0x5107, leBytes 4 n ++ leBytes 2 b.sfn)]
  let u := if have_ then u
    else { u.bankMod u.running (fun k => { k with gen := n }) with gens := u.gens ++ [(n, b.sfn)] }
  let gone := (u.gens.map Prod.fst).filter fun g => g != u.bankA.gen && g != u.bankB.gen
  let u := gone.foldl (fun (u : Upd) g => u.eraseGen g []) u
  ({ s with upd := { u with gen := n } }, made ++ gone.map fun g => (0x5108, leBytes 4 g))

/-- A stored HELD ARP is restored as HELD (04 R112). (DEDUCED: log entry 123.) -/
def Dev.restoreArp (s : Dev) : Dev :=
  match tget none s.upd.genArp s.upd.gen with
  | some a => { s with ref := { s.ref with arpSt := .held, arp := a.arp, pco := a.pco, baseline := a.baseline } }
  | none => s

/-- The binding table is written from the binding record, and locked (13 R383, R385). -/
def Dev.bindTable (s : Dev) (crcOk : Bool) : Dev × List LogItem :=
  match s.mbx.bindRec, crcOk with
  | some r, true => ({ s with mbx := { s.mbx with locked := true, bind11 := r.1, bind12 := r.2 } }, [])
  | some _, false => ({ s with mbx := { s.mbx with locked := true } }, [(fwCode 1 0x0D 0x15, [])])
  | none, _ => ({ s with mbx := { s.mbx with locked := true } }, [])

/-- The fixed slots follow from the root that the life cycle selects (15 R426). -/
def Dev.startVault (s : Dev) : Dev :=
  let s := { s with
    bgl := { s.bgl with testRoot := s.sec.lc == 0 || s.sec.lc == 3 }
    sec := { s.sec with testsOk := true, running := true } }
  if s.sec.lc = 4 then s else s.deriveFixed

/-- The safety island is released, and Bugle starts: the latch clear, the chains of the present generations to be rebuilt
(R461, 08 R227). (DEDUCED: log entry 36.) -/
def Dev.startBugle (s : Dev) : Dev :=
  { s with bgl := { s.bgl with up := true, goBusy := s.bgl.goGen != 0, stopBusy := s.bgl.stopGen != 0 } }.driveStopOut

/-- Domains that run in a halt and in RECOVERY: AON, SEC and the PCIe edge (R462). (DEDUCED: log entry 125.) -/
def haltDom (d : Nat) : PState := if d = 0 ∨ d = 2 ∨ d = 11 then .running else .off

/-- A halt of the boot (R462). (DEDUCED: log entry 125.) -/
def Dev.halt (s : Dev) (p : Phase) : Dev :=
  (List.range 12).foldl (fun s d => s.setDom d (haltDom d)) { s with gen := { s.gen with phase := p } }

/-- Records of a boot, in order. -/
def Dev.logAll (s : Dev) (l : List LogItem) : Dev := l.foldl (fun (s : Dev) (x : LogItem) => s.log x.1 x.2) s

/-- Steps 7 to 9 of R461 for a verified bank, and the records of the boot. -/
def Dev.serve (s : Dev) (b : Bool) (crcOk : Bool) (l : List LogItem) : Dev :=
  let s := { s with upd := { s.upd with running := b, bankValid := true } }
  let t := s.bindTable crcOk
  let g := t.1.setDoms.openGen
  let s := g.1.restoreArp.loadPersistent.setCaps
  ({ s with gen := { s.gen with phase := .ready } }.startBugle).logAll (l ++ t.2 ++ g.2)

/-- RECOVERY (R476, R480). -/
def Dev.recover (s : Dev) (l : List LogItem) : Dev :=
  (({ s with upd := { s.upd with bankValid := false } }.halt .recovery).logAll (l ++ [(0x910B, [])]))

/-! ### The boot sequence (R461) -/

/-- The records of the reset itself: PFW_GAP and POWER_UP, or WARM_RESET (16 R444, R450). -/
def Dev.resetItems (s : Dev) (cause : Nat) : List LogItem :=
  let e := s.evr
  if cause = 1 then
    (if e.pfwGap = 0 then [] else [(0x5005, leBytes 4 e.pfwGap)])
      ++ [(0x0001, leBytes 1 1 ++ leBytes 1 (b2n (e.pfwDone || decide (e.pcycle ≤ 1))) ++ leBytes 2 e.pfwGap)]
  else [(0x510C, leBytes 1 cause)]

/-- The record of a session that the reset ended (R479). -/
def Upd.lostItems (u : Upd) : List LogItem := if u.lostSess then [(0x5103, [0, 2])] else []

/-- What a reset leaves before the ROM's checks: the cause, the cycle count and the tamper configuration that applies from
this reset (R458, 15 R436, 16 R443). (DEDUCED: log entry 120.) -/
def Dev.atReset (s : Dev) (cause : Nat) (b : BootIn) : Dev :=
  let s := s.lose
  let s := if b.backupValid then s else s.backupLost
  let x := s.sec
  { s with
    gen := { s.gen with cause := cause, refclkOk := true }
    evr := { s.evr with pcycle := if cause = 1 then min (s.evr.pcycle + 1) 0xFFFFFF else s.evr.pcycle }
    sec := { x with
      tmp := x.tmpNext.getD x.tmp, tmpNext := none
      live := if b.fuseOk then b.tamperLive else b.tamperLive ||| 0x800 } }

/-- The sources that read set and that the configuration watches (15 R436). -/
def Dev.tampered (s : Dev) : BitVec 12 :=
  BitVec.ofNat 12 (((List.range 12).filter fun k => s.sec.live.getLsbD k && s.sec.tmp.watches k).foldl (fun n k => n + 2 ^ k) 0)

/-- The lowest bit set. -/
def firstBit (v : BitVec 12) : Nat := ((List.range 12).find? fun k => v.getLsbD k).getD 0

/-- TAMPER_HOLD at start-up: no core is released; a sentinel tells (15 R437). (DEDUCED: log entry 125.) -/
def Dev.startHold (s : Dev) : Dev :=
  let x := s.sec
  let v := s.tampered
  let fresh := x.latched == 0
  let s := { s with
    sec := { x with
      latched := x.latched ||| v, slots := [], cache := []
      first := if fresh then firstBit v else x.first, latchAt := if fresh then s.opSec else x.latchAt }
    gen := { s.gen with tamper := true } }
  (s.halt .tamperHold).sentinel 0xCF01 (leBytes 2 s.sec.latched.toNat ++ leBytes 1 s.sec.first)

/-- The tamper-fuse step of a power-on reset at which every enabled source reads clear (15 R439). -/
def Dev.fuseStep (s : Dev) : Dev × List LogItem :=
  let x := s.sec
  let n := min (x.tmpFuses + 1) 16
  ({ s with sec := { x with tmpFuses := n, latched := 0, lc := if n = 16 then 4 else x.lc } },
    (0x4F04, leBytes 2 x.latched.toNat ++ leBytes 1 n)
      :: if n = 16 ∧ x.lc ≠ 4 then [(0x4F02, leBytes 1 x.lc ++ leBytes 1 4)] else [])

/-- A pending life-cycle advance is completed (15 R424). -/
def Dev.advanceLc (s : Dev) : Dev × List LogItem :=
  let x := s.sec
  match x.advance with
  | some t => ({ s with sec := { x with lc := max x.lc t, advance := none } },
      [(0x4F02, leBytes 1 x.lc ++ leBytes 1 (max x.lc t))])
  | none => (s, [])

/-- Steps 4 to 9 of R461. -/
def Dev.bootOn (s : Dev) (cause : Nat) (b : BootIn) (l : List LogItem) : Dev :=
  if b.failedTests ≠ 0 then
    { s with sec := { s.sec with testFail := true } }.halt .haltSelftest |>.sentinel 0x8F03 (leBytes 2 b.failedTests.toNat)
  else
    let kind := s.upd.bootKind
    let u := { s.upd with bankA := s.upd.bankA.read b.bankA, bankB := s.upd.bankB.read b.bankB, bootKind := none, lostSess := false }
    let l := l ++ s.upd.lostItems
    let c := u.bootBank cause s.evr.opTime b
    let s := { s with upd := c.2.1, evr := { s.evr with pfwGap := 0, pfwDone := false } }.startVault
    match c.1, kind with
    | some k, none => s.serve k b.bindingCrcOk (l ++ c.2.2)
    | some k, some 0 => s.serve k b.bindingCrcOk (l ++ c.2.2)
    | _, _ => s.recover (l ++ c.2.2)

/-- A reset of a given cause, and the whole boot sequence (R458, R461). -/
def Dev.boot (s : Dev) (cause : Nat) (b : BootIn) : Dev :=
  let s := s.atReset cause b
  let items := s.resetItems cause
  let bad := s.tampered != 0
  if bad || (s.sec.latched != 0 && cause != 1) then s.startHold
  else if !b.fuseOk then s.halt .haltFuse
  else
    let f := if s.sec.latched != 0 then s.fuseStep else (s, [])
    let a := f.1.advanceLc
    a.1.bootOn cause b (items ++ f.2 ++ a.2)

/-- What a boot finds when nothing outside has changed: used where a command resets the device. -/
def Dev.bootInputs (s : Dev) : BootIn :=
  { failedTests := s.sec.flaws.setWidth 16, tamperLive := s.sec.live, bankA := s.upd.bankA.asIn, bankB := s.upd.bankB.asIn }

/-- POWER_ON_RESET (R458 code 1, R461). (DESIGN CHOICE: log entry 18.) -/
def execPowerOnReset (b : BootIn) (s : State) : Host.Outcome State Fault Refusal := act s fun s =>
  (s.boot 1 b)

/-- DEBUG_RESET (R458 code 5): through the open debug port. -/
def execDebugReset (b : BootIn) (s : State) : Host.Outcome State Fault Refusal := act s fun s =>
  (if s.debugOpen then s.boot 5 b else s)

/-! ### The watchdog (R459) -/

/-- WATCHDOG_KICK: supervisor firmware restarts the watchdog. -/
def execWatchdogKick (s : State) : Host.Outcome State Fault Refusal := act s fun s =>
  { s with upd := { s.upd with wdAt := s.tbs.mono } }

/-- WATCHDOG_EXPIRY: 2 s without a restart; a fleet stop of cause COMMAND. -/
def execWatchdogExpiry (s : State) : Host.Outcome State Fault Refusal := act s fun s =>
  let s := s.advanceMono (s.upd.wdAt + 2 * secU)
  ({ s with upd := { s.upd with wdOver := true } }.fleetStop 2)

/-- WATCHDOG_RESET: 10 ms after the stop. -/
def execWatchdogReset (b : BootIn) (s : State) : Host.Outcome State Fault Refusal := act s fun s =>
  if s.upd.wdOver then ((s.advanceMono (s.upd.wdAt + 2 * secU + 10 * msU)).boot 2 b) else s

/-! ### Trials (R474 to R476) -/

/-- A trial runs: it holds the update lock (R472). -/
def Dev.onTrial (s : Dev) : Bool := s.upd.bankValid && s.runBank.st == .trial

/-- TRIAL_LEFT_S (R462, R474). -/
def Dev.trialLeft (s : Dev) : Nat :=
  if s.onTrial then s.upd.trialS - (s.evr.opTime - s.upd.trialStart) / secU else 0

/-- TRIAL_EXPIRY (R476): TRIAL_LEFT_S reaches 0; the island raises a fleet stop of cause COMMAND. -/
def execTrialExpiry (s : State) : Host.Outcome State Fault Refusal := act s fun s =>
  if s.onTrial && !s.upd.trialOver then
    let s := s.advance (s.upd.trialStart + s.upd.trialS * secU - s.evr.opTime)
    ({ s with upd := { s.upd with trialOver := true, trialOverAt := s.tbs.mono } }.fleetStop 2)
  else s

/-- TRIAL_RESET (R476): no slot has been moving for 1 s, or 30 s have passed since the stop. -/
def execTrialReset (b : BootIn) (s : State) : Host.Outcome State Fault Refusal := act s fun s =>
  if s.upd.trialOver then
    let d := if (List.range s.nSlots).any s.moving then 30 * secU else secU
    ((s.advanceMono (s.upd.trialOverAt + d)).boot 4 b)
  else s

/-! ### Power and heat (11 R341, R342, R350, 18 R484) -/

/-- PFW_ASSERT (11 R341, 16 R450). -/
def execPfwAssert (s : State) : Host.Outcome State Fault Refusal := act s fun s =>
  let t := s.fleetStop 2
  let t := { t with blw := { t.blw with pfw := true }, sch := { t.sch with halted := true } }
  (t.pfwFlush.blwIrq s)

/-- PFW_DEASSERT (11 R341): with every supply in range dispatch resumes. -/
def execPfwDeassert (inRange : Bool) (s : State) : Host.Outcome State Fault Refusal := act s fun s =>
  if inRange && s.blw.pfw then
    (({ s with
      blw := { s.blw with pfw := false }, sch := { s.sch with halted := false }
      evr := { s.evr with pfwDone := false, pfwGap := 0 } }.dispatch).blwIrq s)
  else s

/-- POWER_LOSS (11 R342, 18 R484): BACKUP; only AON goes on. -/
def execPowerLoss (s : State) : Host.Outcome State Fault Refusal := act s fun s =>
  let s := s.lose
  { s with blw := { s.blw with backup := true } }

/-- VBAT_LOW (18 R484): below 1.15 V outside BACKUP; one record each day. (DESIGN CHOICE: log entry 124.) -/
def execVbatLow (mv : Nat) (s : State) : Host.Outcome State Fault Refusal := act s fun s =>
  if s.blw.backup || decide (1150 ≤ mv) then s
  else
    let day := s.tbs.mono / (86400 * secU)
    let t := { s with gen := { s.gen with vbatLow := true, supply := s.gen.supply.take 4 ++ [mv] } }
    (if s.blw.vbatDay = some day then t
      else { t with blw := { t.blw with vbatDay := some day } }.log (fwCode 1 0 0x10) (leBytes 2 mv))

/-- THERMAL_TRIP (11 R350). -/
def execThermalTrip (t : Int) (s : State) : Host.Outcome State Fault Refusal := act s fun s =>
  if s.blw.trip || s.blw.off || decide (t < s.tjMax + 10) then s
  else
    let s := s.thermMod 15 fun x => { x with t := t, peak := max x.peak t }
    ({ s with blw := { s.blw with trip := true } }.fleetStop 2)

/-- THERMAL_POWER_OFF (11 R350): 10 ms later every domain except AON is switched off; the trip stays latched in AON. -/
def execThermalPowerOff (s : State) : Host.Outcome State Fault Refusal := act s fun s =>
  if s.blw.trip && !s.blw.off then
    let k := s.therm 15
    let s := (s.advance (10 * msU)).lose.thermMod 15 fun _ => k
    { s with blw := { s.blw with trip := true, off := true } }
  else s

/-- THERMAL_RECOVER (11 R350): sensor 15 below Tj_max − 10 °C; a power-on reset, after which the recorder marks the trip. -/
def execThermalRecover (t : Int) (b : BootIn) (s : State) : Host.Outcome State Fault Refusal := act s fun s =>
  if s.blw.off && decide (t < s.tjMax - 10) then
    ((s.boot 1 b).log 0xCB03 (leBytes 1 15 ++ leBytes 1 (low 8 (s.therm 15).t)))
  else s

/-! ### Update sessions (R467 to R472) -/

/-- The bank that an update writes: the one that does not run; in RECOVERY bank A, or B when A is CONFIRMED (R480). -/
def Dev.idleBank (s : Dev) : Bool :=
  if s.gen.phase = .recovery then s.upd.bankA.st == .confirmed else !s.upd.running

/-- The holder of the update lock: its VERSION and its port, 7 for TRIAL (R472). -/
def Dev.lockHolder (s : Dev) : Option (Word × Nat) :=
  match s.upd.sess with
  | some x => some (x.version, x.port)
  | none => if s.onTrial then some (s.runBank.version, 7) else none

/-- Header fields of a container (R465). -/
def hdrNat (b : List Byte) (ofs n : Nat) : Nat := leAt b ofs n

/-- Bytes of a header all 0. -/
def zeros (b : List Byte) (ofs n : Nat) : Bool := ((b.drop ofs).take n).all fun x => x == 0

/-- Check 2 of R468: length, MAGIC, FORMAT, KIND, TO_LEN and the fields that must be 0 (R465). -/
def headerOk (full : Bool) (b : List Byte) : Bool :=
  let n := b.length
  let kind := hdrNat b 5 1
  n == hdrNat b 8 2 && decide (5892 ≤ n) && decide (n ≤ 8192) && n % 4 == 0
    && b.take 4 == ascii "PQDL" && hdrNat b 4 1 == 1 && (kind == 1 || (kind == 0 && !full))
    && decide (hdrNat b 24 4 ≤ 25165824) && zeros b 28 4 && zeros b 176 256 && zeros b 529 3 && zeros b 5889 (n - 5889)
    && (kind == 0 || (hdrNat b 16 4 == 0 && zeros b 32 48))

/-- Checks 2 to 5 of R468 on a whole header: a refusal, or the session it would open. -/
def Dev.checkHeader (s : Dev) (c : Cmd) (b : List Byte) : Except Rc Sess :=
  let kind := hdrNat b 5 1
  let part := hdrNat b 6 2
  let ts := argF c 0 0 16
  if !headerOk (s.gen.phase == .recovery) b then .error .updHeader
  else if part ≠ 0 ∧ part ≠ s.gen.part then .error .updPart
  else if !c.sigOk then .error .updSignature
  else if kind = 0 ∧ (b.drop 32).take 48 ≠ s.runBank.hash then .error .updFromHash
  else .ok
    { port := pathPort c.path, id := 0, bank := s.idleBank, kind := kind, version := word (hdrNat b 12 4)
      sfn := hdrNat b 10 2, dataLen := hdrNat b 20 4, toLen := hdrNat b 24 4, toHash := (b.drop 80).take 48
      trialS := if ts = 0 then 600 else ts }

/-- Key of a management path in the held header parts: HPF1 or SITE. -/
def partKey (p : Path) : Nat := match p with | .site => 1 | _ => 0

/-- The path carries its bytes as an attachment (R469). -/
def attached (p : Path) : Bool := match p with | .mgmt => true | .site => true | _ => false

/-- The attachment of a command: address words 0, and the length word the attachment's (R469). -/
def attachOk (c : Cmd) : Bool :=
  let n := c.data.length
  arg64 c 1 == 0 && (arg c 3).toNat == n && decide (4 ≤ n) && decide (n ≤ 1408) && n % 4 == 0

/-- Fields of UPD_BEGIN. -/
def updBeginFields : List FieldRule :=
  [⟨0, 0, 16, fun v => v == 0 || (decide (60 ≤ v) && decide (v ≤ 3600))⟩, fAny 0 16 3, fWord 1, fWord 2, fWord 3]

/-- UPD_BEGIN with its whole header: checks 2 to 5, and then the command waits for the lock decision of the tick (R468,
R472). (DEDUCED: log entry 117.) -/
def Dev.contest (s : Dev) (c : Cmd) (b : List Byte) : Res :=
  match s.checkHeader c b with
  | .error e => refuse s e
  | .ok x => later' { s with upd := { s.upd with contend := s.upd.contend ++ [{ path := c.path, tag := c.tag, sess := x }] } }

/-- UPD_BEGIN (R468, R469): a header that comes in parts is held until it is whole. -/
def updBeginRun (c : Cmd) (s : Dev) : Res :=
  if pathPort c.path = 2 ∨ pathPort c.path = 4 then refuse s .noDmaPath
  else if attached c.path then
    let k := partKey c.path
    let part := argF c 0 16 3
    let have_ := if part = 0 then [] else tget [] s.upd.parts k
    let b := have_ ++ c.data
    if !attachOk c then refuse s .updHeader
    else if part ≠ 0 ∧ have_.length ≠ 1408 * part then refuse s .updHeader
    else
      let s := { s with upd := { s.upd with parts := tset [] s.upd.parts k b } }
      if b.length < hdrNat b 8 2 then done s [word b.length]
      else { s with upd := { s.upd with parts := tset [] s.upd.parts k [] } }.contest c b
  else s.contest c (c.data.take (arg c 3).toNat)

/-- A session opens: the inactive bank becomes INVALID, and its generation is erased unless the running bank names it (R468,
R478). -/
def Dev.openSession (s : Dev) (x : Sess) : Dev :=
  let u := s.upd
  let id := (u.sessions + 1) % 65536
  let old := u.bank x.bank
  let u := u.bankMod x.bank fun k => { k with st := .invalid, version := 0, sfn := 0, gen := 0, len := 0, hash := [] }
  let u := u.eraseGen old.gen [u.bank !x.bank]
  let u := { u with
    sess := some { x with id := id, at_ := s.tbs.mono }, sessions := id
    idlePort := if u.idlePort = some x.port then none else u.idlePort }
  { s with upd := u }.log 0x1101 (leBytes 1 x.port ++ [0, 0, 0] ++ leBytes 4 x.version.toNat)

/-- The order of contenders: authority rank, then master identity with SITE the highest (R472). -/
def contendKey (p : Path) : Nat := 16 * pathRank p + (match p with | .site => 15 | .mgmt => 5 | _ => 4)

/-- A contender that does not get the lock (R472). (DEDUCED: log entry 117.) -/
def Dev.updRefuse (s : Dev) (k : Contend) : Dev :=
  let h := s.lockHolder.getD (0, 0)
  let s := s.log 0x1102 (leBytes 1 k.sess.port ++ [0] ++ leBytes 2 (rcCode .updateBusy) ++ leBytes 4 k.sess.version.toNat)
  s.deliver { path := k.path, tag := k.tag, code := .updateBusy, words := [h.1, word h.2], epoch := s.epoch }

/-- A contender gets the lock. (DEDUCED: log entry 117.) -/
def Dev.updGrant (s : Dev) (k : Contend) : Dev :=
  let s := s.openSession k.sess
  s.deliver { path := k.path, tag := k.tag, code := .success, words := [word s.upd.sessions, word k.sess.dataLen], epoch := s.epoch }

/-- The lock decision of a profile tick (R472). (DEDUCED: log entry 117.) -/
def Dev.updDecide (s : Dev) : Dev :=
  let l := sortBy (fun (a b : Contend) => decide (contendKey a.path ≤ contendKey b.path)) s.upd.contend
  let s := { s with upd := { s.upd with contend := [] } }
  match l, s.lockHolder with
  | k :: ks, none => ks.foldl Dev.updRefuse (s.updGrant k)
  | ks, _ => ks.foldl Dev.updRefuse s

/-- The session reaches an error in its data: DELTA_BAD (R467). -/
def Sess.spoil (x : Sess) : Sess := { x with bad := true, tail := [], litLeft := 0 }

/-- Output of an operation. -/
def Sess.emit (x : Sess) (n : Nat) : Sess :=
  if x.toLen < x.out + n then x.spoil else { x with out := x.out + n }

/-- A whole operation header of 4, 8 or 12 bytes (R467). (DEDUCED: log entry 128.) -/
def Sess.oper (runLen : Nat) (x : Sess) : Sess :=
  let op := leAt x.tail 0 1
  let len := leAt x.tail 4 4
  let src := leAt x.tail 8 4
  if x.tail.length = 4 then (if leAt x.tail 1 3 ≠ 0 ∨ op = 0 ∨ 3 < op ∨ (op = 1 ∧ x.kind = 1) then x.spoil else x)
  else if x.tail.length = 8 then
    if op = 2 then { (x.emit len) with tail := [], litLeft := if x.toLen < x.out + len then 0 else (len + 3) / 4 * 4 }
    else if op = 3 then (if len = 0 then { x with tail := [], ended := true } else x.spoil)
    else x
  else if runLen < src + len then x.spoil else { (x.emit len) with tail := [] }

/-- Four bytes of data (R467): literal bytes, or part of an operation; bytes after END spoil the session. -/
def Sess.word4 (runLen : Nat) (x : Sess) (b : List Byte) : Sess :=
  if x.bad then x
  else if x.ended then x.spoil
  else if 0 < x.litLeft then { x with litLeft := x.litLeft - 4 }
  else Sess.oper runLen { x with tail := x.tail ++ b }

/-- Data of a session, four bytes at a time. (DEDUCED: log entry 128.) -/
def Sess.feed (runLen : Nat) (x : Sess) : List Byte → Sess
  | a :: b :: c :: d :: bs => Sess.feed runLen (x.word4 runLen [a, b, c, d]) bs
  | _ => x

/-- Fields of UPD_DATA. -/
def updDataFields : List FieldRule := fWords 0 4

/-- The first test of a session's commands: the arrival port holds a session that takes commands (R470). -/
def Dev.sessGate (s : Dev) (p : Path) : Except (Rc × Dev) Sess :=
  if s.upd.idlePort = some (pathPort p) then .error (.updIdle, { s with upd := { s.upd with idlePort := none } })
  else match s.upd.sess with
  | some x => if x.port = pathPort p ∧ x.commit.isNone then .ok x else .error (.updNoSession, s)
  | none => .error (.updNoSession, s)

/-- UPD_DATA (R467, R469, R470). -/
def updDataRun (c : Cmd) (s : Dev) : Res :=
  let n := (arg c 3).toNat
  match s.sessGate c.path with
  | .error e => ⟨some e.1, [], e.2⟩
  | .ok x =>
    if n < 4 ∨ 65536 < n ∨ n % 4 ≠ 0 ∨ (attached c.path ∧ !attachOk c) then refuse s .reservedValue
    else if (arg c 0).toNat ≠ x.accepted then ⟨some .updOffset, [word x.accepted], s⟩
    else
      let y := x.feed s.runBank.len (fitTo n c.data)
      let y := { y with accepted := x.accepted + n, at_ := s.tbs.mono }
      done { s with upd := { s.upd with sess := some y } } [word y.accepted]

/-- A session closes and the lock is released (R470, R471). -/
def Dev.closeSession (s : Dev) (why : Nat) : Dev :=
  match s.upd.sess with
  | some x => { s with upd := { s.upd with sess := none } }.log 0x5103 (leBytes 1 x.port ++ leBytes 1 why)
  | none => s

/-- Fields of UPD_COMMIT and UPD_ABORT. -/
def updSessFields : List FieldRule := [fAny 0 0 16]

/-- UPD_COMMIT (R471): the checks start. -/
def updCommitRun (c : Cmd) (s : Dev) : Res :=
  match s.sessGate c.path with
  | .error e => ⟨some e.1, [], e.2⟩
  | .ok x =>
    if argF c 0 0 16 ≠ x.id then refuse s .updNoSession
    else ⟨some .acceptedAsync, [], { s with upd := { s.upd with sess := some { x with commit := some (c.path, c.tag) } } }⟩

/-- UPD_ABORT (R470). -/
def updAbortRun (c : Cmd) (s : Dev) : Res :=
  match s.sessGate c.path with
  | .error e => ⟨some e.1, [], e.2⟩
  | .ok x => if argF c 0 0 16 ≠ x.id then refuse s .updNoSession else done (s.closeSession 0) []

/-- The result of a session passes the checks of R471. -/
def Sess.good (x : Sess) (r : CommitIn) : Bool :=
  x.accepted == x.dataLen && r.dataHashOk && !x.bad && x.ended && x.out == x.toLen && r.toHashOk && r.bankOk

/-- UPD_COMMIT_DONE (R471): the bank becomes PENDING with its predecessor's generation (R473), or the command fails with
UPD_TO_HASH. (DEDUCED: log entry 128.) -/
def execUpdCommitDone (r : CommitIn) (s : State) : Host.Outcome State Fault Refusal := act s fun s =>
  match s.upd.sess with
  | some x =>
    match x.commit with
    | some a =>
      if x.good r then
        let gen := if s.gen.phase = .recovery then 0 else s.runBank.gen
        let u := s.upd.bankMod x.bank fun k => { k with
          st := .pending, version := x.version, sfn := x.sfn, gen := gen, len := x.toLen, hash := x.toHash }
        let s := { s with upd := { u with sess := none, trialS := x.trialS } }
        let s := s.log 0x1104 (leBytes 1 (b2n x.bank) ++ [0, 0, 0] ++ leBytes 4 x.version.toNat)
        (s.owe a.1 a.2 .updCommit .success [x.version])
      else ((s.closeSession 3).owe a.1 a.2 .updCommit .updToHash [])
    | none => s
  | none => s

/-- UPD_IDLE_TIMEOUT (R470): 120 s without accepted data. -/
def execUpdIdleTimeout (s : State) : Host.Outcome State Fault Refusal := act s fun s =>
  match s.upd.sess with
  | some x =>
    if x.commit.isSome then s
    else
      let s := s.advanceMono (x.at_ + 120 * secU)
      let s := s.closeSession 1
      { s with upd := { s.upd with idlePort := some x.port } }
  | none => s

/-- UPD_CONFIRM (R475). -/
def updConfirmRun (_c : Cmd) (s : Dev) : Res :=
  if !s.onTrial then refuse s .updNotTrial
  else
    let b := s.upd.running
    let u := s.upd.bankMod b fun k => { k with st := .confirmed }
    let s := { s with upd := { u with active := b, trialOver := false } }
    done (s.log 0x1105 (leBytes 1 (b2n b) ++ [0, 0, 0] ++ leBytes 4 s.runBank.version.toNat)) []

/-- A rollback is possible (R477). -/
def Dev.rollbackOk (s : Dev) : Bool :=
  let o := s.upd.bank !s.upd.running
  o.st == .confirmed && !s.onTrial && s.upd.gens.any fun g => g.1 == o.gen

/-- UPD_ROLLBACK (R477): at the next reset. -/
def updRollbackRun (_c : Cmd) (s : Dev) : Res :=
  if s.fleetActive then refuse s .pwrFleetActive
  else if !s.rollbackOk then refuse s .updNoRollback
  else done { s with upd := { s.upd with rollback := true } } []

/-- UPD_STATUS (R481). -/
def updStatusRun (_c : Cmd) (s : Dev) : Res :=
  let u := s.upd
  let o := u.bank !u.running
  let lock := if u.sess.isSome then 1 else if s.onTrial then 2 else 0
  let pend := u.bankA.st == .pending || u.bankB.st == .pending
  let acc := (u.sess.map Sess.accepted).getD 0
  let len := (u.sess.map Sess.dataLen).getD 0
  let ver := (u.sess.map Sess.version).getD 0
  done s
    [word (lock + 4 * (s.lockHolder.getD (0, 0)).2 + 32 * b2n pend + 64 * b2n s.rollbackOk), word acc, word len, ver
     , if u.bankValid then s.runBank.version else 0, o.version, word u.gen
     , word ((if u.bankValid then s.runBank.sfn else 0) + 2 ^ 16 * s.trialLeft)]

/-! ### BOOT_RESET (R460) -/

/-- Fields of BOOT_RESET. -/
def bootResetFields : List FieldRule := [fIn 0 0 2 0 1]

/-- BOOT_RESET (R460): the reset follows the completion. -/
def bootResetRun (c : Cmd) (s : Dev) : Res :=
  if s.fleetActive then refuse s .pwrFleetActive
  else done { s with upd := { s.upd with bootKind := some (argF c 0 0 2) } } []

/-- The reset that an accepted BOOT_RESET has asked for. -/
def Dev.bootDue (s : Dev) : Dev := if s.upd.bootKind.isSome then s.boot 3 s.bootInputs else s

end Sys2Proof.Machine
end

