-- ==== Sys2Proof/Machine/Radio.lean ====
section
/-! DEFINITION. The radio ports: queues, transmission, the checks of received frames, registration, liveness and sleeping
partners (09_zfl_radio R252 to R282, R288). -/
namespace Sys2Proof.Machine

/-! ### Raw queues (R288) -/

/-- TXTS takes a record. -/
def Dev.txtsPush (s : Dev) (p : Nat) (t : TxItem) : Dev :=
  let r := (s.rport p).txts.push t true
  (s.rportMod p fun x => { x with txts := r.1, sent := min (x.sent + 1) 0xFFFFFFFF }).irqIf 8 r.2

/-- The data items of a frame: 31 bytes each, the last with EOP. -/
def rxData (app : Bool) : Nat → List Byte → List (RxItem × Bool)
  | 0, _ => []
  | n + 1, bs => ({ header := false, app := app, bytes := bs.take 31 }, n == 0) :: rxData app n (bs.drop 31)

/-- RXQ takes a header item and the data items of some bytes. -/
def Dev.rxqPush (s : Dev) (p : Nat) (h : RxItem) (bs : List Byte) : Dev :=
  let n := cdiv bs.length 31
  (({ h with header := true, len := bs.length }, n == 0) :: rxData h.app n bs).foldl (fun s x =>
    let r := (s.rport p).rxq.push x.1 x.2
    (s.rportMod p fun y => { y with rxq := r.1 }).irqIf 8 r.2) s

/-- An RXQ item as RXQ_DATA reads it. -/
def rxWord : QItem RxItem → Nat
  | .gap n => 2 + 4 + 2 ^ 184 * n
  | .data i e =>
    if i.header then
      4 * b2n e + 8 * b2n i.app + 2 ^ 8 * i.len + 2 ^ 24 * stamp80 i.ts + 2 ^ 104 * low 8 i.rssi + 2 ^ 112 * (i.lqi % 256)
        + 2 ^ 120 * i.epoch.toNat + 2 ^ 152 * i.air + 2 ^ 160 * i.flags.toNat + 2 ^ 168 * i.src.toNat
    else 1 + 4 * b2n e + 2 ^ 8 * leNat i.bytes

/-- A TXTS record as TXTS_DATA reads it. -/
def txWord : QItem TxItem → Nat
  | .gap n => 2 + 4 + 2 ^ 184 * n
  | .data t _ =>
    4 + 2 ^ 8 * t.kind + 2 ^ 16 * t.dst + 2 ^ 32 * t.cnt + 2 ^ 64 * stamp80 t.ts + 2 ^ 144 * t.epoch.toNat
      + 2 ^ 176 * t.air + 2 ^ 182 * t.result

/-- Words 0 to 7 of a 256-bit value, or one of them; 8 stands for all. -/
def words256 (v w : Nat) : List Word :=
  if w = 8 then (List.range 8).map fun i => word (v / 2 ^ (32 * i)) else [word (v / 2 ^ (32 * w))]

/-- RXQ_DATA_READ (R288): a read of word 0 dequeues the item and latches the rest for the same master. -/
def Dev.rxqDataRead (s : Dev) (m : Master) (p : Fin 8) (w : Fin 9) : Dev :=
  let k := masterKey m
  if s.nPorts ≤ p.val then (s.readOut (words256 0 w))
  else if w.val = 0 ∨ w.val = 8 then
    let r := (s.rport p).rxq.pop
    let v := (r.1.map rxWord).getD 0
    ((s.rportMod p fun x => { x with rxq := r.2, rxLatch := tset 0 x.rxLatch k v }).readOut (words256 v w))
  else (s.readOut (words256 (tget 0 (s.rport p).rxLatch k) w))

/-- RXQ_DATA_READ: the read as a step of its own. -/
def execRxqDataRead (m : Master) (p : Fin 8) (w : Fin 9) (s : State) : Host.Outcome State Fault Refusal := act s fun s => s.rxqDataRead m p w

/-- TXTS_DATA_READ (R288). -/
def Dev.txtsDataRead (s : Dev) (m : Master) (p : Fin 8) (w : Fin 9) : Dev :=
  let k := masterKey m
  if s.nPorts ≤ p.val then (s.readOut (words256 0 w))
  else if w.val = 0 ∨ w.val = 8 then
    let r := (s.rport p).txts.pop
    let v := (r.1.map txWord).getD 0
    ((s.rportMod p fun x => { x with txts := r.2, txLatch := tset 0 x.txLatch k v }).readOut (words256 v w))
  else (s.readOut (words256 (tget 0 (s.rport p).txLatch k) w))

/-- TXTS_DATA_READ: the read as a step of its own. -/
def execTxtsDataRead (m : Master) (p : Fin 8) (w : Fin 9) (s : State) : Host.Outcome State Fault Refusal := act s fun s => s.txtsDataRead m p w

/-! ### When the radio serves -/

/-- The port sends and receives slot frames: enabled, the timebase runs, neither NIGHT nor RESYNC (R275, R287). -/
def Dev.airLive (s : Dev) (p : Nat) : Bool :=
  s.fitted p && (s.rport p).en && s.tbs.en && !s.tbs.resync && s.blw.st != .night

/-- The port serves slots and partners: it is not a follower's (R283). (DEDUCED: log entry 53.) -/
def Dev.serves (s : Dev) (p : Nat) : Bool := s.fitted p && (s.rport p).en && s.tbs.en && !s.tbs.resync && !s.rad.follower

/-- Nanoseconds from the start of the current epoch. -/
def Dev.ofEpoch (s : Dev) : Int := ((s.tbs.time : Int) - s.gen.epochFull * epU) / nsU

/-! ### Base frames (R261, R266, R269, R271) -/

/-- The queue and the counters that a short address belongs to: a machine slot's, or a partner's. -/
def Dev.contQueue (s : Dev) (dst : Nat) : List Cont :=
  if dst < 0x8000 then (s.rslot (dst - 0x100)).queue else (s.partner (dst - 0x8000)).queue

/-- Changes that queue. -/
def Dev.contQueueMod (s : Dev) (dst : Nat) (g : List Cont → List Cont) : Dev :=
  if dst < 0x8000 then s.rslotMod (dst - 0x100) fun r => { r with queue := g r.queue }
  else s.partnerMod (dst - 0x8000) fun r => { r with queue := g r.queue }

/-- The transmit counter and the receive mark of an address. -/
def Dev.addrCounts (s : Dev) (dst : Nat) : Nat × Nat :=
  if dst < 0x8000 then ((s.rslot (dst - 0x100)).txCnt, (s.rslot (dst - 0x100)).rxMark)
  else ((s.partner (dst - 0x8000)).txCnt, (s.partner (dst - 0x8000)).rxMark)

/-- The count at which sending to an address ends (R269). (DEDUCED: log entry 127.) -/
def cntEnd : Nat := 0xFFFFFF00

/-- Counters of a slot are written to the settings area after every 4,096 frames (R269). (DEDUCED: log entry 64.) -/
def RSlot.count (r : RSlot) : RSlot :=
  let n := r.txCnt + 1
  if n % 4096 = 0 then { r with txCnt := n, flashTx := n, flashRx := r.rxMark } else { r with txCnt := n }

/-- The transmit counter of an address rises (R269); where it reaches its end a record is written. -/
def Dev.countTx (s : Dev) (dst : Nat) : Dev :=
  let s := if dst < 0x8000 then s.rslotMod (dst - 0x100) RSlot.count
    else s.partnerMod (dst - 0x8000) fun r => { r with txCnt := r.txCnt + 1 }
  if (s.addrCounts dst).1 = cntEnd then s.log (fwCode 1 0x09 0x10) (leBytes 2 dst) else s

/-- A container of the queue has been sent: it counts the epoch (R271). -/
def Cont.bump (c : Cont) : Cont := { c with sent := c.sent + 1 }

/-- A container that lives in the queue; WINDOW and FIX are built for their plan. -/
def Cont.queued (c : Cont) : Bool := c.typ != 0x10 && c.typ != 0x11

/-- Completes the RAD_APP_SEND of a container (R289). -/
def Dev.appDone (s : Dev) (c : Cont) (code : Rc) (ws : List Word) : Dev :=
  match c.app with
  | some a => s.owe a.1 a.2 .radAppSend code ws
  | none => s

/-- Containers leave a queue without an acknowledgement. -/
def Dev.dropConts (s : Dev) (dst : Nat) (gone : Cont → Bool) : Dev :=
  let l := (s.contQueue dst).filter gone
  l.foldl (fun s c => s.appDone c .radNoAck []) (s.contQueueMod dst fun q => q.filter fun c => !gone c)

/-- Strobes a frame of a port's plan (R256, R258, R269): it takes the next sequence number and counter, and its containers
count the epoch. To an address whose counters are used up nothing is sent. -/
def Dev.strobe (s : Dev) (p : Nat) (f : DlFrame) : Dev :=
  let n := s.addrCounts f.dst
  if cntEnd ≤ n.1 ∨ cntEnd ≤ n.2 then s
  else
    let s := (s.advanceTo (s.slotStart + f.at_ * usU)).countTx f.dst
    let old := f.conts
    let conts := if f.again then f.conts else f.conts.map Cont.bump
    let s := s.contQueueMod f.dst fun q => (q.map fun c => if old.contains c ∧ !f.again then c.bump else c).filter
      fun c => !(c.typ == 0x14 && conts.contains c)
    s.rportMod p fun r => { r with
      awaiting := some { f with conts := conts, seq := r.seq, cnt := (s.addrCounts f.dst).1 }, seq := r.seq + 1 }

/-- Strobes the next frame of a port's plan that lies in the current slot. -/
def Dev.strobeNext (s : Dev) (p : Nat) : Dev :=
  match (s.rport p).plan with
  | f :: fs => if f.air = s.gen.slot then (s.rportMod p fun r => { r with plan := fs }).strobe p f else s
  | [] => s

/-- End of a base frame on air, µs from its slot's boundary. -/
def RPort.frameEnd (r : RPort) (f : DlFrame) : Nat := f.at_ + r.tStart + r.air f.len

/-- End of the whole exchange of a frame of n bytes strobed at `ofs` (R256). -/
def RPort.exchEnd (r : RPort) (ofs n : Nat) : Nat := ofs + r.tStart + r.air n + 120 + r.tStart + r.air 7

/-- Where an exchange goes from a place on (R270): its slot and strobe, and the place after it. -/
def RPort.placeAt (r : RPort) (last n : Nat) (cur : Nat × Nat) : Option ((Nat × Nat) × (Nat × Nat)) :=
  if cur.1 ≤ last ∧ r.exchEnd cur.2 n ≤ 2450 then some (cur, (cur.1, r.exchEnd cur.2 n + 20))
  else if cur.1 < last ∧ r.exchEnd 200 n ≤ 2450 then some ((cur.1 + 1, 200), (cur.1 + 1, r.exchEnd 200 n + 20))
  else none

/-- The record of the awaited base frame (R288). -/
def Dev.txRecord (s : Dev) (p : Nat) (f : DlFrame) (result : Nat) : Dev :=
  s.txtsPush p {
    kind := f.kind, dst := f.dst, cnt := f.cnt, ts := s.slotStart + f.at_ * usU + (s.rport p).txLat * nsU
    epoch := s.epoch, air := s.gen.slot, result := result }

/-- The awaited frame has been acknowledged (R266, R271, R289). -/
def Dev.frameAcked (s : Dev) (p : Nat) (f : DlFrame) : Dev :=
  let ts := s.slotStart + f.at_ * usU + (s.rport p).txLat * nsU
  let s := (s.txRecord p f 1).rportMod p fun r => { r with awaiting := none }
  let s := s.contQueueMod f.dst fun q => q.filter fun c => !f.conts.contains c
  (f.conts.foldl (fun s c => s.appDone c .success (stampWords ts ++ [s.epoch])) s).strobeNext p

/-- The awaited frame stays without an acknowledgement (R271): it is sent again once where room remains after the plan;
containers sent in 8 epochs go. -/
def Dev.frameLost (s : Dev) (p : Nat) (f : DlFrame) : Dev :=
  let r := s.rport p
  let s := (s.txRecord p f 2).rportMod p fun r => { r with awaiting := none, unacked := min (r.unacked + 1) 0xFFFFFFFF }
  let here := (s.gen.slot, r.exchEnd f.at_ f.len + 20)
  let cur := if r.planEnd.1 < here.1 ∨ (r.planEnd.1 = here.1 ∧ r.planEnd.2 < here.2) then here else r.planEnd
  let place := if f.again ∨ f.kind ≠ 3 then none else r.placeAt (24 + r.dlSlots) f.len cur
  let s := match place with
    | some x => s.rportMod p fun r => { r with
        plan := r.plan ++ [{ f with air := x.1.1, at_ := x.1.2, again := true }], planEnd := x.2 }
    | none => s.dropConts f.dst fun c => f.conts.contains c && decide (8 ≤ c.sent)
  s.strobeNext p

/-- BASE_ACK_TIMEOUT (R266, R271): the deadline of the awaited frame passes. -/
def execBaseAckTimeout (p : Fin 8) (s : State) : Host.Outcome State Fault Refusal := act s fun s =>
  let r := s.rport p
  (match r.awaiting with
  | some f => (s.advanceTo (s.slotStart + (r.frameEnd f + 120 + r.tStart + r.shr + 25) * usU)).frameLost p f
  | none => s)

/-! ### Registration and liveness (R272 to R276) -/

/-- Containers of a machine slot are queued; a newer one of the kinds that stand for the present replaces an older one. -/
def RSlot.enqueue (r : RSlot) (single : Bool) (c : Cont) : RSlot :=
  { r with queue := (if single then r.queue.filter fun x => x.typ != c.typ else r.queue) ++ [c] }

/-- The generations that a machine should hold, with the anchor of each: current go and stop, next go and stop (R274). -/
def Dev.anchorsDue (s : Dev) : List (Bool × Nat × Nat) :=
  [(true, false), (false, false), (true, true), (false, true)].filterMap fun x =>
    (s.anchorOf x.1 x.2).map fun a => (x.1, a.1, a.2)

/-- REG_REQ (R272 to R274): the slot registers, REG_ACCEPT carries a fresh CHALLENGE, and the anchors it lacks follow.
(DEDUCED: log entry 54.) -/
def Dev.regReq (s : Dev) (k : Nat) (d : List Byte) : Dev :=
  let g (o : Nat) : Nat := leAt d o 2
  let v2 := decide (2 ≤ leAt d 0 1)
  let (ch, s) := s.draw
  let room := (s.rport (portOf k)).contRoom
  let acc := leBytes 1 (min 2 (leAt d 0 1)) ++ leBytes 1 (s.fslot k).mode ++ leBytes 2 room ++ leBytes 4 ch.toNat
  let s := s.rslotMod k fun r => ({ r with
    st := .registering, ver2 := v2, challenge := ch, missed := 0, regEpochs := 0
    queue := r.queue.filter fun c => c.typ != 0x12 } : RSlot).enqueue true { typ := 0x13, data := acc }
  s.anchorsDue.foldl (fun s a =>
    let has := if a.1 then g 2 == a.2.1 || g 4 == a.2.1 else g 6 == a.2.1 || g 8 == a.2.1
    if has then s
    else s.rslotMod k fun r => r.enqueue false { typ := 0x12, data := s.anchorRecord a.1 a.2.1 a.2.2 }) s

/-- HOLD (R273, R274): with the current CHALLENGE it confirms the generations it lists, and completes a registration that holds
the device's current ones. -/
def Dev.hold (s : Dev) (k : Nat) (d : List Byte) : Dev :=
  let r := s.rslot k
  if word (leAt d 12 4) ≠ r.challenge then s
  else
    let gens := [leAt d 2 2, leAt d 4 2, leAt d 6 2, leAt d 8 2]
    let s := s.rslotMod k fun r => { r with gens := gens }
    let test := (leAt d 1 1).testBit 0
    if r.st = .registering ∧ leAt d 2 2 = s.bgl.goGen ∧ leAt d 6 2 = s.bgl.stopGen ∧ test = s.bgl.testRoot then
      (s.rslotMod k fun r => { r with st := .active, activeAt := s.tbs.mono, missed := 0 }).frozMod k fun f =>
        if f.frozen then { f with awaiting := true } else f
    else s

/-- A slot falls silent (R275): its filter goes, Orchard freezes the holder, and a record names it.
(DEDUCED: log entry 52.) -/
def Dev.slotSilent (s : Dev) (k : Nat) : Dev :=
  let s := s.rslotMod k fun r => { r with st := .silent }
  let s := s.fslotMod k FixSlot.restart
  (s.freezeHolder k).logSlot 0xC901 k []

/-- The bookkeeping of a machine slot at the end of its air slot (R273, R275). (DEDUCED: log entry 52.) -/
def Dev.airSlotEnd (s : Dev) (k : Nat) : Dev :=
  let r := s.rslot k
  let miss := if r.got then 0 else r.missed + 1
  let s := s.rslotMod k fun r => { r with got := false }
  match r.st with
  | .active =>
    let s := s.rslotMod k fun r => { r with missed := miss }
    if 3 ≤ miss then s.slotSilent k else s
  | .registering => s.rslotMod k fun r => { r with missed := miss, st := if 3 ≤ miss then .bound else .registering }
  | .unbound => s
  | _ => s.rslotMod k fun r => { r with missed := miss }

/-- At a boundary a REGISTERING slot has stayed one epoch longer without completing; after 100 it is BOUND (R273).
(DEDUCED: log entry 52.) -/
def RSlot.regWait (r : RSlot) : RSlot :=
  if r.st = .registering then
    { r with regEpochs := r.regEpochs + 1, st := if 99 ≤ r.regEpochs then .bound else .registering }
  else r

/-- The air slot before the present slot has ended: liveness of its machines, and their missing uplinks (05 R150). -/
def Dev.airEnd (s : Dev) : Dev :=
  let air := s.gen.slot - 1
  if air = 0 ∨ 24 < air then s
  else
    let s := (List.range 8).foldl (fun s p =>
      let k := 24 * p + air - 1
      if s.airLive p ∧ s.serves p ∧ k < s.nSlots then s.airSlotEnd k else s) s
    s.uplinkEnd air

/-! ### Sleeping partners (R278 to R281) -/

/-- The key of partner i of port p. -/
def partnerKey (p i : Nat) : Nat := 64 * p + i

/-- The full count of a partner's next wake after epoch e (R278). -/
def Partner.nextWake (x : Partner) (e : Nat) : Nat := e + 1 + (x.phase + x.period - (e + 1) % x.period) % x.period

/-- L + T_START + SHR in ns from the epoch's start: where a POLL on time has its timestamp (R279). -/
def Partner.due (x : Partner) (r : RPort) : Int := x.pslot * 2500000 + 200000 + (r.tStart + r.shr) * 1000

/-- The mean of some rates. -/
def mean (l : List Int) : Int := if l.isEmpty then 0 else l.sum / l.length

/-- The standard deviation of some values, rounded up. (DEDUCED: log entry 90.) -/
def spread (l : List Int) : Nat :=
  if l.length < 2 then 0
  else
    let m := l.sum
    let n : Int := l.length
    let v := (l.map fun x => (n * x - m) * (n * x - m)).sum
    isqrtUp (v / (n * n * (n - 1))).toNat

/-- σ_32, ppb: the spread of the XO32K residual drift in the present temperature bin (R280).
(DEDUCED: log entry 90.) -/
def Dev.sigma32 (s : Dev) : Nat :=
  let l := tget [] s.rad.drift32 ((s.blw.tj + 128) / 8).toNat
  if l.length < 2 then s.tbs.drift32Ppb / 3 else spread l

/-- Elapsed time since a partner's last synchronisation, ns. -/
def Dev.sincePoll (s : Dev) (x : Partner) : Nat := (s.tbs.mono - x.syncAt) / nsU

/-- The guard G of a partner's next window, ns (R280, R281). (DEDUCED: log entry 90.) -/
def Dev.guardOf (s : Dev) (x : Partner) : Nat :=
  match x.guard with
  | some g => g
  | none =>
    let ns := s.sincePoll x
    let u := 3 * x.sigma * ns / 10 ^ 9 + if x.night then 3 * s.sigma32 * ns / 10 ^ 9 + 30600 else 0
    min 4000000 (300000 + u)

/-- PARTNER_WAKE_WINDOW (R278, R279): in the partner's wake epoch the base listens over X ± G, clipped to the partner
region. -/
def execPartnerWakeWindow (p : Fin 8) (i : Fin 64) (s : State) : Host.Outcome State Fault Refusal := act s fun s =>
  let k := partnerKey p i
  let x := s.partner k
  let r := s.rport p
  let e := s.gen.epochFull
  if s.serves p ∧ x.st ≠ .none ∧ 0 < x.period ∧ e % x.period = x.phase ∧ x.lastWake ≠ some e then
    let g := s.guardOf x
    let mid : Int := x.due r + x.drift * s.sincePoll x / 10 ^ 9
    let lo : Int := max (mid - g) ((25 + r.dlSlots) * 2500000)
    let hi : Int := min (mid + g) 100000000
    let s := s.advanceTo (e * epU + lo.toNat * nsU)
    (s.partnerMod k fun x => { x with window := some (lo, hi, g), lastWake := some e })
  else s

/-- PARTNER_MISS (R281): the window ends without a POLL. -/
def execPartnerMiss (p : Fin 8) (i : Fin 64) (s : State) : Host.Outcome State Fault Refusal := act s fun s =>
  let k := partnerKey p i
  let x := s.partner k
  (match x.window with
  | none => s
  | some w =>
    let s := s.advanceTo (s.gen.epochFull * epU + w.2.1.toNat * nsU)
    let n := min (x.misses + 1) 7
    let lost := decide (4 ≤ n)
    let s := s.partnerMod k fun x => { x with
      window := none, misses := n, guard := some (min (2 * w.2.2) 4000000)
      st := if lost then .lost else .missed
      lostEpochs := if lost ∧ x.st ≠ .lost then 0 else x.lostEpochs }
    if lost ∧ x.st ≠ .lost then s.log 0x4902 (leBytes 1 p.val ++ leBytes 1 i.val) else s)

/-- The partner of a port whose window is open. -/
def Dev.openPartner (s : Dev) (p : Nat) : Option Nat :=
  (List.range 64).find? fun i => (s.partner (partnerKey p i)).window.isSome

/-- WAKE_SYNC (R279). -/
def wakeSync (ofs : Nat) (next : Nat) : Cont := { typ := 0x21, data := leBytes 4 ofs ++ leBytes 4 next }

/-- Bytes of a unicast frame that carries some containers (R261): MHR, auxiliary header, ZHDR, MIC and FCS take 28. -/
def frameLen (v2 : Bool) (cs : List Cont) : Nat :=
  28 + (cs.map fun c => c.data.length + if v2 then 3 else 1).sum

/-- The containers, in order, that fit the room beside those already taken. -/
def fitConts (room : Nat) : Nat → List Cont → List Cont
  | _, [] => []
  | used, c :: cs =>
    if used + 3 + c.data.length ≤ room then c :: fitConts room (used + 3 + c.data.length) cs else fitConts room used cs

/-- A POLL that passed the checks (R279, R280): the partner is SYNCED, its rate is learned, and WAKE_SYNC follows the
acknowledgement with the APP containers that fit. -/
def Dev.poll (s : Dev) (p i : Nat) (ts : Int) (ackEnd : Nat) : Dev :=
  let k := partnerKey p i
  let x := s.partner k
  let r := s.rport p
  let ofs := ts - x.due r
  let dt := s.sincePoll x
  let rates := if x.syncAt = 0 ∨ x.st = .lost ∨ dt = 0 then x.rates else (ofs * 10 ^ 9 / (dt : Int) :: x.rates).take 8
  let s := s.partnerMod k fun x => { x with
    st := .synced, misses := 0, guard := none, window := none, syncAt := s.tbs.mono, night := false, lostEpochs := 0
    rates := rates, drift := mean rates, sigma := if rates.length < 2 then 20000 else spread rates }
  let sync := wakeSync (low 32 ofs) (x.nextWake s.gen.epochFull)
  let cs := sync :: fitConts r.contRoom 11 x.queue
  s.strobe p { dst := partnerAddr k, air := s.gen.slot, at_ := ackEnd + 20, len := frameLen true cs, conts := cs, kind := 4 }

/-- The WAKE_SYNCs to LOST partners of a port (R281): in the PSLOT of every epoch for 600 epochs, then of the wake epochs,
after any wake window; unacknowledged. -/
def Dev.lostSyncs (s : Dev) (p : Nat) : Dev :=
  if !s.serves p || s.blw.st == .night || (s.openPartner p).isSome then s
  else
    let e := s.gen.epochFull
    (List.range 64).foldl (fun s i =>
      let k := partnerKey p i
      let x := s.partner k
      if x.st = .lost ∧ x.pslot ≤ s.gen.slot ∧ x.lostSent ≠ some e ∧ (x.lostEpochs < 600 ∨ e % x.period = x.phase)
          ∧ x.txCnt < cntEnd ∧ x.rxMark < cntEnd then
        let s := (s.countTx (partnerAddr k)).partnerMod k fun x => { x with
          lostSent := some e, lostEpochs := min (x.lostEpochs + 1) 600 }
        s.txtsPush p {
          kind := 4, dst := partnerAddr k, cnt := x.txCnt + 1, ts := s.slotStart + 200 * usU + (s.rport p).txLat * nsU
          epoch := s.epoch, air := s.gen.slot }
      else s) s

/-! ### Received frames (R260 to R268) -/

/-- The size of a container of fixed size that goes up (R262). (DEDUCED: log entry 55.) -/
def fixedSize (t : Nat) : Option Nat :=
  match t with
  | 2 => some 20 | 3 => some 1 | 4 => some 16 | 5 => some 16 | 0x20 => some 2 | _ => none

/-- The containers of a MAC payload (R261): none when the version or kind is wrong, a LEN runs past the MIC, or a version-1
frame carries none or more than the one its TYPE has. (DEDUCED: log entry 55.) -/
def containers (bs : List Byte) : Option (List (Nat × List Byte)) :=
  match bs with
  | [] => none
  | z :: r =>
    let v := z.toNat % 16
    if z.toNat / 16 ≠ 2 then none
    else if v = 1 then (match r with
      | t :: d => if (fixedSize t.toNat).any fun n => decide (n < d.length) then none else some [(t.toNat, d)]
      | [] => none)
    else if v = 2 then split r.length r
    else none
where
  /-- The containers of a version-2 frame. -/
  split : Nat → List Byte → Option (List (Nat × List Byte))
    | 0, bs => if bs.isEmpty then some [] else none
    | n + 1, bs =>
      match bs with
      | [] => some []
      | t :: l0 :: l1 :: d =>
        let len := l0.toNat + 256 * l1.toNat
        if d.length < len then none
        else (split n (d.drop len)).map fun rest => (t.toNat, d.take len) :: rest
      | _ => none

/-- The container types that machines and partners send (R262). -/
def upType (machine : Bool) (t : Nat) : Bool :=
  if machine then (1 ≤ t && t ≤ 5) || t == 0x30 else t == 0x20 || t == 0x30

/-- Check 9 (R260, R261, R273): the containers of a frame that the source's state accepts. (DEDUCED: log entry 62.) -/
def Dev.acceptable (s : Dev) (machine : Bool) (k : Nat) (bs : List Byte) : Option (List (Nat × List Byte)) :=
  match containers bs with
  | none => none
  | some cs =>
    if cs.isEmpty || !(cs.all fun c => upType machine c.1) then none
    else if !machine then some cs
    else match (s.rslot k).st with
      | .active | .registering => some cs
      | .bound | .silent => if cs.all fun c => c.1 == 4 then some cs else none
      | .unbound => none

/-- An accepted container of machine slot k acts (R262); one whose data has another size than R262 gives acts not.
(DEDUCED: log entry 92.) -/
def Dev.upCont (s : Dev) (p k : Nat) (h : RxItem) (c : Nat × List Byte) : Dev :=
  let d := c.2
  match c.1 with
  | 1 => s.obsAccept k d
  | 2 => s.posReport k d
  | 3 => if d.length = 1 then (s.stopDemand 2 ((leNat d).testBit 0) (BitVec.ofNat 192 (2 ^ k))).1 else s
  | 4 => if d.length = 16 then s.regReq k d else s
  | 5 => if d.length = 16 then s.hold k d else s
  | 0x30 => s.rxqPush p { h with app := true } d
  | _ => s

/-- Frame pending in the acknowledgement of slot k's uplink, or to a partner (R267). -/
def Dev.pendingFor (s : Dev) (src : Nat) : Bool :=
  if 0x8000 ≤ src then true
  else if src < 0x100 ∨ 0x100 + s.nSlots ≤ src then false
  else
    let k := src - 0x100
    (s.pch k).en || (s.fslot k).mode == 1 || !(s.rslot k).queue.isEmpty

/-- Drops a frame under check n (R260); raw queues that select failed checks copy it. -/
def Dev.rxDrop (s : Dev) (p n : Nat) : Dev := s.rportMod p fun r => { r with drops := tinc r.drops n }

/-- A copy of a received frame goes to RXQ where RAD_RAW_SEL selects it (R288). -/
def Dev.rxCopy (s : Dev) (p : Nat) (failed : Bool) (h : RxItem) (mpdu : List Byte) : Dev :=
  let sel := (s.rport p).rawSel
  if sel = 2 ∨ (sel = 1 ∧ failed) then s.rxqPush p h mpdu else s

/-- The timestamp of a frame lies in the window of an uplink in the present air slot (R277). -/
def Dev.inUplinkWindow (s : Dev) (p : Nat) (ts : Int) : Bool :=
  let r := s.rport p
  decide (1 ≤ s.gen.slot) && decide (s.gen.slot ≤ 24)
    && decide ((200000 + r.shr * 1000 : Nat) ≤ ts) && decide (ts ≤ (200000 + (r.tStart + r.shr) * 1000 + 25000 : Nat))

/-- A frame heard by a primary from a base of its own PAN (R286): a record; one that was promoted stops the fleet and goes back
to FOLLOWER at the next boundary. -/
def Dev.dualPrimary (s : Dev) : Dev :=
  let s := s.log (fwCode 2 0x09 0x12) []
  if s.rad.promoted then { s with rad := { s.rad with demoteNext := true } }.fleetStop 2 else s

/-- Checks 4 to 9 of a frame that passed its address check: the first that fails, or the source and its containers.
(DEDUCED: log entry 62.) -/
def Dev.rxChecks (s : Dev) (p : Nat) (f : RxFrame) : Nat ⊕ (Nat × List (Nat × List Byte)) :=
  let src := f.src.toNat
  let ep := s.gen.slot * 2500000 + f.tsNs
  let part := (s.openPartner p).filter fun i => match (s.partner (partnerKey p i)).window with
    | some w => decide (w.1 ≤ ep) && decide (ep ≤ w.2.1)
    | none => false
  match part with
  | some i =>
    let k := partnerKey p i
    let x := s.partner k
    if src ≠ partnerAddr k then .inl 5
    else if !f.authOk then .inl 7
    else if f.counter ≤ x.rxMark then .inl 8
    else match s.acceptable false k f.payload with
      | none => .inl 9
      | some cs => .inr (src, cs)
  | none =>
    let k := 24 * p + s.gen.slot - 1
    let r := s.rslot k
    if !s.inUplinkWindow p f.tsNs || s.blw.st == .night then .inl 4
    else if src ≠ slotAddr k ∨ s.nSlots ≤ k then .inl 5
    else if r.st = .unbound then .inl 6
    else if !f.authOk then .inl 7
    else if f.counter ≤ r.rxMark then .inl 8
    else match s.acceptable true k f.payload with
      | none => .inl 9
      | some cs => .inr (src, cs)

/-- An accepted frame of a machine (R275): it counts as a received uplink, and its containers act in order. -/
def Dev.rxMachine (s : Dev) (p k : Nat) (f : RxFrame) (h : RxItem) (cs : List (Nat × List Byte)) : Dev :=
  let s := s.rslotMod k fun r => { r with rxMark := f.counter, got := true, rssi := f.rssi, lqi := f.lqi }
  let s := (s.rportMod p fun r => { r with uplinks := min (r.uplinks + 1) 0xFFFFFFFF }).sample 4 p f.rssi
  cs.foldl (fun s c => s.upCont p k h c) s

/-- An accepted frame of a partner: a POLL answers first, then its APP containers. -/
def Dev.rxPartner (s : Dev) (p k : Nat) (f : RxFrame) (h : RxItem) (ackEnd : Nat) (cs : List (Nat × List Byte)) : Dev :=
  let s := s.partnerMod k fun x => { x with rxMark := f.counter }
  let s := cs.foldl (fun s c => if c.1 = 0x30 then s.rxqPush p { h with app := true } c.2 else s) s
  if cs.any fun c => c.1 == 0x20 then s.poll p (k % 64) (s.gen.slot * 2500000 + f.tsNs) ackEnd else s

/-- One REG_NEEDED in an epoch for a slot that must register first (R274). -/
def Dev.regNeeded (s : Dev) (p : Nat) (f : RxFrame) : Dev :=
  let k := 24 * p + s.gen.slot - 1
  let r := s.rslot k
  let reg := match containers f.payload with
    | some cs => cs.all fun c => c.1 == 4
    | none => false
  if f.src.toNat = slotAddr k ∧ (r.st = .bound ∨ r.st = .silent) ∧ !r.needed ∧ !reg ∧ k < s.nSlots then
    s.rslotMod k fun r => { r.enqueue true { typ := 0x14, data := [] } with needed := true }
  else s

/-- A unicast frame that passed the address check (R260, R266): it is acknowledged, then checked on. -/
def Dev.rxUnicast (s : Dev) (p : Nat) (f : RxFrame) (h : RxItem) : Dev :=
  let r := s.rport p
  let tsU := (s.slotStart : Int) + f.tsNs * nsU
  -- the frame ends (PHR and MPDU) after its timestamp point; the acknowledgement is strobed 120 µs later
  let fin := (f.tsNs.toNat / 1000) + (r.phr + 8 * f.mpdu.length) / r.rate
  let ackAt := fin + 120
  let src := f.src.toNat
  let s := s.advanceTo (s.slotStart + ackAt * usU)
  let s := s.rportMod p fun r => { r with ackSeq := f.seq, ackFp := s.pendingFor src }
  let s := s.txtsPush p {
    kind := 2, dst := src, ts := s.slotStart + ackAt * usU + r.txLat * nsU, epoch := s.epoch, air := s.gen.slot }
  let h := { h with ts := tsU.toNat, flags := h.flags ||| 0b001011 }
  match s.rxChecks p f with
  | .inl n =>
    let h := { h with flags := h.flags ||| (if n = 4 then 0 else 0b100000) ||| (if 8 ≤ n then 0b000100 else 0) }
    let s := (s.rxDrop p n).rxCopy p true h f.mpdu
    if n = 9 then s.regNeeded p f else s
  | .inr x =>
    let h := { h with flags := h.flags ||| 0b100100 }
    let s := s.rxCopy p false h f.mpdu
    if 0x8000 ≤ x.1 then s.rxPartner p (x.1 - 0x8000) f h (ackAt + r.tStart + r.air 7) x.2
    else s.rxMachine p (x.1 - 0x100) f h x.2

/-- FRAME_RECEIVE (R260, R266, R286): the checks in order, and what the frame does. -/
def execFrameReceive (p : Fin 8) (f : RxFrame) (s : State) : Host.Outcome State Fault Refusal := act s fun s =>
  let r := s.rport p
  let h : RxItem := {
    header := true, ts := ((s.slotStart : Int) + f.tsNs * nsU).toNat, rssi := f.rssi, lqi := f.lqi, epoch := s.epoch
    air := s.gen.slot, flags := BitVec.ofNat 6 (b2n f.fcsOk + 16 * b2n f.aborted), src := f.src }
  (if !s.serves p then s
  else if f.aborted then
    (s.rportMod p fun r => { r with aborted := min (r.aborted + 1) 0xFFFFFFFF }).rxCopy p true h f.mpdu
  else if f.isAck then
    match r.awaiting with
    | some g => if f.fcsOk ∧ f.seq = g.seq then s.frameAcked p g else s
    | none => s
  else
    let s := if f.beacon ∧ f.fcsOk ∧ f.pan = s.rad.pan ∧ f.src = 0 then s.dualPrimary else s
    if !f.fcsOk then (s.rxDrop p 1).rxCopy p true h f.mpdu
    else if !f.dataV2 then (s.rxDrop p 2).rxCopy p true h f.mpdu
    else if f.pan ≠ s.rad.pan ∨ f.dst ≠ 0 then (s.rxDrop p 3).rxCopy p true h f.mpdu
    else s.rxUnicast p f h)

end Sys2Proof.Machine
end

