-- ==== Sys2Proof/Machine/Downlink.lean ====
section
/-! DEFINITION. The downlink plan, the frames of a slot, followers, and the radio commands (09_zfl_radio R252, R255, R263,
R270, R271, R278, R283 to R290, 14_command_catalogue R419). -/
namespace Sys2Proof.Machine

/-! ### The downlink plan (R270, R271) -/

/-- Order of containers in a bundle after WINDOW and FIX (R270). -/
def contRank (c : Cont) : Nat :=
  if c.typ = 0x11 then 0 else if c.typ = 0x10 then 1 else if c.typ = 0x13 then 2 else if c.typ = 0x14 then 3
  else if c.typ = 0x12 then 4 else 5

/-- WINDOW of the epoch and FIX of the previous epoch's instant of a slot (R161, R216, R270).
(DEDUCED: log entry 53.) -/
def Dev.freshConts (s : Dev) (k : Nat) : List Cont :=
  let e := s.gen.epochFull
  if s.blw.st = .run then
    let w := (s.pch k).window
    let win := if (s.pch k).st ≠ .off ∧ !w.isEmpty ∧ leAt w 2 2 = (e + 1) % 65536 then [({ typ := 0x11, data := w } : Cont)] else []
    win ++ ((s.fslot k).fixes.filter fun f => decide (f.1 + 1 = e)).map fun f => ({ typ := 0x10, data := f.2 } : Cont)
  else []

/-- The frames of a slot's bundle and of its left-over containers (R261, R270): one frame for a version-2 machine, each
container its own frame for a version-1 machine. (DEDUCED: log entry 53.) -/
def Dev.bundleOf (s : Dev) (p k : Nat) : List (List Cont) × List (List Cont) :=
  let r := s.rslot k
  let fresh := s.freshConts k
  let rest := sortBy (fun a b => decide (contRank a ≤ contRank b)) r.queue
  let all := fresh ++ rest
  if r.st = .unbound ∨ all.isEmpty then ([], [])
  else if r.ver2 then
    let fit := fitConts (s.rport p).contRoom 0 all
    ([fit], (all.filter fun c => !fit.contains c).map fun c => [c])
  else (all.map fun c => [c], [])

/-- A frame of a slot with its room: version-2 frames count TYPE and LEN, version-1 frames TYPE. -/
def Dev.frameFor (s : Dev) (k : Nat) (cs : List Cont) : DlFrame :=
  { dst := slotAddr k, air := 0, at_ := 0, len := frameLen (s.rslot k).ver2 cs, conts := cs }

/-- Places a frame on port p from a place on; WINDOW and FIX that find none are discarded and counted (R271).
(DEDUCED: log entry 92.) -/
def Dev.placeFrame (s : Dev) (p k : Nat) (cs : List Cont) : Dev :=
  let r := s.rport p
  let f := s.frameFor k cs
  match if (r.fits (2130 - 2 * r.tStart - r.air 7)) < f.len then none else r.placeAt (24 + r.dlSlots) f.len r.planEnd with
  | some x => s.rportMod p fun r => { r with plan := r.plan ++ [{ f with air := x.1.1, at_ := x.1.2 }], planEnd := x.2 }
  | none =>
    if cs.any fun c => !c.queued then
      (s.rportMod p fun r => { r with dlOverrun := min (r.dlOverrun + 1) 0xFFFFFFFF }).rslotMod k fun r =>
        { r with dlOverrun := min (r.dlOverrun + 1) 0xFFFFFFFF }
    else s

/-- A container that fits no frame of its port counts the epoch as sent, so that its command completes (R271).
(DEDUCED: log entry 92.) -/
def Dev.countHuge (s : Dev) (p k : Nat) : Dev :=
  let room := (s.rport p).contRoom
  let s := s.rslotMod k fun r => { r with
    queue := r.queue.map fun c => if room < c.data.length + 3 then c.bump else c }
  s.dropConts (slotAddr k) fun c => decide (room < c.data.length + 3) && decide (8 ≤ c.sent)

/-- The plan of one port (R270): machines in cyclic order of the uplink index from E mod 24, then what is left over.
(DEDUCED: log entry 92.) -/
def Dev.planPort (s : Dev) (p : Nat) : Dev :=
  let e := s.gen.epochFull
  let ks := ((List.range 24).map fun j => 24 * p + (e + j) % 24).filter fun k => decide (k < s.nSlots)
  let s := ks.foldl (fun s k => s.countHuge p k) s
  let s := s.rportMod p fun r => { r with plan := [], planEnd := (25, 200) }
  let bs := ks.map fun k => (k, s.bundleOf p k)
  let s := bs.foldl (fun s b => b.2.1.foldl (fun s cs => s.placeFrame p b.1 cs) s) s
  bs.foldl (fun s b => b.2.2.foldl (fun s cs => s.placeFrame p b.1 cs) s) s

/-- DOWNLINK_PLAN (R270): by 62.0 ms into the epoch, once. -/
def execDownlinkPlan (s : State) : Host.Outcome State Fault Refusal := act s fun s =>
  let e := s.gen.epochFull
  (if s.rad.planFor = some e ∨ !s.tbs.en then s
  else
    let s := (s.advanceTo (e * epU + 62 * msU))
    let s := { s with rad := { s.rad with planFor := some e } }
    (List.range 8).foldl (fun s p => if s.serves p && s.airLive p then s.planPort p else s) s)

/-! ### The frames of a slot (R256, R263, R287) -/

/-- The beacon of a port (R263): the frozen body with its PORT and its TX_OFS_NS. (DEDUCED: log entry 95.) -/
def Dev.sendBeacon (s : Dev) (p : Nat) : Dev :=
  if !s.airLive p || s.rad.follower || s.rad.beacon.isEmpty then s
  else s.txtsPush p {
    kind := 0, dst := 0xFFFF, ts := s.slotStart + 200 * usU + (s.rport p).txLat * nsU, epoch := s.epoch, air := 0 }

/-- The beacon body as a port sends it (R263). -/
def Dev.beaconOf (s : Dev) (p : Nat) : List Byte :=
  let r := s.rport p
  let b := s.rad.beacon
  b.take 6 ++ leBytes 4 (200000 + r.txLat) ++ leBytes 1 (p + 8 * r.dlSlots) ++ b.drop 11

/-- The strobes at the end of a slot's stop window (R256): beacons in slot 0, the first planned frame from slot 25 on, and the
WAKE_SYNCs to LOST partners in the partner region. -/
def Dev.slotFrames (s : Dev) : Dev :=
  (List.range 8).foldl (fun s p =>
    if s.gen.slot = 0 then s.sendBeacon p
    else if 25 ≤ s.gen.slot ∧ s.serves p ∧ s.airLive p then
      let s := s.rportMod p fun r => { r with plan := r.plan.dropWhile fun f => decide (f.air < s.gen.slot) }
      let s := if (s.rport p).awaiting.isNone then s.strobeNext p else s
      if 25 + (s.rport p).dlSlots ≤ s.gen.slot then s.lostSyncs p else s
    else s) s

/-- The radio's part of a stop burst on port p (R235, R253, R265, R288). -/
def Dev.burstRecord (s : Dev) (p : Nat) : Dev :=
  s.txtsPush p {
    kind := 1, dst := 0xFFFF, ts := s.slotStart + (s.rport p).txLat * nsU, epoch := s.epoch, air := s.gen.slot }

/-- LAUNCH_GATE_FIRE (02 R57, R64, R68): a launch gate drives its edge; a radio gate strobes the frame that waits for it, which
its slot's own steps describe. -/
def execLaunchGateFire (g : GateId) (s : State) : Host.Outcome State Fault Refusal := act s fun s =>
  match g with
  | .lg n => (s.lgFire n)
  | .radio p =>
    (match (s.rport p.val).plan with
    | f :: _ =>
      if s.airLive p.val ∧ s.serves p.val ∧ f.air = s.gen.slot ∧ (s.rport p.val).awaiting.isNone ∧ s.tbs.winEnded then
        s.strobeNext p.val
      else s
    | [] => s)

/-! ### Followers (R283 to R286) -/

/-- FOLLOWER_BEACON (R283, R284): a beacon of the primary in slot 0 on FOLLOW_PORT. With STEER = GNSS the agent slews the
timebase to it; the increment it chooses is its own, and so a free value within the bounds of 02 R52.
(DEDUCED: log entry 89.) -/
def execFollowerBeacon (b : BeaconIn) (s : State) : Host.Outcome State Fault Refusal := act s fun s =>
  let p := s.rad.followPort
  (if !s.rad.follower || !s.airLive p || s.gen.slot != 0 || s.rad.heard || !b.fcsOk || b.pan != s.rad.pan || b.src != 0
      || b.epoch != s.epoch then s
  else
    let good := min (s.rad.goodBeacons + 1) 2
    let relay := !s.rad.holdover || good == 2
    let s := { s with rad := { s.rad with
      heard := true, missedBeacons := 0, goodBeacons := good, holdover := !relay, relaying := relay } }
    if s.tbs.steer = 1 ∧ relay then
      let ofs := b.offsetNs - s.rad.propNs
      let nom := nominalIncr s.tbs.refsel
      let (w, s) := s.draw
      let span := nom / 5000
      let s := if ofs = 0 then s else s.setIncr .clu (nom - span + w.toNat % (2 * span + 1))
      s.sync (min (max 100 b.uncNs) (2 ^ 24 - 1))
    else s)

/-- The count of epochs without a beacon, at the end of slot 0 (R284). -/
def Dev.followerEnd (s : Dev) : Dev :=
  if s.rad.follower && s.gen.slot == 1 && !s.rad.heard then
    { s with rad := { s.rad with missedBeacons := min (s.rad.missedBeacons + 1) 3, goodBeacons := 0 } }
  else s

/-- FOLLOWER_HOLDOVER (R284, R285): three epochs without a beacon; a standby becomes primary at the next boundary. -/
def execFollowerHoldover (s : State) : Host.Outcome State Fault Refusal := act s fun s =>
  let r := s.rad
  (if r.follower ∧ r.missedBeacons = 3 ∧ !r.holdover then
    { s with rad := { r with holdover := true, relaying := false, promoteNext := r.standby } }.log (fwCode 1 0x09 0x13) []
  else s)

/-- The radio's part of a boundary: roles change (R285, R286), the marks of the epoch before go. -/
def Dev.radBoundary (s : Dev) : Dev :=
  let r := s.rad
  let up := r.promoteNext && r.follower
  let s := { s with rad := { r with
    follower := if up then false else r.follower || r.demoteNext
    promoted := if up then true else r.promoted && !r.demoteNext
    holdover := r.holdover && !up
    missedBeacons := if r.demoteNext then 0 else r.missedBeacons
    goodBeacons := if r.demoteNext then 0 else r.goodBeacons
    relaying := r.relaying && !r.demoteNext
    promoteNext := false, demoteNext := false, heard := false } }
  let s := if up then s.log (fwCode 1 0x09 0x14) [] else s
  let s := (List.range s.nSlots).foldl (fun s k => s.rslotMod k fun r => RSlot.regWait { r with needed := false }) s
  (List.range 8).foldl (fun s p => s.rportMod p fun r => { r with plan := [], awaiting := none }) s

/-! ### Configuration (R252, R255, R264, R268, R273, R278, R290, R419) -/

/-- A HALTED write leaves the block as it is, or finds it stopped (01 R39). -/
def halted (stopped : Bool) (s t : Dev) : Res := if t == s then done s [] else if stopped then done t [] else refuse s .notHalted

/-- Every port is disabled. -/
def Dev.portsOff (s : Dev) : Bool := (List.range 8).all fun p => !(s.rport p).en

/-- Fields of RAD_GLOBAL_CFG. -/
def radGlobalFields : List FieldRule := [fAny 0 0 16]

/-- RAD_GLOBAL_CFG (R290). -/
def radGlobalCfgRun (c : Cmd) (s : Dev) : Res :=
  halted s.portsOff s { s with rad := { s.rad with pan := BitVec.ofNat 16 (argF c 0 0 16) } }

/-- Fields of RAD_PORT_CFG. -/
def radPortFields : List FieldRule :=
  [fAny 0 0 6, fIn 0 6 7 8 100, fIn 0 13 8 0 150, fIn 0 21 4 1 15, fIn 0 25 6 10 50, fWord 1, fAny 2 0 8]

/-- RAD_PORT_CFG (R254, R255, R264, R290): the burst must fit the stop window, every configured partner's PSLOT the region, and
the beacon its room as if the port were enabled. (DEDUCED: log entry 63.) -/
def radPortCfgRun (c : Cmd) (s : Dev) : Res :=
  let p := argF c 0 0 3
  if s.nPorts ≤ p then refuse s .notFitted
  else
    let t := s.rportMod p fun r => { r with
      present := argB c 0 3, rate4 := argB c 0 4, phr32 := argB c 0 5, shr := argF c 0 6 7, tStart := argF c 0 13 8
      dlSlots := argF c 0 21 4, spiMhz := argF c 0 25 6, txLat := argF c 1 0 16, rxLat := argF c 1 16 16
      channel := argF c 2 0 8 }
    let r := t.rport p
    if t = s then done s []
    else if (s.rport p).en then refuse s .notHalted
    else if 190 * r.rate < (r.tStart + r.shr) * r.rate + r.phr + 8 * 35 then refuse s .radNoFit
    else if (List.range 64).any fun i =>
        (s.partner (partnerKey p i)).st != .none && decide ((s.partner (partnerKey p i)).pslot < 25 + r.dlSlots) then
      refuse s .radNoRegion
    else if r.beaconRoom < 94 + s.fragBytes then refuse s .zflRoom
    else done t []

/-- A step of a script image (R419). -/
structure ScriptStep where
  op : Nat
  len : Nat
  arg : Nat

/-- The steps of a script image after its header; none when a step is unknown, has a LEN it may not have, or runs past the
image. -/
def scriptSteps : Nat → List Byte → Option (List ScriptStep)
  | 0, _ => some []
  | n + 1, bs =>
    match bs with
    | o :: _ :: l :: a :: rest =>
      let op := o.toNat
      let len := l.toNat
      let take := if op = 1 then 4 * cdiv len 4 else 0
      if op = 0 ∨ 5 < op ∨ 64 < len ∨ ((op = 2 ∨ op = 5) ∧ len ≠ 0) ∨ rest.length < take then none
      else (scriptSteps n (rest.drop take)).map fun l => ⟨op, len, a.toNat⟩ :: l
    | _ => none

/-- Time of a script in SPI bit times, for an MPDU of which `left` bytes are loaded (R252): WAIT counts at the clock `mhz`. -/
def scriptBits (mhz : Nat) : Nat → List ScriptStep → Nat
  | _, [] => 0
  | left, x :: xs =>
    match x.op with
    | 1 => 8 * x.len + scriptBits mhz left xs
    | 2 => 8 + scriptBits mhz left xs
    | 3 => 8 * min x.len left + scriptBits mhz (left - x.len) xs
    | 4 => 8 * x.len + scriptBits mhz left xs
    | _ => x.arg * mhz + scriptBits mhz left xs

/-- Fields of RAD_SCRIPT_LOAD. -/
def radScriptFields : List FieldRule := fAny 0 0 7 :: fWords 1 3

/-- RAD_SCRIPT_LOAD (R252, R419): LOAD_TX of a 35-byte frame must take at most 240 µs. -/
def radScriptLoadRun (c : Cmd) (s : Dev) : Res :=
  let p := argF c 0 0 3
  let n := argF c 0 4 3
  let bs := fitTo (arg c 3).toNat c.data
  let r := s.rport p
  if s.nPorts ≤ p then refuse s .notFitted
  else if bs.length < 12 then refuse s .lengthShort
  else
    let t := s.rportMod p fun r => { r with scripts := tset [] r.scripts n bs }
    if t = s then done s []
    else if r.en then refuse s .notHalted
    else if leAt bs 0 1 ≠ 1 ∨ leAt bs 1 1 = 0 ∨ 32 < leAt bs 1 1 ∨ 63 < leAt bs 2 1 ∨ 63 < leAt bs 5 1 then refuse s .radScript
    else match scriptSteps (leAt bs 1 1) (bs.drop 8) with
      | none => refuse s .radScript
      | some l =>
        let load := if (leAt bs 6 1).testBit 0 then 31 else 35
        if n = 2 ∧ 240 * r.spiMhz < scriptBits r.spiMhz load l then refuse s .radScript else done t []

/-- Fields of RAD_PORT_EN. -/
def radPortEnFields : List FieldRule := [fAny 0 0 4]

/-- RAD_PORT_EN (R264, R290): EN runs INIT and CHANNEL; its end runs IDLE. -/
def radPortEnRun (c : Cmd) (s : Dev) : Res :=
  let p := argF c 0 0 3
  let en := argB c 0 3
  let r := s.rport p
  if s.nPorts ≤ p then refuse s .notFitted
  else if !r.present then refuse s .radNotPresent
  else if en ∧ r.beaconRoom < 94 + s.fragBytes then refuse s .zflRoom
  else if en = r.en then done s []
  else done (s.rportMod p fun r => { r with
    en := en, ran := if en then [0, 1] else [7], plan := [], awaiting := none }) []

/-- A slot loses its registration and what was queued for it. (DEDUCED: log entry 65.) -/
def Dev.unregister (s : Dev) (k : Nat) (st : RsSt) : Dev :=
  (s.dropConts (slotAddr k) fun _ => true).rslotMod k fun r => { r with
    st := st, missed := 0, regEpochs := 0, got := false, gens := [0, 0, 0, 0] }

/-- Fields of RAD_SLOT_CFG. -/
def radSlotFields : List FieldRule := [fAny 0 0 9, fAny 0 16 16, fWord 1, fWord 2]

/-- RAD_SLOT_CFG (R268, R269, R273, R290): a new binding resets the counters. (DEDUCED: log entry 64.) -/
def radSlotCfgRun (c : Cmd) (s : Dev) : Res :=
  let k := argF c 0 0 8
  if s.nSlots ≤ k ∨ !(s.rport (portOf k)).present then refuse s .notFitted
  else if s.moving k then refuse s .slotMoving
  else if argB c 0 8 then
    let ext := BitVec.ofNat 64 (arg64 c 1)
    let gen := argF c 0 16 16
    done ((s.unregister k .bound).rslotMod k fun r =>
      let r := if r.keyGen = gen ∧ r.ext = ext then r else { r with txCnt := 0, rxMark := 0, flashTx := 0, flashRx := 0 }
      { r with keyGen := gen, ext := ext }) []
  else done (s.unregister k .unbound) []

/-- RAD_DEREGISTER (R273, R290): the slot returns to BOUND; an UNBOUND slot stays so. (DEDUCED: log entry 65.) -/
def radDeregisterRun (c : Cmd) (s : Dev) : Res :=
  let k := argF c 0 0 8
  if s.nSlots ≤ k ∨ !(s.rport (portOf k)).present then refuse s .notFitted
  else if s.moving k then refuse s .slotMoving
  else done (if (s.rslot k).st = .unbound then s else s.unregister k .bound) []

/-- Fields of RAD_PARTNER_CFG. -/
def radPartnerFields : List FieldRule := [fAny 0 0 32, fWord 1, fWord 2, fWord 3]

/-- RAD_PARTNER_CFG (R278, R290): no two partners of a port may wake in one epoch. A partner starts LOST: the base looks for it
until its first POLL. (DEDUCED: log entries 64, 91.) -/
def radPartnerCfgRun (c : Cmd) (s : Dev) : Res :=
  let p := argF c 0 0 3
  let i := argF c 0 3 6
  let k := partnerKey p i
  let slot := argF c 0 10 6
  let per := argF c 3 0 16
  let ph := argF c 3 16 16
  let gen := argF c 0 16 16
  let ext := BitVec.ofNat 64 (arg64 c 1)
  if s.nPorts ≤ p then refuse s .notFitted
  else if !argB c 0 9 then
    done ((s.dropConts (partnerAddr k) fun _ => true).partnerMod k fun _ => {}) []
  else if slot < 25 ∨ 39 < slot ∨ per < 10 ∨ 36000 < per ∨ per ≤ ph then refuse s .reservedValue
  else if slot < 25 + (s.rport p).dlSlots then refuse s .radNoRegion
  else if (List.range 64).any fun j =>
      let x := s.partner (partnerKey p j)
      j != i && x.st != .none && ((x.phase : Int) - ph) % (Nat.gcd x.period per : Nat) == 0 then refuse s .radPhase
  else
    let old := s.partner k
    let same : Bool := old.st != .none && old.keyGen == gen && old.ext == ext
    done (s.partnerMod k fun x => { (if same then x else { queue := x.queue, st := .lost }) with
      pslot := slot, keyGen := gen, ext := ext, period := per, phase := ph }) []

/-- Fields of RAD_ROLE_CFG. -/
def radRoleFields : List FieldRule := [fAny 0 0 5, fIn 1 0 32 0 100000]

/-- RAD_ROLE_CFG (R283, R290). -/
def radRoleCfgRun (c : Cmd) (s : Dev) : Res :=
  let f := argB c 0 0
  let t := { s with rad := { s.rad with
    follower := f, standby := argB c 0 1, followPort := argF c 0 2 3, propNs := (arg c 1).toNat } }
  if t = s then done s []
  else if !s.portsOff then refuse s .notHalted
  else done { t with rad := { t.rad with
    relaying := false, holdover := false, missedBeacons := 0, goodBeacons := 0, promoted := false, promoteNext := false
    demoteNext := false } } []

/-! ### Sends and status (R288 to R290, 14 R410) -/

/-- APP containers queued on a port (R289). -/
def Dev.appCount (s : Dev) (p : Nat) : Nat :=
  let n (l : List Cont) : Nat := (l.filter fun c => c.typ == 0x30).length
  (((List.range 24).map fun j => n (s.rslot (24 * p + j)).queue)
    ++ ((List.range 64).map fun i => n (s.partner (partnerKey p i)).queue)).sum

/-- Fields of RAD_APP_SEND. -/
def radAppFields : List FieldRule := fAny 0 0 18 :: fWords 1 3

/-- RAD_APP_SEND (R289): 1 to 1,000 bytes for a slot or a partner. -/
def radAppSendRun (c : Cmd) (s : Dev) : Res :=
  let n := (arg c 3).toNat
  let part := argB c 0 8
  let p := if part then argF c 0 9 3 else portOf (argF c 0 0 8)
  let k := if part then partnerKey p (argF c 0 12 6) else argF c 0 0 8
  let live : Bool := if part then decide (p < s.nPorts) && (s.partner k).st != .none
    else decide (k < s.nSlots) && ((s.rslot k).st == .active || (s.rslot k).st == .registering)
  if n = 0 then refuse s .zeroLength
  else if 1000 < n then refuse s .reservedValue
  else if !live then refuse s .radNotActive
  else if 32 ≤ s.appCount p then refuse s .resourceBusy
  else
    let x : Cont := { typ := 0x30, data := fitTo n c.data, app := some (c.path, c.tag) }
    later' (s.contQueueMod (if part then partnerAddr k else slotAddr k) fun q => q ++ [x])

/-- Fields of RAD_RAW_SEL. -/
def radRawFields : List FieldRule := [fAny 0 0 3, fIn 0 3 2 0 2]

/-- RAD_RAW_SEL (R288). -/
def radRawSelRun (c : Cmd) (s : Dev) : Res :=
  let p := argF c 0 0 3
  if s.nPorts ≤ p then refuse s .notFitted else done (s.rportMod p fun r => { r with rawSel := argF c 0 3 2 }) []

/-- Fields of RAD_STATUS. -/
def radStatusFields : List FieldRule := [fAny 0 0 3, fAny 0 8 1]

/-- RAD_STATUS (R290). -/
def radStatusRun (c : Cmd) (s : Dev) : Res :=
  let p := argF c 0 0 3
  let r := s.rport p
  if s.nPorts ≤ p then refuse s .notFitted
  else if argB c 0 8 then done s ((List.range 8).map fun n => sat32 (tget 0 r.drops (n + 1)))
  else
    let role : Nat := if s.rad.relaying then 1 else if s.rad.holdover then 2 else 0
    done s [word (b2n r.en + 2 * b2n r.present + 4 * b2n (s.bport p).fault + 8 * role), sat32 r.sent, sat32 r.uplinks,
      sat32 (tget 0 r.drops 9), sat32 r.dlOverrun, sat32 r.unacked, sat32 r.aborted, sat32 r.missBurst]

/-- State code of a slot (R290). -/
def rsCode : RsSt → Nat
  | .unbound => 0 | .bound => 1 | .registering => 2 | .active => 3 | .silent => 4

/-- RAD_SLOT_STATUS. -/
def radSlotStatusRun (c : Cmd) (s : Dev) : Res :=
  let k := argF c 0 0 8
  let r := s.rslot k
  if s.nSlots ≤ k then refuse s .notFitted
  else done s [word (rsCode r.st + 8 * b2n r.ver2 + 2 ^ 8 * (min r.missed 255) + 2 ^ 16 * r.keyGen), sat32 r.txCnt,
    sat32 r.rxMark, word (low 8 r.rssi + 2 ^ 8 * (r.lqi % 256))]

/-- State code of a partner. -/
def ptCode : PtSt → Nat
  | .none => 0 | .synced => 1 | .missed => 2 | .lost => 3

/-- Fields of RAD_PARTNER_STATUS. -/
def radPtStatusFields : List FieldRule := [fAny 0 0 9]

/-- RAD_PARTNER_STATUS. -/
def radPartnerStatusRun (c : Cmd) (s : Dev) : Res :=
  let p := argF c 0 0 3
  let x := s.partner (partnerKey p (argF c 0 3 6))
  if s.nPorts ≤ p then refuse s .notFitted
  else if x.st = .none then done s [0, 0, 0, 0]
  else done s [word (ptCode x.st + 4 * x.misses + 2 ^ 16 * (s.guardOf x / 1000)), word (low 32 x.drift), sat32 x.sigma,
    word (x.nextWake s.gen.epochFull)]

end Sys2Proof.Machine
end

