-- ==== Sys2Proof/Machine/Table.lean ====
section
/-! DEFINITION. The table of the catalogue: for each command the rules of its fields and its own meaning (14_command_catalogue
R407), NOP and GEN_INFO among them. Transaction commands stand in `Txn`. -/
namespace Sys2Proof.Machine

/-- PHASE code (17 R462). -/
def phaseCode : Phase → Nat
  | .rom => 0 | .selftest => 1 | .verify => 2 | .supStart => 3 | .services => 4 | .ready => 5
  | .haltSelftest => 8 | .haltFuse => 9 | .tamperHold => 10 | .recovery => 11

/-- State code of a bank (17 R464). -/
def bankCode : BankSt → Nat
  | .invalid => 0 | .confirmed => 1 | .pending => 2 | .trial => 3

/-- GEN_BOOT.BANK and BANK_STATE of the running bank (17 R462). -/
def Dev.bankBits (s : Dev) : Nat :=
  if s.upd.bankValid then b2n s.upd.running + 2 * bankCode s.runBank.st else 0

/-- VERSION of the running image. -/
def Dev.runVersion (s : Dev) : Word := if s.upd.bankValid then s.runBank.version else 0

/-- NOP (13 R395): acknowledged and otherwise ignored. -/
def nopRun (_c : Cmd) (s : Dev) : Res := done s []

/-- GEN_INFO (14 R407). -/
def genInfoRun (_c : Cmd) (s : Dev) : Res :=
  done s ([word (s.gen.part + 2 ^ 16 * s.gen.stepping.toNat), word (s.bankBits + 2 ^ 4 * phaseCode s.gen.phase), s.runVersion,
    word (if s.upd.bankValid then s.runBank.sfn else 0)] ++ words64 s.gen.deviceId.toNat ++ [0, 0])

/-- Fields of TXN_COMMIT. -/
def txnCommitFields : List FieldRule := [fWord 0]

/-- Fields of TXN_STATUS. -/
def txnStatusFields : List FieldRule := [fIn 0 0 3 0 4]

/-- The rules of a command's single fields (R10, R41). -/
def opFields (c : Cmd) : Op → List FieldRule
  | .nop | .genInfo | .txnBegin | .txnRollback => []
  | .txnCommit => txnCommitFields
  | .txnStatus => txnStatusFields
  | .gnsLaneCfg => gnsLaneFields
  | .gnsLaneEn => gnsLaneEnFields
  | .gnsMonCfg => gnsMonFields
  | .gnsMeasCfg => gnsMeasFields
  | .gnsChanAlloc => gnsAllocFields
  | .gnsChanFree => gnsChanFields
  | .gnsPlan => gnsPlanFields
  | .gnsAcq => gnsAcqFields
  | .gnsLaneStatus => gnsLaneStFields
  | .gnsChanStatus => gnsChanFields
  | .gnsMeasRead => gnsReadFields
  | .refArpSurvey => refSurveyFields
  | .refArpSet => refArpSetFields
  | .refAntCfg => refAntFields
  | .refSteerCfg => refSteerFields
  | .refOutCfg => refOutFields
  | .refSchedSet => refSchedFields
  | .refZflCfg => refZflFields
  | .refNtripCfg => refNtripFields
  | .refNtripUser => refUserFields
  | .refIntegCfg => refIntegFields
  | .refStatus => []
  | .refCorrRead => refCorrFields
  | .fixCfg => fixCfgFields
  | .fixGlobalCfg => fixGlobalFields
  | .fixReset => slotFields
  | .fixStatus => fixStatusFields
  | .fixRead => gnsReadFields
  | .brmStatus => []
  | .orcGridCfg => orcGridFields
  | .orcGlobalCfg => orcGlobalFields
  | .orcSlotCfg => orcSlotFields
  | .orcZoneCfg => orcZoneFields
  | .orcRequest => orcRequestFields
  | .orcRelease => orcReleaseFields
  | .orcReleaseFrozen => orcReleaseFields
  | .orcTileRead => orcTileReadFields
  | .orcStatus => []
  | .prfChanCfg => prfChanFields
  | .prfLagCfg => prfLagFields
  | .prfSegPush => prfSegFields
  | .prfFlush => slotFields
  | .prfRetarget => prfRetargetFields
  | .prfDecel => prfDecelFields
  | .prfClear => slotFields
  | .prfStatus => slotFields
  | .trkLoad => trkLoadFields
  | .trkDelete => trkFields
  | .trkInfo => trkFields
  | .bglStop => bglStopFields
  | .bglRelease => bglStopFields
  | .bglEnable => []
  | .bglDisable => []
  | .bglAnchorRead => bglAnchorFields
  | .radGlobalCfg => radGlobalFields
  | .radPortCfg => radPortFields
  | .radScriptLoad => radScriptFields
  | .radPortEn => radPortEnFields
  | .radSlotCfg => radSlotFields
  | .radDeregister => slotFields
  | .radPartnerCfg => radPartnerFields
  | .radRoleCfg => radRoleFields
  | .radAppSend => radAppFields
  | .radRawSel => radRawFields
  | .radStatus => radStatusFields
  | .radSlotStatus => slotFields
  | .radPartnerStatus => radPtStatusFields
  | .swPortCfg => swPortCfgFields
  | .swPortEn => swPortEnFields
  | .swGlobalCfg => swGlobalCfgFields
  | .swVlanCfg => swVlanCfgFields
  | .swQosCfg => swQosCfgFields c
  | .swL2Add => swL2AddFields
  | .swL2Del => swL2DelFields
  | .swL2Search => swL2SearchFields
  | .swL2Next => swL2NextFields
  | .swFlushByPort => swFlushByPortFields
  | .swRifCfg => swRifCfgFields
  | .swNhSet => swNhSetFields
  | .swRouteAdd => swRouteFields
  | .swRouteDel => swRouteFields
  | .swMacsecSa => swMacsecSaFields
  | .swDigestRead => swDigestReadFields
  | .swBlockRead => swBlockReadFields
  | .swStatus => swStatusFields
  | .pwrCfg => pwrCfgFields
  | .pwrSet => pwrSetFields
  | .pwrWakeCfg => pwrWakeCfgFields
  | .schClassCfg => schClassCfgFields
  | .schStatus => []
  | .pwrStatus => pwrStatusFields
  | .canPortCfg => canPortFields
  | .canFilter => canFilterFields
  | .canSend => canSendFields
  | .canRead => portReadFields
  | .isbCfg => isbCfgFields
  | .isbSend => isbSendFields
  | .isbRead => portReadFields
  | .smbXfer => smbXferFields
  | .gpioCfg => gpioCfgFields
  | .gpioWrite => gpioWriteFields
  | .gpioRead => []
  | .adcCfg => adcCfgFields
  | .adcRead => gnsReadFields
  | .uartCfg => uartCfgFields
  | .ifStatus => ifStatusFields
  | .mbxBindSet => mbxBindFields
  | .cmdPathStatus => cmdPathFields
  | .keyGenerate => keyGenerateFields
  | .keyImport => keyImportFields
  | .keyExport => keyExportFields
  | .keyDerive => keyDeriveFields
  | .keyZeroize => keyZeroizeFields
  | .keyInfo => keyInfoFields
  | .keyPublic => keyPublicFields
  | .lcAdvance => lcAdvanceFields
  | .lcStatus => []
  | .dbgUnlock => dbgUnlockFields
  | .selftestRun => selftestFields
  | .tamperCfg => tamperCfgFields
  | .tamperStatus => []
  | .recCfg => recCfgFields
  | .recHistCfg => recHistCfgFields
  | .recHistRead => recHistReadFields
  | .recFlush => []
  | .recClear => []
  | .recClearConfirm => recConfirmFields
  | .updBegin => updBeginFields
  | .updData => updDataFields
  | .updCommit => updSessFields
  | .updAbort => updSessFields
  | .updConfirm => []
  | .updRollback => []
  | .updStatus => []
  | .bootReset => bootResetFields

/-- A command's own checks and effect; transaction commands have none here. -/
def runPlain (op : Op) (c : Cmd) (s : Dev) : Res :=
  match op with
  | .nop => nopRun c s
  | .genInfo => genInfoRun c s
  | .txnBegin | .txnCommit | .txnRollback | .txnStatus => done s []
  | .gnsLaneCfg => gnsLaneCfgRun c s
  | .gnsLaneEn => gnsLaneEnRun c s
  | .gnsMonCfg => gnsMonCfgRun c s
  | .gnsMeasCfg => gnsMeasCfgRun c s
  | .gnsChanAlloc => gnsChanAllocRun c s
  | .gnsChanFree => gnsChanFreeRun c s
  | .gnsPlan => gnsPlanRun c s
  | .gnsAcq => gnsAcqRun c s
  | .gnsLaneStatus => gnsLaneStatusRun c s
  | .gnsChanStatus => gnsChanStatusRun c s
  | .gnsMeasRead => gnsMeasReadRun c s
  | .refArpSurvey => refArpSurveyRun c s
  | .refArpSet => refArpSetRun c s
  | .refAntCfg => refAntCfgRun c s
  | .refSteerCfg => refSteerCfgRun c s
  | .refOutCfg => refOutCfgRun c s
  | .refSchedSet => refSchedSetRun c s
  | .refZflCfg => refZflCfgRun c s
  | .refNtripCfg => refNtripCfgRun c s
  | .refNtripUser => refNtripUserRun c s
  | .refIntegCfg => refIntegCfgRun c s
  | .refStatus => refStatusRun c s
  | .refCorrRead => refCorrReadRun c s
  | .fixCfg => fixCfgRun c s
  | .fixGlobalCfg => fixGlobalCfgRun c s
  | .fixReset => fixResetRun c s
  | .fixStatus => fixStatusRun c s
  | .fixRead => fixReadRun c s
  | .brmStatus => brmStatusRun c s
  | .orcGridCfg => orcGridCfgRun c s
  | .orcGlobalCfg => orcGlobalCfgRun c s
  | .orcSlotCfg => orcSlotCfgRun c s
  | .orcZoneCfg => orcZoneCfgRun c s
  | .orcRequest => orcRequestRun c s
  | .orcRelease => orcReleaseRun c s
  | .orcReleaseFrozen => orcReleaseFrozenRun c s
  | .orcTileRead => orcTileReadRun c s
  | .orcStatus => orcStatusRun c s
  | .prfChanCfg => prfChanCfgRun c s
  | .prfLagCfg => prfLagCfgRun c s
  | .prfSegPush => prfSegPushRun c s
  | .prfFlush => prfFlushRun c s
  | .prfRetarget => prfRetargetRun c s
  | .prfDecel => prfDecelRun c s
  | .prfClear => prfClearRun c s
  | .prfStatus => prfStatusRun c s
  | .trkLoad => trkLoadRun c s
  | .trkDelete => trkDeleteRun c s
  | .trkInfo => trkInfoRun c s
  | .bglStop => bglStopRun c s
  | .bglRelease => bglReleaseRun c s
  | .bglEnable => bglEnableRun c s
  | .bglDisable => bglDisableRun c s
  | .bglAnchorRead => bglAnchorReadRun c s
  | .radGlobalCfg => radGlobalCfgRun c s
  | .radPortCfg => radPortCfgRun c s
  | .radScriptLoad => radScriptLoadRun c s
  | .radPortEn => radPortEnRun c s
  | .radSlotCfg => radSlotCfgRun c s
  | .radDeregister => radDeregisterRun c s
  | .radPartnerCfg => radPartnerCfgRun c s
  | .radRoleCfg => radRoleCfgRun c s
  | .radAppSend => radAppSendRun c s
  | .radRawSel => radRawSelRun c s
  | .radStatus => radStatusRun c s
  | .radSlotStatus => radSlotStatusRun c s
  | .radPartnerStatus => radPartnerStatusRun c s
  | .swPortCfg => swPortCfgRun c s
  | .swPortEn => swPortEnRun c s
  | .swGlobalCfg => swGlobalCfgRun c s
  | .swVlanCfg => swVlanCfgRun c s
  | .swQosCfg => swQosCfgRun c s
  | .swL2Add => swL2AddRun c s
  | .swL2Del => swL2DelRun c s
  | .swL2Search => swL2SearchRun c s
  | .swL2Next => swL2NextRun c s
  | .swFlushByPort => swFlushByPortRun c s
  | .swRifCfg => swRifCfgRun c s
  | .swNhSet => swNhSetRun c s
  | .swRouteAdd => swRouteAddRun c s
  | .swRouteDel => swRouteDelRun c s
  | .swMacsecSa => swMacsecSaRun c s
  | .swDigestRead => swDigestReadRun c s
  | .swBlockRead => swBlockReadRun c s
  | .swStatus => swStatusRun c s
  | .pwrCfg => pwrCfgRun c s
  | .pwrSet => pwrSetRun c s
  | .pwrWakeCfg => pwrWakeCfgRun c s
  | .schClassCfg => schClassCfgRun c s
  | .schStatus => schStatusRun c s
  | .pwrStatus => pwrStatusRun c s
  | .canPortCfg => canPortCfgRun c s
  | .canFilter => canFilterRun c s
  | .canSend => canSendRun c s
  | .canRead => canReadRun c s
  | .isbCfg => isbCfgRun c s
  | .isbSend => isbSendRun c s
  | .isbRead => isbReadRun c s
  | .smbXfer => smbXferRun c s
  | .gpioCfg => gpioCfgRun c s
  | .gpioWrite => gpioWriteRun c s
  | .gpioRead => gpioReadRun c s
  | .adcCfg => adcCfgRun c s
  | .adcRead => adcReadRun c s
  | .uartCfg => uartCfgRun c s
  | .ifStatus => ifStatusRun c s
  | .mbxBindSet => mbxBindRun c s
  | .cmdPathStatus => cmdPathRun c s
  | .keyGenerate => keyGenerateRun c s
  | .keyImport => keyImportRun c s
  | .keyExport => keyExportRun c s
  | .keyDerive => keyDeriveRun c s
  | .keyZeroize => keyZeroizeRun c s
  | .keyInfo => keyInfoRun c s
  | .keyPublic => keyPublicRun c s
  | .lcAdvance => lcAdvanceRun c s
  | .lcStatus => lcStatusRun c s
  | .dbgUnlock => dbgUnlockRun c s
  | .selftestRun => selftestRun c s
  | .tamperCfg => tamperCfgRun c s
  | .tamperStatus => tamperStatusRun c s
  | .recCfg => recCfgRun c s
  | .recHistCfg => recHistCfgRun c s
  | .recHistRead => recHistReadRun c s
  | .recFlush => recFlushRun c s
  | .recClear => recClearRun c s
  | .recClearConfirm => recConfirmRun c s
  | .updBegin => updBeginRun c s
  | .updData => updDataRun c s
  | .updCommit => updCommitRun c s
  | .updAbort => updAbortRun c s
  | .updConfirm => updConfirmRun c s
  | .updRollback => updRollbackRun c s
  | .updStatus => updStatusRun c s
  | .bootReset => bootResetRun c s

end Sys2Proof.Machine
end

