-- ==== Sys2Proof/Machine/Txn.lean ====
section
/-! DEFINITION. Transactions: staging, commit, locks, the checks against stop-inside-reservation, application and abort
(01_architecture R40 to R49, R60, 06 R180, 14 R413 to R417). -/
namespace Sys2Proof.Machine

/-! ### Locks (R45) -/

/-- The field groups that a command sets, each with the operand bits that select within it; none for a command that acts on
a store or a queue, which locks nothing (R45). Commands that set the same fields share a group.
(DEDUCED: log entry 77.) -/
def lockSel (c : Cmd) : Op → List (Op × Nat)
  | .orcRequest | .orcRelease | .orcReleaseFrozen | .prfSegPush | .prfFlush | .prfRetarget | .prfDecel | .trkLoad
  | .trkDelete => []
  | .gnsLaneEn => [(.gnsLaneEn, argF c 0 0 3)]
  | .gnsMonCfg => [(.gnsMonCfg, argF c 0 0 3)]
  | .gnsPlan => [(.gnsPlan, argF c 0 0 3)]
  | .gnsChanAlloc => [(.gnsChanAlloc, argF c 0 0 32)]
  | .gnsChanFree => [(.gnsChanFree, argF c 0 0 11)]
  | .refArpSurvey | .refArpSet => [(.refArpSet, 0)]
  | .refOutCfg => [(.refOutCfg, argF c 0 0 2)]
  | .refSchedSet => [(.refSchedSet, argF c 0 0 6)]
  | .refNtripUser => [(.refNtripUser, argF c 0 0 2)]
  | .fixCfg => [(.fixCfg, argF c 0 0 8)]
  | .orcSlotCfg => [(.orcSlotCfg, argF c 0 0 8)]
  | .prfLagCfg => [(.prfLagCfg, argF c 0 0 8)]
  | .prfClear => [(.prfClear, argF c 0 0 8)]
  | .radPortEn => [(.radPortEn, argF c 0 0 3)]
  | .radSlotCfg | .radDeregister => [(.radSlotCfg, argF c 0 0 8)]
  | .radPartnerCfg => [(.radPartnerCfg, argF c 0 0 9)]
  | .radRawSel => [(.radRawSel, argF c 0 0 3)]
  | .swPortEn => [(.swPortEn, argF c 0 0 3)]
  | .swVlanCfg => [(.swVlanCfg, argF c 0 0 12)]
  | .swQosCfg => [(.swQosCfg, if argB c 0 31 then 8 + argF c 0 4 2 else argF c 0 0 3)]
  | .swL2Add | .swL2Del => [(.swL2Add, (argMac c 0).toNat + 2 ^ 48 * argF c 1 16 12)]
  | .swRifCfg => [(.swRifCfg, argF c 0 0 12)]
  | .swNhSet => [(.swNhSet, argF c 0 0 10)]
  | .swRouteAdd | .swRouteDel => [(.swRouteAdd, argF c 0 0 32 + 2 ^ 32 * argF c 1 0 18)]
  | .swMacsecSa => [(.swMacsecSa, argF c 0 0 7)]
  | .schClassCfg => [(.schClassCfg, argF c 0 0 3)]
  | .canFilter => [(.canFilter, argF c 0 0 7)]
  | .gpioCfg => (List.range 32).filterMap fun k => if argB c 0 k then some (.gpioCfg, k) else none
  | op => [(op, 0)]

/-- What a staged command locks. (DEDUCED: log entry 77.) -/
def Staged.lock (x : Staged) : List (Op × Nat) := lockSel x.cmd x.op

/-- A committed transaction locks a field that the command sets (R45). (DEDUCED: log entry 77.) -/
def Dev.locked (s : Dev) (op : Op) (c : Cmd) : Bool :=
  let k := lockSel c op
  s.txn.committed.any fun t => t.staged.any fun x => x.lock.any k.contains

/-! ### Staged commands in application order (R224, R415, R416) -/

/-- Group of a command's opcode. -/
def opGroup (op : Op) : Nat := (opInfo op).code / 256

/-- A command for Orchard or for a profile channel. (DEDUCED: log entry 74.) -/
def fleetOp (op : Op) : Bool := opGroup op == 6 || decide (0x0700 ≤ (opInfo op).code ∧ (opInfo op).code ≤ 0x0707)

/-- The staged commands with their indices: Orchard commands first, then the others, each in staging order. -/
def applyOrder (l : List Staged) : List (Nat × Staged) :=
  let x := (List.range l.length).zip l
  (x.filter fun y => opGroup y.2.op == 6) ++ x.filter fun y => opGroup y.2.op != 6

/-- A staged request enters its intervals under an identifier (R180): conflicts and room are tested apart. -/
def Dev.txnEnter (s : Dev) (c : Cmd) (id : Option Nat) : Except (Rc × List Word) (Dev × List Word) :=
  let q := orcParse c
  match s.orcCheck q with
  | .error e => .error e
  | .ok b =>
    let s1 := match q.replaces with
      | some g => s.dropIvs fun x => x.holder == q.holder && x.grant == g
      | none => s
    let s2 := match id with | some g => { s1 with orc := { s1.orc with nextGrant := g } } | none => s1
    let r := s2.enterJob b none
    let t := r.1.promote
    .ok ({ t with orc := { t.orc with
        nextGrant := if id.isSome then s1.orc.nextGrant else t.orc.nextGrant, grants := min (t.orc.grants + 1) 0xFFFFFFFF } },
      orcWords r.2.1 b.clipped r.2.2 b.tiles.length 0 0 0 0)

/-- Checks 10 and 11 of R173 for a staged request (R46, R180). -/
def Dev.txnConflict (s : Dev) (c : Cmd) : Option Rc :=
  let q := orcParse c
  match s.orcCheck q with
  | .error e => some e.1
  | .ok b =>
    if !q.force && (s.firstConflict b).isSome then some .orcDenied
    else (match q.replaces with
      | some g => s.dropIvs fun x => x.holder == q.holder && x.grant == g
      | none => s).orcRoom b

/-- After an Orchard command on a machine holder, S_LIM of its channel is recomputed (07 R207). -/
def Dev.afterOrc (s : Dev) (op : Op) (c : Cmd) : Dev :=
  if opGroup op = 6 ∧ op ≠ .orcGridCfg ∧ op ≠ .orcGlobalCfg ∧ op ≠ .orcTileRead ∧ op ≠ .orcStatus ∧ argF c 0 0 8 < s.nSlots then
    s.slimOne (argF c 0 0 8)
  else s

/-- The own checks and the effect of a staged command (R180, R415). -/
def Dev.stagedRun (s : Dev) (x : Staged) (id : Option Nat) : Res :=
  match x.op with
  | .orcRequest =>
    match s.txnEnter x.cmd id with
    | .error e => ⟨some e.1, e.2, s⟩
    | .ok r => done (r.1.afterOrc x.op x.cmd) r.2
  | .orcRelease =>
    match s.orcReleaseRaw (argF x.cmd 0 0 8) (argF x.cmd 0 16 16) with
    | .error e => refuse s e
    | .ok t => done (t.promote.afterOrc x.op x.cmd) []
  | .trkLoad => trkLoadHeld x.cmd s
  | op =>
    let r := runPlain op x.cmd s
    { r with st := r.st.afterOrc op x.cmd }

/-- The identifier that a commit has set aside for a staged request. (DEDUCED: log entry 75.) -/
def grantOf (ids : List (Nat × Nat)) (i : Nat) : Option Nat := (ids.find? fun x => x.1 == i).map Prod.snd

/-- The staged commands one after another (R415 test 2, R416): the first refusal, or the state that they leave and each
command's result. -/
def Dev.runOrder (s : Dev) (ids : List (Nat × Nat)) :
    List (Nat × Staged) → Except (Nat × Rc) (Dev × List (Nat × Staged × Option Rc × List Word))
  | [] => .ok (s, [])
  | x :: l =>
    let r := s.stagedRun x.2 (grantOf ids x.1)
    match r.code with
    | some e =>
      if rcAccepted e then
        match Dev.runOrder r.st ids l with
        | .ok t => .ok (t.1, (x.1, x.2, some e, r.words) :: t.2)
        | .error f => .error f
      else .error (x.1, e)
    | none =>
      match Dev.runOrder r.st ids l with
      | .ok t => .ok (t.1, (x.1, x.2, none, []) :: t.2)
      | .error f => .error f

/-- The Orchard checks of R46 on the staged requests, in application order. -/
def Dev.orchTests (s : Dev) (ids : List (Nat × Nat)) : List (Nat × Staged) → Option (Nat × Rc)
  | [] => none
  | x :: l =>
    match if x.2.op = .orcRequest then s.txnConflict x.2.cmd else none with
    | some e => some (x.1, e)
    | none => Dev.orchTests (s.stagedRun x.2 (grantOf ids x.1)).st ids l

/-! ### Stop-inside-reservation (R47, R48) -/

/-- The machines projected to the start of epoch `target` along their present profiles (R47). -/
def Dev.project (s : Dev) (target : Nat) : Dev :=
  let n := (target - s.gen.epochFull) * 100 - s.tbs.ticksFired
  let e := s.gen.epochFull + s.tbs.ticksFired / 100
  let j := s.tbs.ticksFired % 100
  let s' := (List.range s.nSlots).foldl (fun (t : Dev) k =>
    if (s.pch k).st = .off then t else t.pchMod k fun p => p.ahead (s.penvAhead k) n e j) s
  { s' with
    tbs := { s'.tbs with time := max s'.tbs.time (target * epU), ticksFired := 0 }
    gen := { s'.gen with epochFull := max s'.gen.epochFull target, tick := 0 } }

/-- The first moving machine whose envelope at the boundary lies outside its reservation once the staged changes have entered
there (R47, R48). (DEDUCED: log entry 74.) -/
def Dev.txnInvariant (s : Dev) (ids : List (Nat × Nat)) (staged : List Staged) (target : Nat) : Option Nat :=
  if !staged.any fun x => fleetOp x.op then none
  else
    let t := (applyOrder staged).foldl (fun (t : Dev) (x : Nat × Staged) => (t.stagedRun x.2 (grantOf ids x.1)).st) (s.project target)
    (List.range s.nSlots).find? fun k =>
      (s.moving k || decide (0 < (t.pch k).v)) && !t.envOk k (t.pch k) (target * epU) 0

/-- FAIL_INDEX of a failing slot: the first staged Orchard or profile command that names it (R47). -/
def nameIndex (staged : List Staged) (k : Nat) : Option Nat :=
  ((List.range staged.length).zip staged).findSome? fun x =>
    if fleetOp x.2.op ∧ x.2.op ≠ .orcGlobalCfg ∧ argF x.2.cmd 0 0 8 = k then some x.1 else none

/-- Word 0 of a commit's response (R415): COUNT, FAIL_INDEX and NO_INDEX. -/
def commitWord (n idx : Nat) (noIdx : Bool) : Word := word (n + 2 ^ 16 * (idx % 256) + 2 ^ 24 * b2n noIdx)

/-- A failure of R415: the code, FAIL_INDEX where it names a command, and the failing slot of R47. -/
structure TxnFail where
  code : Rc
  idx : Option Nat
  slot : Option Nat := none

/-- The tests of R415 after the lock test, and again at application (R416): the first failure, or the state and results. -/
def Dev.txnTests (s : Dev) (ids : List (Nat × Nat)) (staged : List Staged) (target : Nat) :
    Except TxnFail (Dev × List (Nat × Staged × Option Rc × List Word)) :=
  let o := applyOrder staged
  match s.runOrder ids o with
  | .error e => .error { code := e.2, idx := some e.1 }
  | .ok r =>
    match s.orchTests ids o with
    | some e => .error { code := e.2, idx := some e.1 }
    | none =>
      match s.txnInvariant ids staged target with
      | some k => .error { code := .txnInvariant, idx := nameIndex staged k, slot := some k }
      | none => .ok r

/-! ### Pending intervals (R46, R180) -/

/-- The committed transaction `id` holds no interval any more. -/
def Dev.dropPending (s : Dev) (id : Nat) : Dev :=
  { s with orc := { s.orc with store := s.orc.store.filter fun x => x.txn != some id } }

/-- From the commit on, the intervals of the staged requests are held, pending, under their identifiers; a forced zone
request holds only tiles without a conflicting machine interval (R180). The second state is the one that the staged commands
leave. (DEDUCED: log entry 75.) -/
def holdPending (id : Nat) : List (Nat × Staged) → Dev → Dev → Dev × List (Nat × Nat)
  | [], s, _ => (s, [])
  | x :: l, s, t =>
    match x.2.op, t.orcCheck (orcParse x.2.cmd) with
    | .orcRequest, .ok b =>
      let g := (s.nextId 0xFFFF s.orc.nextGrant).getD s.orc.nextGrant
      let ivs := (b.tiles.map fun k => { b.iv g k with pending := true, txn := some id }).filter fun v =>
        !b.req.force || (s.machineConflicts v).isEmpty
      let s := { s with orc := { s.orc with store := s.orc.store ++ ivs, nextGrant := (g + 1) % 0xFFFF } }
      let r := holdPending id l s (t.stagedRun x.2 (some g)).st
      (r.1, (x.1, g) :: r.2)
    | _, _ => holdPending id l s (t.stagedRun x.2 none).st

/-! ### Commands (R40, R42, R44, R417) -/

/-- TXN_BEGIN (R40, R44). -/
def txnBeginRun (c : Cmd) (s : Dev) : Res :=
  let p := pathPort c.path
  if 5 ≤ p then refuse s .noAuthority
  else if (s.tport p).st = .opened then refuse s .txnOpen
  else
    let n := (s.txn.count + 1) % 65536
    let s := { s with txn := { s.txn with count := n } }
    done (s.tportMod p fun _ => { st := .opened, beganAt := s.tbs.mono, id := n }) [word n]

/-- The port of a TXN_COMMIT or TXN_ROLLBACK holds no open transaction: its code, and the end of EXPIRED (R44, R417).
(DEDUCED: log entry 73.) -/
def Dev.txnClosed (s : Dev) (p : Nat) : Option Res :=
  match (s.tport p).st with
  | .opened => none
  | .expired => some ⟨some .txnExpired, [], s.tportMod p fun t => { t with st := .none }⟩
  | .none => some (refuse s .txnNone)

/-- TXN_ROLLBACK (R44). -/
def txnRollbackRun (c : Cmd) (s : Dev) : Res :=
  let p := pathPort c.path
  match s.txnClosed p with
  | some r => r
  | none => done (s.rollback p) [word (s.tport p).staged.length]

/-- TXN_COMMIT (R42, R45 to R47, R415). -/
def txnCommitRun (c : Cmd) (s : Dev) : Res :=
  let p := pathPort c.path
  match s.txnClosed p with
  | some r => r
  | none =>
    let t := s.tport p
    let n := t.staged.length
    let d := (arg c 0 - s.epoch).toNat
    let target := s.gen.epochFull + d
    if d < 2 ∨ 600 < d then ⟨some .txnEpochRange, [commitWord n 0 false, 0], s⟩
    else match ((List.range n).zip t.staged).find? fun x => s.locked x.2.op x.2.cmd with
    | some x => ⟨some .txnConflict, [commitWord n x.1 false, 0], s⟩
    | none =>
      match s.txnTests [] t.staged target with
      | .error e => ⟨some e.code, [commitWord n (e.idx.getD 0) e.idx.isNone, 0], s⟩
      | .ok _ =>
        let h := holdPending t.id (applyOrder t.staged) s s
        let k : Comm := {
          port := p, id := t.id, staged := t.staged, target := target, beganAt := t.beganAt, path := c.path, tag := c.tag
          grants := h.2 }
        let s := (h.1.tportMod p fun t => { t with st := .none, staged := [] })
        ⟨some .acceptedAsync, [commitWord n 0 false, epoch32 target],
          { s with txn := { s.txn with committed := s.txn.committed ++ [k] } }⟩

/-- TXN_STATUS (R40, R44): the open or expired transaction of a port, or else its latest committed one. -/
def txnStatusRun (c : Cmd) (s : Dev) : Res :=
  let p := argF c 0 0 3
  let t := s.tport p
  let row (st n : Nat) (target : Word) (at_ id : Nat) : Res :=
    done s [word (st + 4 * n), target, sat32 ((s.tbs.mono - at_) / msU), word id]
  match t.st, (s.txn.committed.filter fun k => k.port == p).getLast? with
  | .opened, _ => row 1 t.staged.length 0 t.beganAt t.id
  | .expired, _ => row 3 t.staged.length 0 t.beganAt t.id
  | .none, some k => row 2 k.staged.length (epoch32 k.target) k.beganAt k.id
  | .none, none => done s [0, 0, 0, 0]

/-- TXN_EXPIRY (R44): 10 s after TXN_BEGIN the transaction is rolled back and recorded. -/
def execTxnExpiry (port : Fin 5) (s : State) : Host.Outcome State Fault Refusal := act s fun s =>
  let t := s.tport port.val
  if t.st = .opened then
    let s := s.advanceMono (t.beganAt + 10 * secU)
    (((s.dropStaged port.val .txnDiscarded).tportMod port.val fun t => { t with st := .expired }).log (fwCode 1 1 0x10)
      (leBytes 1 port.val))
  else s

/-! ### Application and abort (R48, R60, R416, R417) -/

/-- A committed transaction ends without effect: its intervals and locks are released, and its completions carry the code.
(DEDUCED: log entry 76.) -/
def Dev.txnAbort (s : Dev) (t : Comm) (f : TxnFail) : Dev :=
  let s := s.dropPending t.id
  let s := { s with txn := { s.txn with committed := s.txn.committed.filter fun k => k != t } }
  let s := t.staged.foldl (fun (s : Dev) (x : Staged) =>
    match x.cmd.path with
    | .ring _ => s.owe x.cmd.path x.cmd.tag x.op f.code (refusalWords x.op)
    | _ => s) s
  s.owe t.path t.tag .txnCommit f.code [commitWord t.staged.length (f.idx.getD 0) f.idx.isNone, epoch32 t.target]

/-- The record of an abort (16 R444, TXN_ABORT). -/
def Dev.logAbort (s : Dev) (t : Comm) (f : TxnFail) : Dev :=
  let pay := leBytes 1 t.port ++ leBytes 1 (f.idx.getD 0) ++ leBytes 2 (rcCode f.code) ++ leBytes 1 (b2n f.idx.isNone)
  match f.slot with
  | some k => s.logSlot 0x4101 k pay
  | none => s.log 0x4101 pay

/-- A committed transaction at step 1 of R25 (R48). (DEDUCED: log entry 76.) -/
def Dev.txnRecheck (s : Dev) (t : Comm) : Dev :=
  match (s.dropPending t.id).txnInvariant t.grants t.staged t.target with
  | none => s
  | some k =>
    let f : TxnFail := { code := .txnInvariant, idx := nameIndex t.staged k, slot := some k }
    let was := s.gen.txnAbort
    let s := (s.txnAbort t f).logAbort t f
    { s with gen := { s.gen with txnAbort := true } }.irqIf 0 (!was)

/-- A surviving transaction at its boundary (R416): every check again, then all of it or nothing.
(DEDUCED: log entry 76.) -/
def Dev.txnApply (s : Dev) (t : Comm) : Dev :=
  match (s.dropPending t.id).txnTests t.grants t.staged t.target with
  | .error f => (s.txnAbort t f).logAbort t f
  | .ok r =>
    let s := r.1
    let s := { s with txn := { s.txn with committed := s.txn.committed.filter fun k => k != t } }
    let s := r.2.foldl (fun (s : Dev) (x : Nat × Staged × Option Rc × List Word) =>
      match x.2.1.cmd.path, x.2.2.1 with
      | .ring _, some e => s.owe x.2.1.cmd.path x.2.1.cmd.tag x.2.1.op e x.2.2.2
      | _, _ => s) s
    s.owe t.path t.tag .txnCommit .success [commitWord t.staged.length 0 false, epoch32 t.target]

/-- Every committed transaction at the boundary of full epoch e, in order of commit: targets before e are skipped (R60). -/
def Dev.txnBoundary (s : Dev) (e : Nat) : Dev :=
  s.txn.committed.foldl (fun (s : Dev) (t : Comm) =>
    if t.target < e then s.txnAbort t { code := .txnSkipped, idx := none }
    else if t.target = e then s.txnApply t else s) s

end Sys2Proof.Machine
end

