-- ==== Sys2Proof/Machine/Catalogue.lean ====
section
/-! DEFINITION. How a command is taken up: the checks of 13 R397 in their order, staging, locks and shadows (01 R39, R41,
R45), commands that wait for the end of NIGHT or DOZE (11 R339, R340), and one meaning for each command of the
catalogue. -/
namespace Sys2Proof.Machine

/-! ### Classes of commands -/

/-- The key-class opcodes of check 4 (R397). -/
def keyClass (op : Op) : Bool := opGroup op == 0x0E || opGroup op == 0x0F || decide (op = .recClearConfirm)

/-- The opcodes that a channel of the secure core passes beside the key class (R397). -/
def secPasses (op : Op) : Bool := decide (op = .nop) || decide (op = .mbxBindSet) || decide (op = .bglStop)

/-- What the supervisor accepts in TAMPER_HOLD (15 R438). -/
def holdAccepts (op : Op) : Bool :=
  decide (op = .genInfo) || decide (op = .lcStatus) || decide (op = .tamperStatus) || decide (op = .recHistRead)
    || decide (op = .bootReset)

/-- What the ROM accepts in RECOVERY (17 R480). -/
def recoveryAccepts (op : Op) : Bool :=
  decide (op = .genInfo) || decide (op = .lcStatus) || decide (op = .updStatus) || decide (op = .bootReset)
    || decide (op = .updBegin) || decide (op = .updData) || decide (op = .updCommit) || decide (op = .updAbort)

/-- The minimum authority: a zone holder asks for LOCAL (06 R195). -/
def opRank (op : Op) (c : Cmd) : Nat :=
  if (op = .orcRequest ∨ op = .orcRelease) ∧ 192 ≤ argF c 0 0 8 then 1 else (opInfo op).auth

/-- A group that runs at once whatever transaction is open (14 R413). -/
def unstagedGroup (op : Op) : Bool :=
  let g := opGroup op
  g == 0 || g == 1 || g == 8 || decide (0x0E ≤ g)

/-! ### Host buffers (14 R409, 13 R386) -/

/-- Address of the buffer that a command names. -/
def bufAddr (op : Op) (c : Cmd) : Nat :=
  match (opInfo op).buf with
  | .none => 0
  | .std => arg64 c 1
  | .can => arg64 c 2
  | .smb => arg64 c 1

/-- Length of the buffer that a command names, bytes. -/
def bufLen (op : Op) (c : Cmd) : Nat :=
  match (opInfo op).buf with
  | .none => 0
  | .std => argF c 3 0 32
  | .can => argF c 0 6 7
  | .smb => 64

/-- The smallest buffer of a read or load (14 R409); shorter ones fail with LENGTH_SHORT. -/
def minLen : Op → Nat
  | .gnsMeasRead => 32
  | .refCorrRead => 6
  | .fixRead => 16
  | .orcTileRead => 16
  | .swDigestRead => 8
  | .swBlockRead => 16
  | .swL2Next => 16
  | .canRead => 88
  | .isbRead => 24
  | .adcRead => 16
  | .recHistRead => 16
  | .bglAnchorRead => 136
  | .radScriptLoad => 12
  | _ => 0

/-- Check 5 of R397: the buffer can be reached from the arrival path. Update data arrive attached to management frames (17
R469) and through HPF0 (R468). -/
def bufOk (op : Op) (c : Cmd) : Bool :=
  let upd := decide (op = .updBegin) || decide (op = .updData)
  match (opInfo op).buf with
  | .none => true
  | _ =>
    match c.path with
    | .mbx ch =>
      ch.val ≤ 7 || ch.val == 15
        || (decide (8 ≤ ch.val) && decide (ch.val ≤ 11) && !upd && bufAddr op c == xferAddr && decide (bufLen op c ≤ 352))
    | .ring _ => true
    | .mgmt => upd
    | .site => upd
    | .field => false

/-- The command with the data of its transfer area, where it names that area (R386). -/
def Dev.withArea (s : Dev) (op : Op) (c : Cmd) : Cmd :=
  match c.path with
  | .mbx ch =>
    if (opInfo op).buf ≠ .none ∧ 8 ≤ ch.val ∧ ch.val ≤ 11 ∧ bufAddr op c = xferAddr then
      { c with data := (List.range (min 352 (bufLen op c))).map fun k => s.xferByte ch.val k }
    else c
  | _ => c

/-! ### Checks 2 to 6 (R397) -/

/-- Check 4, or the rule that stands in its place in RECOVERY and in TAMPER_HOLD. -/
def Dev.secCheck (s : Dev) (op : Op) (c : Cmd) : Option Rc :=
  if s.gen.phase = .recovery then none
  else if s.gen.phase = .tamperHold then (if holdAccepts op then none else some .tamper)
  else if keyClass op && !s.secPath c.path then some .notSecChannel
  else if s.secPath c.path && !keyClass op && !secPasses op then some .secOnlyChannel
  else none

/-- The first of checks 1 to 6 that refuses a command: its order and its code. Check 6 completes it with ZERO_LENGTH. -/
def Dev.gateCheck (s : Dev) (op : Op) (c : Cmd) : Option (Nat × Rc) :=
  if s.gen.phase = .recovery ∧ !recoveryAccepts op then some (1, .unknownOpcode)
  else if c.words.length ≠ (opInfo op).reqWords then some (2, .msgLength)
  else if opRank op c < pathRank c.path then some (3, .noAuthority)
  else match s.secCheck op c with
  | some e => some (4, e)
  | none =>
    if !bufOk op c then some (5, .noDmaPath)
    else if (opInfo op).buf = .std ∧ op ≠ .isbSend ∧ bufLen op c = 0 then some (6, .zeroLength)
    else if bufLen op c < minLen op then some (8, .lengthShort)
    else none

/-! ### Check 7: staging (01 R41, R44, 14 R413) -/

/-- What check 7 does with a command of a port. -/
inductive StageAns where
  /-- The command runs at once. -/
  | run
  /-- It is staged. -/
  | stage
  /-- It is refused. -/
  | refuse (c : Rc)
deriving DecidableEq, Repr

/-- Check 7, with the checks at staging that a single field or a track image decides (R41). (DEDUCED: log entry 72.) -/
def Dev.stageCheck (s : Dev) (op : Op) (c : Cmd) : StageAns :=
  let t := s.tport (pathPort c.path)
  if t.st = .opened then
    if (opInfo op).cls = .halted ∧ op ≠ .mbxBindSet ∧ !unstagedGroup op then .refuse .txnClass
    else if (opInfo op).staged then
      if 256 ≤ t.staged.length then .refuse .txnFull
      else if op = .trkLoad then
        (match s.trkStage c with
         | some e => .refuse e
         | none => .stage)
      else .stage
    else .run
  else .run

/-- A command that would be staged finds its port EXPIRED (R44). (DEDUCED: log entry 73.) -/
def Dev.portExpired (s : Dev) (op : Op) (c : Cmd) : Bool :=
  (opInfo op).staged && decide ((s.tport (pathPort c.path)).st = .expired)

/-- The command's port holds an open transaction, and the command would be staged. -/
def Dev.staging (s : Dev) (op : Op) (c : Cmd) : Bool :=
  (opInfo op).staged && decide ((s.tport (pathPort c.path)).st = .opened)

/-! ### Check 8 and the effect -/

/-- A command's own checks and its effect. -/
def Dev.runOp (s : Dev) (op : Op) (c : Cmd) : Res :=
  match op with
  | .txnBegin => txnBeginRun c s
  | .txnCommit => txnCommitRun c s
  | .txnRollback => txnRollbackRun c s
  | .txnStatus => txnStatusRun c s
  | op =>
    let r := runPlain op c s
    if r.code.all rcAccepted then { r with st := r.st.afterOrc op c } else r

/-- A write of an EPOCH field goes to the shadow: of the next boundary, or after the cut-off of the one after it (01 R25,
R39). (DESIGN CHOICE: log entry 8.) -/
def Dev.shadowed (s : Dev) (op : Op) (c : Cmd) : Dev :=
  if s.tbs.cutoff then { s with shadowNext := s.shadowNext ++ [(op, c)] } else { s with shadow := s.shadow ++ [(op, c)] }

/-- Check 8 of a command that is not staged: an EPOCH write that passes its own checks waits in the shadow.
(DESIGN CHOICE: log entry 8.) -/
def Dev.runNow (s : Dev) (op : Op) (c : Cmd) : Res :=
  if (opInfo op).cls ≠ .none ∧ s.locked op c then ⟨some .txnConflict, refusalWords op, s⟩
  else
    let r := s.runOp op c
    if (opInfo op).cls = .epoch ∧ r.code.all rcAccepted then { r with st := s.shadowed op c }
    else if r.words = [] ∧ !r.code.all rcAccepted then { r with words := refusalWords op }
    else r

/-- Checks 7 and 8 (R397). The first component is the order of the check that decides. (DEDUCED: log entry 72.) -/
def Dev.lateChecks (s : Dev) (op : Op) (c : Cmd) : Nat × Res :=
  if s.portExpired op c then (7, ⟨some .txnExpired, refusalWords op, s⟩)
  else if !fieldsOk (opFields c op) c then (if s.staging op c then 7 else 8, ⟨some .reservedValue, refusalWords op, s⟩)
  else match s.stageCheck op c with
  | .refuse e => (7, ⟨some e, refusalWords op, s⟩)
  | .stage =>
    (7, ⟨some .txnStaged, [], s.tportMod (pathPort c.path) fun t => { t with staged := t.staged ++ [{ op := op, cmd := c }] }⟩)
  | .run => (8, s.runNow op c)

/-- An outcome at an order of R397 is counted on its path (13 R406, 14 CMD_PATH_STATUS). -/
def Dev.countOrder (s : Dev) (p : Path) (n : Nat) : Dev :=
  s.pathCntMod (pathKey p) fun k => { k with orders := tmod 0 k.orders n fun v => min (v + 1) 0xFFFFFFFF }

/-- A command that passes every check is counted as accepted. -/
def Dev.countAccepted (s : Dev) (p : Path) : Dev :=
  s.pathCntMod (pathKey p) fun k => { k with accepted := min (k.accepted + 1) 0xFFFFFFFF }

/-- A command is taken up (R397): the first check that fails refuses it, and it has no effect then. -/
def Dev.handle (s : Dev) (op : Op) (c0 : Cmd) : Res :=
  let c := s.withArea op c0
  match s.gateCheck op c with
  | some e => ⟨some e.2, refusalWords op, s.countOrder c.path e.1⟩
  | none =>
    let r := s.lateChecks op c
    if r.2.code.all rcAccepted then { r.2 with st := r.2.st.countAccepted c.path }
    else { r.2 with st := r.2.st.countOrder c.path r.1 }

/-! ### Who is served, and when -/

/-- The firmware serves a path: in READY; in RECOVERY on channel 15 (17 R480); in a TAMPER_HOLD entered while the device
ran, on the supervisor's channels (15 R438). (DESIGN CHOICE: log entry 18.) -/
def Dev.hears (s : Dev) (p : Path) : Bool :=
  match s.gen.phase with
  | .ready => true
  | .recovery => (match p with | .mbx ch => ch.val == 15 | _ => false)
  | .tamperHold => s.bgl.up && !s.secPath p
  | _ => false

/-- Commands that run in NIGHT (11 R339, 08 R235). (DESIGN CHOICE: log entry 16.) -/
def nightRuns (op : Op) : Bool :=
  decide (op = .pwrSet) || decide (op = .pwrStatus) || decide (op = .schStatus) || decide (op = .recHistRead)
    || decide (op = .bglStop)

/-- A command that is a wake and runs after the return (R339, R340): in DOZE one that needs the FLEET domain (log entry
16). (DESIGN CHOICE: log entry 16.) -/
def Dev.defers (s : Dev) (op : Op) : Bool :=
  match s.blw.st with
  | .run => false
  | .doze => decide (op = .bglEnable) || (decide (5 ≤ opGroup op) && decide (opGroup op ≤ 7))
  | .night => !nightRuns op

/-- A command is taken up, or waits for the return to RUN; no code then.
(DESIGN CHOICE: log entry 16; DEDUCED: log entry 116.) -/
def Dev.take (s : Dev) (op : Op) (c : Cmd) : Res :=
  if s.defers op then
    let t := s.wake 3
    later' { t with blw := { t.blw with deferred := t.blw.deferred ++ [(op, c)] } }
  else s.handle op c

/-- The epoch that a completion names (13 R401): where the command applies, or else the current one. -/
def Dev.replyEpoch (s : Dev) (op : Op) (c : Cmd) (e : Rc) : Word :=
  if op = .txnCommit ∧ e = .acceptedAsync then epoch32 (s.gen.epochFull + (arg c 0 - s.epoch).toNat)
  else if (opInfo op).cls = .epoch ∧ e = .success then epoch32 s.applyEpoch
  else s.epoch

/-- A command of the catalogue that arrives on its path: its answer stands in the output register; on a path that nothing
serves, nothing happens. (DESIGN CHOICE: log entry 3.) -/
def Dev.command (s : Dev) (op : Op) (c : Cmd) : Dev :=
  if s.hears c.path then
    let r := s.take op c
    match r.code with
    | some e => r.st.answer e c.tag r.words (s.replyEpoch op c e)
    | none => { r.st with reply := { tag := c.tag, epoch := s.epoch, pendingDone := true } }
  else s

/-! ### The commands -/

/-- NOP (R395). -/
def execNop (c : Cmd) (s : State) : Host.Outcome State Fault Refusal := act s fun s =>
  (s.command .nop c)

/-- GEN_INFO (R407). -/
def execGenInfo (c : Cmd) (s : State) : Host.Outcome State Fault Refusal := act s fun s =>
  (s.command .genInfo c)

/-- TXN_BEGIN (R40). -/
def execTxnBegin (c : Cmd) (s : State) : Host.Outcome State Fault Refusal := act s fun s =>
  (s.command .txnBegin c)

/-- TXN_COMMIT (R415). -/
def execTxnCommit (c : Cmd) (s : State) : Host.Outcome State Fault Refusal := act s fun s =>
  (s.command .txnCommit c)

/-- TXN_ROLLBACK (R44). -/
def execTxnRollback (c : Cmd) (s : State) : Host.Outcome State Fault Refusal := act s fun s =>
  (s.command .txnRollback c)

/-- TXN_STATUS (R40). -/
def execTxnStatus (c : Cmd) (s : State) : Host.Outcome State Fault Refusal := act s fun s =>
  (s.command .txnStatus c)

/-- GNS_LANE_CFG (R77). -/
def execGnsLaneCfg (c : Cmd) (s : State) : Host.Outcome State Fault Refusal := act s fun s =>
  (s.command .gnsLaneCfg c)

/-- GNS_LANE_EN (R89). -/
def execGnsLaneEn (c : Cmd) (s : State) : Host.Outcome State Fault Refusal := act s fun s =>
  (s.command .gnsLaneEn c)

/-- GNS_MON_CFG (R98). -/
def execGnsMonCfg (c : Cmd) (s : State) : Host.Outcome State Fault Refusal := act s fun s =>
  (s.command .gnsMonCfg c)

/-- GNS_MEAS_CFG (R102). -/
def execGnsMeasCfg (c : Cmd) (s : State) : Host.Outcome State Fault Refusal := act s fun s =>
  (s.command .gnsMeasCfg c)

/-- GNS_CHAN_ALLOC (R87). -/
def execGnsChanAlloc (c : Cmd) (s : State) : Host.Outcome State Fault Refusal := act s fun s =>
  (s.command .gnsChanAlloc c)

/-- GNS_CHAN_FREE (R88). -/
def execGnsChanFree (c : Cmd) (s : State) : Host.Outcome State Fault Refusal := act s fun s =>
  (s.command .gnsChanFree c)

/-- GNS_PLAN (R86). -/
def execGnsPlan (c : Cmd) (s : State) : Host.Outcome State Fault Refusal := act s fun s =>
  (s.command .gnsPlan c)

/-- GNS_ACQ (R90). -/
def execGnsAcq (c : Cmd) (s : State) : Host.Outcome State Fault Refusal := act s fun s =>
  (s.command .gnsAcq c)

/-- GNS_LANE_STATUS (R111). -/
def execGnsLaneStatus (c : Cmd) (s : State) : Host.Outcome State Fault Refusal := act s fun s =>
  (s.command .gnsLaneStatus c)

/-- GNS_CHAN_STATUS (R111). -/
def execGnsChanStatus (c : Cmd) (s : State) : Host.Outcome State Fault Refusal := act s fun s =>
  (s.command .gnsChanStatus c)

/-- GNS_MEAS_READ (R108). -/
def execGnsMeasRead (c : Cmd) (s : State) : Host.Outcome State Fault Refusal := act s fun s =>
  (s.command .gnsMeasRead c)

/-- REF_ARP_SURVEY (R113). -/
def execRefArpSurvey (c : Cmd) (s : State) : Host.Outcome State Fault Refusal := act s fun s =>
  (s.command .refArpSurvey c)

/-- REF_ARP_SET (R113). -/
def execRefArpSet (c : Cmd) (s : State) : Host.Outcome State Fault Refusal := act s fun s =>
  (s.command .refArpSet c)

/-- REF_ANT_CFG (R122). -/
def execRefAntCfg (c : Cmd) (s : State) : Host.Outcome State Fault Refusal := act s fun s =>
  (s.command .refAntCfg c)

/-- REF_STEER_CFG (R116). -/
def execRefSteerCfg (c : Cmd) (s : State) : Host.Outcome State Fault Refusal := act s fun s =>
  (s.command .refSteerCfg c)

/-- REF_OUT_CFG (R122). -/
def execRefOutCfg (c : Cmd) (s : State) : Host.Outcome State Fault Refusal := act s fun s =>
  (s.command .refOutCfg c)

/-- REF_SCHED_SET (R124). -/
def execRefSchedSet (c : Cmd) (s : State) : Host.Outcome State Fault Refusal := act s fun s =>
  (s.command .refSchedSet c)

/-- REF_ZFL_CFG (R135). -/
def execRefZflCfg (c : Cmd) (s : State) : Host.Outcome State Fault Refusal := act s fun s =>
  (s.command .refZflCfg c)

/-- REF_NTRIP_CFG (R138). -/
def execRefNtripCfg (c : Cmd) (s : State) : Host.Outcome State Fault Refusal := act s fun s =>
  (s.command .refNtripCfg c)

/-- REF_NTRIP_USER (R138). -/
def execRefNtripUser (c : Cmd) (s : State) : Host.Outcome State Fault Refusal := act s fun s =>
  (s.command .refNtripUser c)

/-- REF_INTEG_CFG (R118). -/
def execRefIntegCfg (c : Cmd) (s : State) : Host.Outcome State Fault Refusal := act s fun s =>
  (s.command .refIntegCfg c)

/-- REF_STATUS (R140). -/
def execRefStatus (c : Cmd) (s : State) : Host.Outcome State Fault Refusal := act s fun s =>
  (s.command .refStatus c)

/-- REF_CORR_READ (R128). -/
def execRefCorrRead (c : Cmd) (s : State) : Host.Outcome State Fault Refusal := act s fun s =>
  (s.command .refCorrRead c)

/-- RAD_GLOBAL_CFG (R290). -/
def execRadGlobalCfg (c : Cmd) (s : State) : Host.Outcome State Fault Refusal := act s fun s =>
  (s.command .radGlobalCfg c)

/-- RAD_PORT_CFG (R255). -/
def execRadPortCfg (c : Cmd) (s : State) : Host.Outcome State Fault Refusal := act s fun s =>
  (s.command .radPortCfg c)

/-- RAD_SCRIPT_LOAD (R252). -/
def execRadScriptLoad (c : Cmd) (s : State) : Host.Outcome State Fault Refusal := act s fun s =>
  (s.command .radScriptLoad c)

/-- RAD_PORT_EN (R290). -/
def execRadPortEn (c : Cmd) (s : State) : Host.Outcome State Fault Refusal := act s fun s =>
  (s.command .radPortEn c)

/-- RAD_SLOT_CFG (R273). -/
def execRadSlotCfg (c : Cmd) (s : State) : Host.Outcome State Fault Refusal := act s fun s =>
  (s.command .radSlotCfg c)

/-- RAD_DEREGISTER (R273). -/
def execRadDeregister (c : Cmd) (s : State) : Host.Outcome State Fault Refusal := act s fun s =>
  (s.command .radDeregister c)

/-- RAD_PARTNER_CFG (R278). -/
def execRadPartnerCfg (c : Cmd) (s : State) : Host.Outcome State Fault Refusal := act s fun s =>
  (s.command .radPartnerCfg c)

/-- RAD_ROLE_CFG (R283). -/
def execRadRoleCfg (c : Cmd) (s : State) : Host.Outcome State Fault Refusal := act s fun s =>
  (s.command .radRoleCfg c)

/-- RAD_APP_SEND (R289). -/
def execRadAppSend (c : Cmd) (s : State) : Host.Outcome State Fault Refusal := act s fun s =>
  (s.command .radAppSend c)

/-- RAD_RAW_SEL (R288). -/
def execRadRawSel (c : Cmd) (s : State) : Host.Outcome State Fault Refusal := act s fun s =>
  (s.command .radRawSel c)

/-- RAD_STATUS (R290). -/
def execRadStatus (c : Cmd) (s : State) : Host.Outcome State Fault Refusal := act s fun s =>
  (s.command .radStatus c)

/-- RAD_SLOT_STATUS (R290). -/
def execRadSlotStatus (c : Cmd) (s : State) : Host.Outcome State Fault Refusal := act s fun s =>
  (s.command .radSlotStatus c)

/-- RAD_PARTNER_STATUS (R290). -/
def execRadPartnerStatus (c : Cmd) (s : State) : Host.Outcome State Fault Refusal := act s fun s =>
  (s.command .radPartnerStatus c)

/-- FIX_CFG (R143). -/
def execFixCfg (c : Cmd) (s : State) : Host.Outcome State Fault Refusal := act s fun s =>
  (s.command .fixCfg c)

/-- FIX_GLOBAL_CFG (R154). -/
def execFixGlobalCfg (c : Cmd) (s : State) : Host.Outcome State Fault Refusal := act s fun s =>
  (s.command .fixGlobalCfg c)

/-- FIX_RESET (R164). -/
def execFixReset (c : Cmd) (s : State) : Host.Outcome State Fault Refusal := act s fun s =>
  (s.command .fixReset c)

/-- FIX_STATUS (R164). -/
def execFixStatus (c : Cmd) (s : State) : Host.Outcome State Fault Refusal := act s fun s =>
  (s.command .fixStatus c)

/-- FIX_READ (R163). -/
def execFixRead (c : Cmd) (s : State) : Host.Outcome State Fault Refusal := act s fun s =>
  (s.command .fixRead c)

/-- BRM_STATUS (R164). -/
def execBrmStatus (c : Cmd) (s : State) : Host.Outcome State Fault Refusal := act s fun s =>
  (s.command .brmStatus c)

/-- ORC_GRID_CFG (R166). -/
def execOrcGridCfg (c : Cmd) (s : State) : Host.Outcome State Fault Refusal := act s fun s =>
  (s.command .orcGridCfg c)

/-- ORC_GLOBAL_CFG (R171). -/
def execOrcGlobalCfg (c : Cmd) (s : State) : Host.Outcome State Fault Refusal := act s fun s =>
  (s.command .orcGlobalCfg c)

/-- ORC_SLOT_CFG (R196). -/
def execOrcSlotCfg (c : Cmd) (s : State) : Host.Outcome State Fault Refusal := act s fun s =>
  (s.command .orcSlotCfg c)

/-- ORC_ZONE_CFG (R172). -/
def execOrcZoneCfg (c : Cmd) (s : State) : Host.Outcome State Fault Refusal := act s fun s =>
  (s.command .orcZoneCfg c)

/-- ORC_REQUEST (R173). -/
def execOrcRequest (c : Cmd) (s : State) : Host.Outcome State Fault Refusal := act s fun s =>
  (s.command .orcRequest c)

/-- ORC_RELEASE (R182). -/
def execOrcRelease (c : Cmd) (s : State) : Host.Outcome State Fault Refusal := act s fun s =>
  (s.command .orcRelease c)

/-- ORC_RELEASE_FROZEN (R191). -/
def execOrcReleaseFrozen (c : Cmd) (s : State) : Host.Outcome State Fault Refusal := act s fun s =>
  (s.command .orcReleaseFrozen c)

/-- ORC_TILE_READ (R195). -/
def execOrcTileRead (c : Cmd) (s : State) : Host.Outcome State Fault Refusal := act s fun s =>
  (s.command .orcTileRead c)

/-- ORC_STATUS (R195). -/
def execOrcStatus (c : Cmd) (s : State) : Host.Outcome State Fault Refusal := act s fun s =>
  (s.command .orcStatus c)

/-- PRF_CHAN_CFG (R199). -/
def execPrfChanCfg (c : Cmd) (s : State) : Host.Outcome State Fault Refusal := act s fun s =>
  (s.command .prfChanCfg c)

/-- PRF_LAG_CFG (R220). -/
def execPrfLagCfg (c : Cmd) (s : State) : Host.Outcome State Fault Refusal := act s fun s =>
  (s.command .prfLagCfg c)

/-- PRF_SEG_PUSH (R201). -/
def execPrfSegPush (c : Cmd) (s : State) : Host.Outcome State Fault Refusal := act s fun s =>
  (s.command .prfSegPush c)

/-- PRF_FLUSH (R208). -/
def execPrfFlush (c : Cmd) (s : State) : Host.Outcome State Fault Refusal := act s fun s =>
  (s.command .prfFlush c)

/-- PRF_RETARGET (R214). -/
def execPrfRetarget (c : Cmd) (s : State) : Host.Outcome State Fault Refusal := act s fun s =>
  (s.command .prfRetarget c)

/-- PRF_DECEL (R212). -/
def execPrfDecel (c : Cmd) (s : State) : Host.Outcome State Fault Refusal := act s fun s =>
  (s.command .prfDecel c)

/-- PRF_CLEAR (R222). -/
def execPrfClear (c : Cmd) (s : State) : Host.Outcome State Fault Refusal := act s fun s =>
  (s.command .prfClear c)

/-- PRF_STATUS (R225). -/
def execPrfStatus (c : Cmd) (s : State) : Host.Outcome State Fault Refusal := act s fun s =>
  (s.command .prfStatus c)

/-- TRK_LOAD (R418). -/
def execTrkLoad (c : Cmd) (s : State) : Host.Outcome State Fault Refusal := act s fun s =>
  (s.command .trkLoad c)

/-- TRK_DELETE (R418). -/
def execTrkDelete (c : Cmd) (s : State) : Host.Outcome State Fault Refusal := act s fun s =>
  (s.command .trkDelete c)

/-- TRK_INFO (R418). -/
def execTrkInfo (c : Cmd) (s : State) : Host.Outcome State Fault Refusal := act s fun s =>
  (s.command .trkInfo c)

/-- BGL_STOP (R234). -/
def execBglStop (c : Cmd) (s : State) : Host.Outcome State Fault Refusal := act s fun s =>
  (s.command .bglStop c)

/-- BGL_RELEASE (R246). -/
def execBglRelease (c : Cmd) (s : State) : Host.Outcome State Fault Refusal := act s fun s =>
  (s.command .bglRelease c)

/-- BGL_ENABLE (R247). -/
def execBglEnable (c : Cmd) (s : State) : Host.Outcome State Fault Refusal := act s fun s =>
  (s.command .bglEnable c)

/-- BGL_DISABLE (R251). -/
def execBglDisable (c : Cmd) (s : State) : Host.Outcome State Fault Refusal := act s fun s =>
  (s.command .bglDisable c)

/-- BGL_ANCHOR_READ (R251). -/
def execBglAnchorRead (c : Cmd) (s : State) : Host.Outcome State Fault Refusal := act s fun s =>
  (s.command .bglAnchorRead c)

/-- SW_PORT_CFG (R292). -/
def execSwPortCfg (c : Cmd) (s : State) : Host.Outcome State Fault Refusal := act s fun s =>
  (s.command .swPortCfg c)

/-- SW_PORT_EN (R321). -/
def execSwPortEn (c : Cmd) (s : State) : Host.Outcome State Fault Refusal := act s fun s =>
  (s.command .swPortEn c)

/-- SW_GLOBAL_CFG (R301). -/
def execSwGlobalCfg (c : Cmd) (s : State) : Host.Outcome State Fault Refusal := act s fun s =>
  (s.command .swGlobalCfg c)

/-- SW_VLAN_CFG (R294). -/
def execSwVlanCfg (c : Cmd) (s : State) : Host.Outcome State Fault Refusal := act s fun s =>
  (s.command .swVlanCfg c)

/-- SW_QOS_CFG (R311). -/
def execSwQosCfg (c : Cmd) (s : State) : Host.Outcome State Fault Refusal := act s fun s =>
  (s.command .swQosCfg c)

/-- SW_L2_ADD (R301). -/
def execSwL2Add (c : Cmd) (s : State) : Host.Outcome State Fault Refusal := act s fun s =>
  (s.command .swL2Add c)

/-- SW_L2_DEL (R299). -/
def execSwL2Del (c : Cmd) (s : State) : Host.Outcome State Fault Refusal := act s fun s =>
  (s.command .swL2Del c)

/-- SW_L2_SEARCH (R302). -/
def execSwL2Search (c : Cmd) (s : State) : Host.Outcome State Fault Refusal := act s fun s =>
  (s.command .swL2Search c)

/-- SW_L2_NEXT (R303). -/
def execSwL2Next (c : Cmd) (s : State) : Host.Outcome State Fault Refusal := act s fun s =>
  (s.command .swL2Next c)

/-- SW_FLUSH_BY_PORT (R305). -/
def execSwFlushByPort (c : Cmd) (s : State) : Host.Outcome State Fault Refusal := act s fun s =>
  (s.command .swFlushByPort c)

/-- SW_RIF_CFG (R306). -/
def execSwRifCfg (c : Cmd) (s : State) : Host.Outcome State Fault Refusal := act s fun s =>
  (s.command .swRifCfg c)

/-- SW_NH_SET (R306). -/
def execSwNhSet (c : Cmd) (s : State) : Host.Outcome State Fault Refusal := act s fun s =>
  (s.command .swNhSet c)

/-- SW_ROUTE_ADD (R307). -/
def execSwRouteAdd (c : Cmd) (s : State) : Host.Outcome State Fault Refusal := act s fun s =>
  (s.command .swRouteAdd c)

/-- SW_ROUTE_DEL (R307). -/
def execSwRouteDel (c : Cmd) (s : State) : Host.Outcome State Fault Refusal := act s fun s =>
  (s.command .swRouteDel c)

/-- SW_MACSEC_SA (R315). -/
def execSwMacsecSa (c : Cmd) (s : State) : Host.Outcome State Fault Refusal := act s fun s =>
  (s.command .swMacsecSa c)

/-- SW_DIGEST_READ (R310). -/
def execSwDigestRead (c : Cmd) (s : State) : Host.Outcome State Fault Refusal := act s fun s =>
  (s.command .swDigestRead c)

/-- SW_BLOCK_READ (R310). -/
def execSwBlockRead (c : Cmd) (s : State) : Host.Outcome State Fault Refusal := act s fun s =>
  (s.command .swBlockRead c)

/-- SW_STATUS (R321). -/
def execSwStatus (c : Cmd) (s : State) : Host.Outcome State Fault Refusal := act s fun s =>
  (s.command .swStatus c)

/-- PWR_CFG (R344). -/
def execPwrCfg (c : Cmd) (s : State) : Host.Outcome State Fault Refusal := act s fun s =>
  (s.command .pwrCfg c)

/-- PWR_SET (R336). -/
def execPwrSet (c : Cmd) (s : State) : Host.Outcome State Fault Refusal := act s fun s =>
  (s.command .pwrSet c)

/-- PWR_WAKE_CFG (R340). -/
def execPwrWakeCfg (c : Cmd) (s : State) : Host.Outcome State Fault Refusal := act s fun s =>
  (s.command .pwrWakeCfg c)

/-- SCH_CLASS_CFG (R331). -/
def execSchClassCfg (c : Cmd) (s : State) : Host.Outcome State Fault Refusal := act s fun s =>
  (s.command .schClassCfg c)

/-- SCH_STATUS (R353). -/
def execSchStatus (c : Cmd) (s : State) : Host.Outcome State Fault Refusal := act s fun s =>
  (s.command .schStatus c)

/-- PWR_STATUS (R353). -/
def execPwrStatus (c : Cmd) (s : State) : Host.Outcome State Fault Refusal := act s fun s =>
  (s.command .pwrStatus c)

/-- UART_CFG (R369). -/
def execUartCfg (c : Cmd) (s : State) : Host.Outcome State Fault Refusal := act s fun s =>
  (s.command .uartCfg c)

/-- CAN_PORT_CFG (R370). -/
def execCanPortCfg (c : Cmd) (s : State) : Host.Outcome State Fault Refusal := act s fun s =>
  (s.command .canPortCfg c)

/-- CAN_FILTER (R371). -/
def execCanFilter (c : Cmd) (s : State) : Host.Outcome State Fault Refusal := act s fun s =>
  (s.command .canFilter c)

/-- CAN_SEND (R372). -/
def execCanSend (c : Cmd) (s : State) : Host.Outcome State Fault Refusal := act s fun s =>
  (s.command .canSend c)

/-- CAN_READ (R371). -/
def execCanRead (c : Cmd) (s : State) : Host.Outcome State Fault Refusal := act s fun s =>
  (s.command .canRead c)

/-- ISB_CFG (R373). -/
def execIsbCfg (c : Cmd) (s : State) : Host.Outcome State Fault Refusal := act s fun s =>
  (s.command .isbCfg c)

/-- ISB_SEND (R374). -/
def execIsbSend (c : Cmd) (s : State) : Host.Outcome State Fault Refusal := act s fun s =>
  (s.command .isbSend c)

/-- ISB_READ (R374). -/
def execIsbRead (c : Cmd) (s : State) : Host.Outcome State Fault Refusal := act s fun s =>
  (s.command .isbRead c)

/-- SMB_XFER (R375). -/
def execSmbXfer (c : Cmd) (s : State) : Host.Outcome State Fault Refusal := act s fun s =>
  (s.command .smbXfer c)

/-- GPIO_CFG (R380). -/
def execGpioCfg (c : Cmd) (s : State) : Host.Outcome State Fault Refusal := act s fun s =>
  (s.command .gpioCfg c)

/-- GPIO_WRITE (R380). -/
def execGpioWrite (c : Cmd) (s : State) : Host.Outcome State Fault Refusal := act s fun s =>
  (s.command .gpioWrite c)

/-- GPIO_READ (R381). -/
def execGpioRead (c : Cmd) (s : State) : Host.Outcome State Fault Refusal := act s fun s =>
  (s.command .gpioRead c)

/-- ADC_CFG (R377). -/
def execAdcCfg (c : Cmd) (s : State) : Host.Outcome State Fault Refusal := act s fun s =>
  (s.command .adcCfg c)

/-- ADC_READ (R377). -/
def execAdcRead (c : Cmd) (s : State) : Host.Outcome State Fault Refusal := act s fun s =>
  (s.command .adcRead c)

/-- IF_STATUS (R381). -/
def execIfStatus (c : Cmd) (s : State) : Host.Outcome State Fault Refusal := act s fun s =>
  (s.command .ifStatus c)

/-- MBX_BIND_SET (R385). -/
def execMbxBindSet (c : Cmd) (s : State) : Host.Outcome State Fault Refusal := act s fun s =>
  (s.command .mbxBindSet c)

/-- CMD_PATH_STATUS (R406). -/
def execCmdPathStatus (c : Cmd) (s : State) : Host.Outcome State Fault Refusal := act s fun s =>
  (s.command .cmdPathStatus c)

/-- KEY_GENERATE (R429). -/
def execKeyGenerate (c : Cmd) (s : State) : Host.Outcome State Fault Refusal := act s fun s =>
  (s.command .keyGenerate c)

/-- KEY_IMPORT (R430). -/
def execKeyImport (c : Cmd) (s : State) : Host.Outcome State Fault Refusal := act s fun s =>
  (s.command .keyImport c)

/-- KEY_EXPORT (R430). -/
def execKeyExport (c : Cmd) (s : State) : Host.Outcome State Fault Refusal := act s fun s =>
  (s.command .keyExport c)

/-- KEY_DERIVE (R427). -/
def execKeyDerive (c : Cmd) (s : State) : Host.Outcome State Fault Refusal := act s fun s =>
  (s.command .keyDerive c)

/-- KEY_ZEROIZE (R435). -/
def execKeyZeroize (c : Cmd) (s : State) : Host.Outcome State Fault Refusal := act s fun s =>
  (s.command .keyZeroize c)

/-- KEY_INFO (R429). -/
def execKeyInfo (c : Cmd) (s : State) : Host.Outcome State Fault Refusal := act s fun s =>
  (s.command .keyInfo c)

/-- KEY_PUBLIC (R430). -/
def execKeyPublic (c : Cmd) (s : State) : Host.Outcome State Fault Refusal := act s fun s =>
  (s.command .keyPublic c)

/-- LC_ADVANCE (R423). -/
def execLcAdvance (c : Cmd) (s : State) : Host.Outcome State Fault Refusal := act s fun s =>
  (s.command .lcAdvance c)

/-- LC_STATUS (R440). -/
def execLcStatus (c : Cmd) (s : State) : Host.Outcome State Fault Refusal := act s fun s =>
  (s.command .lcStatus c)

/-- DBG_UNLOCK (R440). -/
def execDbgUnlock (c : Cmd) (s : State) : Host.Outcome State Fault Refusal := act s fun s =>
  (s.command .dbgUnlock c)

/-- SELFTEST_RUN (R434). -/
def execSelftestRun (c : Cmd) (s : State) : Host.Outcome State Fault Refusal := act s fun s =>
  (s.command .selftestRun c)

/-- TAMPER_CFG (R436). -/
def execTamperCfg (c : Cmd) (s : State) : Host.Outcome State Fault Refusal := act s fun s =>
  (s.command .tamperCfg c)

/-- TAMPER_STATUS (R436). -/
def execTamperStatus (c : Cmd) (s : State) : Host.Outcome State Fault Refusal := act s fun s =>
  (s.command .tamperStatus c)

/-- REC_CFG (R446). -/
def execRecCfg (c : Cmd) (s : State) : Host.Outcome State Fault Refusal := act s fun s =>
  (s.command .recCfg c)

/-- REC_HIST_CFG (R457). -/
def execRecHistCfg (c : Cmd) (s : State) : Host.Outcome State Fault Refusal := act s fun s =>
  (s.command .recHistCfg c)

/-- REC_HIST_READ (R457). -/
def execRecHistRead (c : Cmd) (s : State) : Host.Outcome State Fault Refusal := act s fun s =>
  (s.command .recHistRead c)

/-- REC_FLUSH (R449). -/
def execRecFlush (c : Cmd) (s : State) : Host.Outcome State Fault Refusal := act s fun s =>
  (s.command .recFlush c)

/-- REC_CLEAR (R456). -/
def execRecClear (c : Cmd) (s : State) : Host.Outcome State Fault Refusal := act s fun s =>
  (s.command .recClear c)

/-- REC_CLEAR_CONFIRM (R456). -/
def execRecClearConfirm (c : Cmd) (s : State) : Host.Outcome State Fault Refusal := act s fun s =>
  (s.command .recClearConfirm c)

/-- UPD_BEGIN (R468). -/
def execUpdBegin (c : Cmd) (s : State) : Host.Outcome State Fault Refusal := act s fun s =>
  (s.command .updBegin c)

/-- UPD_DATA (R470). -/
def execUpdData (c : Cmd) (s : State) : Host.Outcome State Fault Refusal := act s fun s =>
  (s.command .updData c)

/-- UPD_COMMIT (R471). -/
def execUpdCommit (c : Cmd) (s : State) : Host.Outcome State Fault Refusal := act s fun s =>
  (s.command .updCommit c)

/-- UPD_ABORT (R470). -/
def execUpdAbort (c : Cmd) (s : State) : Host.Outcome State Fault Refusal := act s fun s =>
  (s.command .updAbort c)

/-- UPD_CONFIRM (R475). -/
def execUpdConfirm (c : Cmd) (s : State) : Host.Outcome State Fault Refusal := act s fun s =>
  (s.command .updConfirm c)

/-- UPD_ROLLBACK (R477). -/
def execUpdRollback (c : Cmd) (s : State) : Host.Outcome State Fault Refusal := act s fun s =>
  (s.command .updRollback c)

/-- UPD_STATUS (R481). -/
def execUpdStatus (c : Cmd) (s : State) : Host.Outcome State Fault Refusal := act s fun s =>
  (s.command .updStatus c)

/-- BOOT_RESET (R460): where the command succeeds, the reset follows its completion within 10 ms. -/
def execBootReset (c : Cmd) (s : State) : Host.Outcome State Fault Refusal := act s fun s =>
  (s.command .bootReset c).bootDue

end Sys2Proof.Machine
end

