-- ==== Sys2Proof/Machine/Intake.lean ====
section
/-! DEFINITION. How commands come in: the taking of mailbox messages, the fetching of ring entries and management frames
(13 R388, R389, R399 to R402, 14 R411, R412, R499), and the delivery of their answers. -/
namespace Sys2Proof.Machine

/-- A command message as it arrived: its opcode number and the command. -/
structure Arrival where
  code : Nat
  cmd : Cmd

/-- OPCODE, TAG and LEN of a header, and words 1 to LEN (R388). -/
def arrivalOf (p : Path) (header : Word) (rest : List Word) (data : List Byte) (sigOk : Bool) : Arrival :=
  { code := wbits header 0 16
    cmd := { path := p, tag := BitVec.ofNat 8 (wbits header 16 8), words := rest.take (wbits header 24 4), data := data,
             sigOk := sigOk } }

/-- A command whose data carry a signature, a token or a sealed blob. -/
def needsCheck (op : Op) : Bool := decide (op = .keyImport) || decide (op = .dbgUnlock) || decide (op = .updBegin)

/-- The result of the cryptographic check of an arriving command is a free value (log entry 10). -/
def Dev.dataCheck (s : Dev) (op : Option Op) : Bool × Dev :=
  if op.any needsCheck then (let d := s.draw; (wbit d.1 0, d.2)) else (true, s)

/-- A firmware fault keeps a command from completing: INTERNAL, with its record, and nothing else changes (14 R499).
(DEDUCED: log entry 130.) -/
def Dev.internalFault (s : Dev) (a : Arrival) (code : Word) : Res :=
  ⟨some .internal, [], s.log (0x80FE + 0x100 * (a.code / 256 % 64))
    (leBytes 2 a.code ++ leBytes 1 (pathPort a.cmd.path) ++ leBytes 1 a.cmd.tag.toNat ++ leBytes 4 code.toNat)⟩

/-- What an arriving command does (R397, R499). (DESIGN CHOICE: log entry 3; DEDUCED: log entry 130.) -/
def Dev.runArrival (s : Dev) (a : Arrival) (op : Option Op) (fwFault : Option Word) : Res :=
  match op, fwFault with
  | none, _ => ⟨some .unknownOpcode, [], s.countOrder a.cmd.path 1⟩
  | some _, some w => s.internalFault a w
  | some o, none => s.take o a.cmd

/-- The class of a command event; an opcode that no table lists is BULK (11 R323). -/
def classOf (op : Option Op) : Nat := (op.map opClass).getD 4

/-- The first answer of a command on its path: a mailbox or management command that completes later is acknowledged with
ACCEPTED_ASYNC, and a ring command gets its one completion then (R390, R402, 14 R411). The answer to UPD_BEGIN waits for
the lock decision (17 R472). -/
def firstAnswer (p : Path) (op : Option Op) (r : Res) : Option (Rc × List Word) :=
  match r.code, p with
  | some e, _ => some (e, r.words)
  | none, .mbx _ => if op = some .updBegin then none else some (.acceptedAsync, [])
  | none, .mgmt => if op = some .updBegin then none else some (.acceptedAsync, [])
  | none, .site => if op = some .updBegin then none else some (.acceptedAsync, [])
  | none, _ => none

/-- A mailbox command acknowledged with ACCEPTED_ASYNC is owed its ASYNC_DONE (R395). -/
def Dev.owing (s : Dev) (c : Cmd) (e : Rc) : Dev :=
  match c.path with
  | .mbx ch => if e = .acceptedAsync then { s with mbx := { s.mbx with owed := s.mbx.owed ++ [(ch.val, c.tag)] } } else s
  | _ => s

/-- The epoch of an answer (R401). -/
def Dev.answerEpoch (s : Dev) (op : Option Op) (c : Cmd) (e : Rc) : Word :=
  match op with
  | some o => s.replyEpoch o c e
  | none => s.epoch

/-- The first answer as the event delivers it at its completion. -/
def Dev.dueOf (s : Dev) (op : Option Op) (c : Cmd) (r : Res) : Option Due :=
  (firstAnswer c.path op r).map fun a =>
    { path := c.path, tag := c.tag, code := a.1, words := a.2, epoch := s.answerEpoch op c a.1 }

/-- A command's event holds an entry of its class in an ordering domain until it completes (R402, 11 R323 to R327). A
command that waits for the return to RUN holds none. (DESIGN CHOICE: log entries 3, 21.) -/
def Dev.takeIn (s : Dev) (a : Arrival) (domain : Nat) (fwFault : Option Word) : Dev :=
  let op := opOfCode a.code
  let j := s.dataCheck op
  let a := { a with cmd := { a.cmd with sigOk := j.1 } }
  let r := j.2.runArrival a op fwFault
  if fwFault.isNone && op.any s.defers then r.st
  else
    let d := s.dueOf op a.cmd r
    let t := match d with | some x => r.st.owing a.cmd x.code | none => r.st
    t.admitIn ((s.poolFor (classOf op) true).getD 3)
      { cls := classOf op, domain := domain, source := 0, pool := 3, order := 0, at_ := 0, cmd := true, due := d }

/-! ### Mailboxes -/

/-- A channel that carries commands of the catalogue: its message goes from end A to firmware at end B (R383).
(DESIGN CHOICE: log entry 17.) -/
def cmdChan (ch : Nat) : Bool := ch ≤ 12 || ch == 15

/-- The peer's message is taken (R389). (DESIGN CHOICE: log entry 17.) -/
def Dev.mbxTaken (s : Dev) (ch : Nat) (b : Bool) : Dev := s.mboxMod ch (!b) fun e => { e with taken := true }

/-- A TAKE (R389): with nothing posted, or a message already held, ACK_ERR. Firmware that takes a command runs it; with no
entry free the message stays posted (11 R327). -/
def Dev.mbxTake (s : Dev) (m : Master) (ch : Fin 32) (data : List Byte) (fwFault : Option Word) : Dev :=
  match s.endOf ch.val m with
  | none => s.turnAway m
  | some b =>
    let e := s.mboxEnd ch.val (!b)
    if !e.posted then s.mboxMod ch.val b fun k => { k with ackErr := true }
    else if b && cmdChan ch.val then
      let a := arrivalOf (.mbx ch) (e.msg.getD 0 0) (e.msg.drop 1) data true
      if !s.hears (.mbx ch) || (s.poolFor (classOf (opOfCode a.code)) true).isNone then s
      else (s.mbxTaken ch.val b).takeIn a (288 + ch.val) fwFault
    else s.mbxTaken ch.val b

/-- MBX_TAKE (R389). -/
def execMbxTake (m : Master) (ch : Fin 32) (data : List Byte) (fwFault : Option Word) (s : State) :
    Host.Outcome State Fault Refusal := act s fun s =>
  (s.mbxTake m ch data fwFault)

/-! ### Command rings -/

/-- The entry at SQ_HEAD leaves the queue. -/
def Ring.fetched (k : Ring) : Ring := { k with sqHead := (k.sqHead % 2 ^ k.sqLog + 1) % 2 ^ k.sqLog }

/-- CR_FETCH (R399, R400, R402): the device fetches the entry at SQ_HEAD while the ring is enabled and has room. FENCE holds
it while an earlier command is in flight; a TAG in flight completes at once with TAG_BUSY. (DEDUCED: log entry 113.) -/
def execCrFetch (r : Fin 16) (entry : List Word) (data : List Byte) (fwFault : Option Word) (s : State) :
    Host.Outcome State Fault Refusal := act s fun s =>
  let k := s.ring r.val
  let hdr := entry.getD 0 0
  let a := arrivalOf (.ring r) hdr (entry.drop 1) data true
  let idx := k.sqHead % 2 ^ k.sqLog
  (if !k.en || !k.ready || !s.ifc.pcie || !s.hears (.ring r) then s
  else if !s.ringRoom k then s.throttle r.val
  else if wbit hdr 28 && !k.flight.isEmpty then s
  else if (k.byTag a.cmd.tag).isSome then
    ((s.ringMod r.val Ring.fetched).crComplete r.val idx a.cmd.tag .tagBusy 0 [] s.epoch).throttle r.val
  else if (s.poolFor (classOf (opOfCode a.code)) true).isNone then s
  else
    let n := k.flight.length + 1
    let t := s.ringMod r.val fun k => { k.fetched with
      flight := k.flight ++ [{ tag := a.cmd.tag, op := a.code, idx := idx, dueAt := some (s.tbs.mono + k.tmo * msU) }] }
    let t := t.pathCntMod (32 + r.val) fun p => { p with peak := max p.peak n }
    (t.takeIn a (272 + r.val) fwFault).throttle r.val)

/-! ### Management frames (14 R411, R412) -/

/-- A management frame that is dropped and counted. -/
def Dev.mgmtDrop (s : Dev) : Dev := { s with sw := { s.sw with mgmtBad := min (s.sw.mgmtBad + 1) 0xFFFFFFFF } }

/-- A management command runs, and its reply leaves; a tag is held until nothing follows. (DEDUCED: log entry 116.) -/
def Dev.mgmtRun (s : Dev) (f : MgmtIn) (a : Arrival) : Dev :=
  let op := opOfCode a.code
  let j := s.dataCheck op
  let a := { a with cmd := { a.cmd with sigOk := j.1 } }
  let busy : MgmtCmd := { hpf1 := f.hpf1, seq := f.seq, tag := a.cmd.tag }
  let s := { j.2 with sw := { j.2.sw with mgmtBusy := j.2.sw.mgmtBusy ++ [busy] } }
  let r := s.runArrival a op f.fwFault
  if f.fwFault.isNone && op.any s.defers then r.st
  else match s.dueOf op a.cmd r with
    | some d => r.st.deliver d
    | none => r.st

/-- MGMT_FRAME (R411, R412, 13 R396): a SITE frame without a validated SA or off the management VID, a wrong VERSION and a
short frame are dropped and counted; a SEQ answered within 1 s gets the stored reply again; a frame that finds no tag is
counted. -/
def execMgmtFrame (f : MgmtIn) (s : State) : Host.Outcome State Fault Refusal := act s fun s =>
  let p : Path := if f.hpf1 then .mgmt else .site
  let a := arrivalOf p f.header f.words f.data true
  (if !s.hears p then s
  else if !f.onMgmtVid || (!f.hpf1 && !f.validated) || f.version ≠ 1 || decide (f.len < 4) then s.mgmtDrop
  else match s.sw.replies.find? fun r => r.hpf1 == f.hpf1 && r.seq == f.seq && decide (s.tbs.mono ≤ r.at_ + secU) with
  | some r => s.answer r.code r.tag r.words s.epoch
  | none =>
    if 64 ≤ (s.sw.mgmtBusy.filter fun b => b.hpf1 == f.hpf1).length ∨ 1024 ≤ s.tagsUsed then
      { s with sw := { s.sw with noTag := min (s.sw.noTag + 1) 0xFFFFFFFF } }
    else s.mgmtRun f a)

/-! ### Commands that waited for the return to RUN (11 R339, R340) -/

/-- A command that waited runs, and its first answer is delivered. -/
def Dev.runWaiting (s : Dev) (op : Op) (c : Cmd) : Dev :=
  let r := s.handle op c
  match s.dueOf (some op) c r with
  | some d => (r.st.owing c d.code).deliver d
  | none => r.st

/-- Every command that waited, in order. (DESIGN CHOICE: log entry 16; DEDUCED: log entry 116.) -/
def Dev.runDeferred (s : Dev) : Dev :=
  s.blw.deferred.foldl (fun (s : Dev) (x : Op × Cmd) => s.runWaiting x.1 x.2) { s with blw := { s.blw with deferred := [] } }

end Sys2Proof.Machine
end

