-- ==== Sys2Proof/Machine/Epoch.lean ====
section
/-! DEFINITION. The rows of the compare units CMP0 to CMP4: the steps of 01 R25 around a boundary, the radio slots and their
stop windows, and the profile ticks (01 R21, R25, R39, R48, 02 R57, R58, 07 R205, 08 R230 to R241, 09 R256). -/
namespace Sys2Proof.Machine

/-! ### Before a boundary (01 R25, steps 1 to 3) -/

/-- Time goes on to an instant d before the next boundary. -/
def Dev.beforeBoundary (s : Dev) (d : Nat) : Dev := s.advanceTo (s.nextBoundary * epU - d)

/-- TXN_RECHECK (R25 step 1, R48). (DEDUCED: log entry 93.) -/
def execTxnRecheck (s : State) : Host.Outcome State Fault Refusal := act s fun s =>
  (if !s.tbs.en || s.tbs.rechecked then s
  else
    let s := s.beforeBoundary (2 * msU)
    let s := { s with tbs := { s.tbs with rechecked := true } }
    s.txn.committed.foldl (fun (s : Dev) (t : Comm) => if t.target = s.nextBoundary then s.txnRecheck t else s) s)

/-- EPOCH_CUTOFF (R25 step 3, R39). (DEDUCED: log entry 93.) -/
def execEpochCutoff (s : State) : Host.Outcome State Fault Refusal := act s fun s =>
  (if !s.tbs.en || s.tbs.cutoff then s
  else
    let s := s.beforeBoundary (250 * usU)
    { s with tbs := { s.tbs with cutoff := true } })

/-! ### Bugle's sampling (08 R229 to R241) -/

/-- The changeover to the next go generation, in the epoch after index M of the current one (R237). -/
def Dev.goChange (s : Dev) (e : Nat) : Dev :=
  let b := s.bgl
  if b.roll && decide (b.goBase + goM < e) then
    { s with bgl := { b with
      goGen := b.goGen + 1, goBase := b.goBase + goM, goIdx := 0, roll := false
      markGo := 0, markGen := (b.goGen + 1, b.markGen.2) } }
  else s

/-- Generation and index of the element after element i of the current generation (R231). -/
def Dev.goAfter (s : Dev) (i : Nat) : Nat × Nat := if i = goM then (s.bgl.goGen + 1, 1) else (s.bgl.goGen, i + 1)

/-- CHAIN (R232, R237, R238): the epoch lies in the generation and above the mark, and the island holds the pebbles of its
element and of the next one. -/
def Dev.chainOk (s : Dev) (e : Nat) : Bool :=
  let b := s.bgl
  let i := e - b.goBase
  b.goBuilt && decide (b.goBase < e) && decide (i ≤ goM) && (decide (i < goM) || b.roll)
    && decide ((if b.markGen.1 = b.goGen then b.markGo else 0) < i)

/-- GO_COND for epoch e, in bit order (R238). -/
def Dev.goConds (s : Dev) (e : Nat) : List Bool :=
  [s.bgl.hb == some (epoch32 e), !s.stopFleet, s.ref.level != 2, s.timeValid && !s.tbs.resync, s.orcHealthy,
   !s.gen.tamper, s.lifecycleOk, s.bgl.enable, s.chainOk e]

/-- The conditions of slot k, in listed order (R239). -/
def Dev.slotConds (s : Dev) (k : Nat) : List Bool :=
  let st := (s.rslot k).st
  [st = .active, st != .silent, s.resOk k, !(s.pch k).lag, s.posOk k, !s.stopSlots.getLsbD k,
   !(s.bport (portOf k)).fault]

/-- Bits of a list of flags, the first the lowest. -/
def bitsOf : List Bool → Nat
  | [] => 0
  | b :: bs => b2n b + 2 * bitsOf bs

/-- Bytes 0 to 39 of the go token of epoch e (R230). -/
def Dev.tokenHead (s : Dev) (e : Nat) (bitmap : Nat) : List Byte :=
  let b := s.bgl
  leBytes 1 1 ++ leBytes 1 (b2n b.testRoot + 2 * b2n b.roll) ++ leBytes 2 b.goGen ++ leBytes 4 (epoch32 e).toNat
    ++ leBytes 3 (e - b.goBase) ++ leBytes 2 b.stopGen ++ leBytes 3 b.stopIdx ++ leBytes 24 bitmap

/-- The go token of epoch e (R230, R231). -/
def Dev.goToken (s : Dev) (e : Nat) (bitmap : Nat) : List Byte :=
  let head := s.tokenHead e bitmap
  let i := e - s.bgl.goBase
  let n := s.goAfter i
  head ++ beBytes 16 (Config.cmac (tagKey n.1 n.2 (s.goElem n.1 n.2)) (ascii "PQGT" ++ head)).toNat ++ s.goElem s.bgl.goGen i

/-- The sampling for epoch e (R232, R238 to R241): GO_COND, the conditions of each slot, and the token with its bitmap or
none. A token reveals its element and moves the mark (R229). (DEDUCED: log entries 78, 94.) -/
def Dev.sampling (s : Dev) (e : Nat) : Dev :=
  let old := s
  let s := s.goChange e
  let conds := s.goConds e
  let issue := conds.all id && !s.bgl.noToken
  let sl := (List.range s.nSlots).map fun k => (k, s.slotConds k)
  let bitmap := sl.foldl (fun (m : Nat) (x : Nat × List Bool) => if x.2.all id then m + 2 ^ x.1 else m) 0
  let tok := if issue then s.goToken e bitmap else []
  let b := s.bgl
  let good := conds.headD false
  let i := e - b.goBase
  let fail := if good then 0 else b.hbFail + 1
  let s := { s with bgl := { b with
    goCond := BitVec.ofNat 9 (bitsOf conds)
    slotCond := sl.foldl (fun (t : Tab (BitVec 7)) (x : Nat × List Bool) => tset 0 t x.1 (BitVec.ofNat 7 (bitsOf x.2))) []
    bitmap := if issue then BitVec.ofNat 192 bitmap else 0
    beacons := ((if issue then some (BitVec.ofNat 192 bitmap) else none) :: b.beacons).take 4
    hb := none, hbFail := fail, hbGood := if good then b.hbGood + 1 else 0, token := tok
    goIdx := if issue then i else b.goIdx, markGo := if issue then i else b.markGo
    markGen := if issue then (b.goGen, b.markGen.2) else b.markGen
    unflushed := if issue then b.unflushed + 1 else b.unflushed } }
  let s := if fail = 3 then s.fleetStop 5 else s
  s.bglIrq old

/-- The beacon body of epoch e (09 R263, 04 R134), PORT and TX_OFS_NS still to be filled in for each port.
(DEDUCED: log entry 78.) -/
def Dev.freezeBeacon (s : Dev) (e : Nat) : Dev :=
  if s.rad.follower && !s.rad.promoteNext then { s with rad := { s.rad with beacon := [], nightNext := false } }
  else
    let f := s.takeFragment
    let frag := f.1.getD []
    let tok := s.bgl.token
    let nn := s.nightNext e
    let s := f.2
    { s with rad := { s.rad with
      nightNext := nn
      beacon := leBytes 1 2
        ++ leBytes 1 (b2n (!tok.isEmpty) + 2 * b2n f.1.isSome + 4 * b2n nn + 8 * b2n (s.rad.promoted || s.rad.promoteNext))
        ++ leBytes 4 (epoch32 e).toNat ++ leBytes 4 0 ++ leBytes 1 0 ++ leBytes 1 frag.length ++ tok ++ frag } }

/-- The fleet's services run: READY, with the supplies on. -/
def Dev.fleetUp (s : Dev) : Bool := s.gen.phase == .ready && !s.blw.off && !s.blw.backup

/-- BEACON_FREEZE (R25 step 2): Bugle samples and the content of the coming beacon is frozen; nothing is frozen in NIGHT (09
R287). A pending power change is checked again (11 R336). (DEDUCED: log entries 93, 95.) -/
def execBeaconFreeze (s : State) : Host.Outcome State Fault Refusal := act s fun s =>
  (if !s.tbs.en || s.tbs.frozen then s
  else
    let e := s.nextBoundary
    let s := (s.beforeBoundary msU).refreshTime
    let s := if s.fleetUp then s.pwrRecheck e else s
    let s :=
      if s.bgl.up && s.blw.st != .night then s.sampling e
      else { s with bgl := { s.bgl with beacons := (none :: s.bgl.beacons).take 4, bitmap := 0, token := [] } }
    let s :=
      if s.fleetUp && s.blw.st != .night then s.freezeBeacon e
      else { s with rad := { s.rad with beacon := [], nightNext := false } }
    { s with tbs := { s.tbs with frozen := true } })

/-! ### The boundary (01 R25 step 4) -/

/-- A boundary whose step 2 has not run has no beacon. (DEDUCED: log entry 95.) -/
def Dev.unfrozen (s : Dev) : Dev :=
  if s.tbs.frozen then s
  else { s with
    bgl := { s.bgl with beacons := (none :: s.bgl.beacons).take 4, bitmap := 0, token := [] }
    rad := { s.rad with beacon := [], nightNext := false } }

/-- GEN_EPOCH takes the full count b, RESYNC ends, STEPPED clears, and the steps of the next boundary lie ahead (R21, 02 R56,
R58). -/
def Dev.newEpoch (s : Dev) (b : Nat) : Dev :=
  let was := s.tbs.resync
  { s with
    gen := { s.gen with epochFull := b, slot := 0, tick := 0 }
    tbs := { s.tbs with
      resync := false, rechecked := false, frozen := false, cutoff := false, stepped := false
      slotsFired := 0, ticksFired := 0, winEnded := false } }.irqIf 3 was

/-- A STEER write that waits for this boundary applies (02 R53). -/
def Dev.applySteer (s : Dev) : Dev :=
  match s.tbs.steerNext with
  | some x =>
    if x.2 ≤ s.gen.epochFull then
      { s with
        tbs := { s.tbs with steer := x.1, steerNext := none }
        ref := { s.ref with steered := s.ref.steered && x.1 == s.tbs.steer } }
    else s
  | none => s

/-- A shadowed command applies (R39); one whose own checks fail now changes nothing, and a record names it.
(DESIGN CHOICE: log entry 8.) -/
def Dev.applyShadow (s : Dev) (x : Op × Cmd) : Dev :=
  if x.1 = .fixCfg then s.fixApply x.2
  else
    let r := s.runOp x.1 x.2
    if r.code.all rcAccepted then r.st
    else s.log (fwCode 1 1 0x11) (leBytes 2 (opInfo x.1).code ++ leBytes 2 (r.code.elim 0 rcCode))

/-- Every shadowed field applies, in order of arrival; writes after the cut-off wait for the next boundary.
(DESIGN CHOICE: log entry 8.) -/
def Dev.applyShadows (s : Dev) : Dev :=
  s.shadow.foldl Dev.applyShadow { s with shadow := s.shadowNext, shadowNext := [] }

/-- What follows the return to RUN (11 R337 step 7, R338, 15 R437): the tamper response that NIGHT delayed, or the commands
that waited. -/
def Dev.afterReturn (s : Dev) : Dev := if s.sec.wakeHold then s.tamperResponse else s.runDeferred

/-- The power states at this boundary (11 R336 to R340). -/
def Dev.powerAtBoundary (s : Dev) : Dev :=
  let p := s.pwrBoundary s.gen.epochFull
  if p.2 then p.1.afterReturn else p.1

/-- What the services of the fleet do at a boundary: Orchard (06 R169, R170), fixes (05 R163), lanes (03 R98, R99), and the
corrections of an epoch without a measurement instant (04 R124). -/
def Dev.servicesAtBoundary (s : Dev) (mon : List LaneMon) : Dev :=
  let s := s.resched
  let s := if s.blw.st = .run then s.orcBoundary else s
  let s := s.fixBoundary
  let s := if s.blw.st = .night then s else s.laneMonitors mon
  if s.blw.st ≠ .night ∧ !s.measDue then s.emitAll s.gen.epochFull [] else s

/-- EPOCH_BOUNDARY (R25 step 4, R43): shadowed fields first, then the transactions of this epoch in order of commit. -/
def execEpochBoundary (mon : List LaneMon) (s : State) : Host.Outcome State Fault Refusal := act s fun s =>
  (if !s.tbs.en then s
  else
    let b := s.nextBoundary
    let s := ((s.advanceTo (b * epU)).unfrozen.newEpoch b).applySteer
    let s := s.radBoundary
    if s.fleetUp then (((s.applyShadows.txnBoundary b).powerAtBoundary).servicesAtBoundary mon).refreshTime else s)

/-! ### Radio slots (01 R21, 09 R256, 08 R235) -/

/-- The ports that send bursts: every fitted one; a follower sends no frame (09 R283).
(DEDUCED: log entries 51, 89.) -/
def Dev.burstPorts (s : Dev) : List Nat :=
  if s.rad.follower then [] else (List.range 8).filter fun p => s.fitted p

/-- A burst leaves on port p (R233, R235, R236). (DEDUCED: log entry 96.) -/
def Dev.sendBurst (fresh : Bool) (s : Dev) (p : Nat) : Dev :=
  let pay := if fresh then s.burstPayload p else tget [] s.bgl.burst p
  let s := { s with bgl := { s.bgl with burst := tset [] s.bgl.burst p pay } }
  (s.bportMod p fun b => { b with waiting := true, quiet := 0 }).burstRecord p

/-- The latency of a demand whose first burst leaves now, µs (R245, 16 R457). -/
def Dev.burstLatency (s : Dev) (d : Nat) : Dev :=
  let l := min ((s.tbs.mono - d) / usU) 65535
  { s with bgl := { s.bgl with demandAt := none, latLast := l, latMax := max s.bgl.latMax l } }.sample 3 0 l

/-- The machines that the stops cover enter STOPPING (07 R210). -/
def Dev.stopCovered (s : Dev) : Dev :=
  (List.range s.nSlots).foldl (fun s k => if s.slotStopped k then s.pchMod k Prf.stop else s) s

/-- The stop window of a slot (R235): a demand goes out at the first boundary at least 300 µs after it; every later window
carries a burst while a stop is in force. An island with a fault sends none (R245), nor does NIGHT, nor the instant of the return from it (11 R339).
(DEDUCED: log entries 51, 96.) -/
def Dev.stopWindow (s : Dev) : Dev :=
  let b := s.bgl
  let due := b.demandAt.any fun d => decide (d + 300 * usU ≤ s.tbs.mono)
  let on := b.up && !b.fault && !b.stops.isEmpty && s.blw.st != .night && s.blw.backAt != some s.tbs.mono
    && (b.bursting || due)
  let s := { s with bgl := { s.bgl with bursting := on } }
  if on then
    let fresh := due || b.demandAt.isNone
    let s := if due then s.burstLatency (b.demandAt.getD 0) else s
    let s := s.burstPorts.foldl (Dev.sendBurst fresh) s
    if fresh then s.stopCovered else s
  else s

/-- SLOT_START (R256 step 1): the stop window of the slot opens, and the air slot before it has ended (09 R273, R275, R284).
(DEDUCED: log entries 19, 93.) -/
def execSlotStart (s : State) : Host.Outcome State Fault Refusal := act s fun s =>
  (if !s.tbs.en || s.tbs.resync || decide (40 ≤ s.tbs.slotsFired) then s
  else
    let k := s.tbs.slotsFired
    let s := s.advanceTo (s.gen.epochFull * epU + k * slotU)
    let s := { s with
      gen := { s.gen with slot := k }, tbs := { s.tbs with slotsFired := k + 1, winEnded := false } }
    let s := s.stopWindow
    if s.fleetUp then s.airEnd.followerEnd else s)

/-- STOP_WINDOW_END (R256 step 3): 200 µs after the slot's start its frame is strobed. -/
def execStopWindowEnd (s : State) : Host.Outcome State Fault Refusal := act s fun s =>
  (if !s.tbs.en || s.tbs.resync || s.tbs.winEnded || decide (s.tbs.slotsFired = 0) then s
  else
    let s := s.advanceTo (s.slotStart + 200 * usU)
    let s := { s with tbs := { s.tbs with winEnded := true } }
    if s.fleetUp then s.slotFrames else s)

/-! ### Profile ticks (07 R205, R216) -/

/-- Tick j of every profile channel, and at tick 60 their windows; the FLEET domain runs in RUN alone (11 R333). -/
def Dev.profileTick (s : Dev) (j : Nat) : Dev :=
  if s.blw.st = .run then
    let s := (List.range s.nSlots).foldl (Dev.tickOne j) s
    if j = 60 then (List.range s.nSlots).foldl Dev.windowOne s else s
  else s

/-- What a tick of the timebase does (01 R21). -/
def Dev.tick (s : Dev) (u : TickIn) : Dev :=
  if !s.tbs.en || s.tbs.resync || decide (100 ≤ s.tbs.ticksFired) then s
  else
    let j := s.tbs.ticksFired
    let s := s.advanceTo (s.gen.epochFull * epU + j * msU)
    let s := { s with gen := { s.gen with tick := j }, tbs := { s.tbs with ticksFired := j + 1 } }
    if s.fleetUp then ((s.profileTick j).gnssTick j).bellowsTick u else s

/-- PROFILE_TICK (R205): the lock decision of an update (17 R472) and a reset that a BOOT_RESET asked for (17 R460) fall due
with it whether or not the timebase runs. (DEDUCED: log entries 19, 93.) -/
def execProfileTick (u : TickIn) (s : State) : Host.Outcome State Fault Refusal := act s fun s =>
  (let s := if s.upd.contend.isEmpty then s else s.updDecide
  if s.upd.bootKind.isSome then s.bootDue else s.tick u)

end Sys2Proof.Machine
end

