-- ==== Sys2Proof/Machine/Registers.lean ====
section
/-! DEFINITION. The register maps: writes to registers that have no row of their own (00_scope R9, R497, 01_architecture
R39, 12_host R356), reads as SPIH sees them, and the SPIH transfers (12 R367, R368). A wide register is written and read
word by word. -/
namespace Sys2Proof.Machine

/-- A wide value with its word i replaced. -/
def setWord (v i : Nat) (w : Word) : Nat := v % 2 ^ (32 * i) + 2 ^ (32 * i) * w.toNat + 2 ^ (32 * (i + 1)) * (v / 2 ^ (32 * (i + 1)))

/-- Word i of a wide value. -/
def wordAt (v i : Nat) : Word := word (v / 2 ^ (32 * i))

/-! ### Writes -/

/-- A write to the register of a queue at its base + r (01 R33 to R38); RO registers ignore it. -/
def Dev.queueWrite (s : Dev) (q : QId) (r : Nat) (v : Word) : Dev :=
  if r = 0 then s.onQueue q (fun q => q.w1c v) fun _ k => k.w1c v
  else if r = 4 then s.onQueue q (fun q => q.setWm (wbits v 0 16) (wbits v 16 16)) fun d k => k.setWm d (wbits v 0 16) (wbits v 16 16)
  else if r = 8 then
    let s := if wbit v 0 then s.onQueue q (fun q => q.dropPacket) fun _ k => k else s
    if wbit v 1 then s.onQueue q (fun q => q.clrCount) fun _ k => { k with crossings := 0, drops := 0 } else s
  else s

/-- A write to the raw queue registers of radio port p (09 R288). -/
def Dev.radQueueWrite (s : Dev) (p r : Nat) (v : Word) : Dev :=
  if s.nPorts ≤ p then s
  else if r < 0x20 then s.queueWrite (.rxq (Fin.ofNat 8 p)) r v
  else if 0x80 ≤ r ∧ r < 0xA0 then s.queueWrite (.txts (Fin.ofNat 8 p)) (r - 0x80) v
  else s

/-- A write to the GEN block (01, 12). (DEDUCED: log entry 111.) -/
def Dev.genWrite (s : Dev) (a : Nat) (v : Word) : Dev :=
  let g := s.gen
  if a = 0x10 then
    { s with gen := { g with
      ue := g.ue && !wbit v 1, cfgReject := g.cfgReject && !wbit v 2, txnAbort := g.txnAbort && !wbit v 3 } }
  else if a = 0x40 then { s with gen := { g with irqStatus := g.irqStatus &&& ~~~(v.setWidth 12) } }
  else if a = 0x44 then { s with gen := { g with irqMask := v.setWidth 12 } }
  else if 0x200 ≤ a ∧ a < 0x260 ∧ a % 8 = 4 ∧ wbit v 31 then s.rateMonMod ((a - 0x200) / 8) fun r => { r with minRatio := 0xFFFF }
  else if 0x8000 ≤ a ∧ a < 0x8800 then s.radQueueWrite ((a - 0x8000) / 0x100) (a % 0x100) v
  else s

/-- W1C of the flags of MBX_STATUS (13). -/
def MEnd.w1c (e : MEnd) (v : Word) : MEnd :=
  { e with
    crossedSeen := e.crossedSeen && !wbit v 5, reject := e.reject && !wbit v 6, timeout := e.timeout && !wbit v 7
    late := e.late && !wbit v 8, ackErr := e.ackErr && !wbit v 9, cfgErr := e.cfgErr && !wbit v 10 }

/-- A write of MBX_CFG: other timeouts than 1 to 10,000 ms are refused with CFG_ERR (13). -/
def MEnd.config (e : MEnd) (v : Word) : MEnd :=
  let t := wbits v 0 14
  if t = 0 ∨ 10000 < t then { e with cfgErr := true } else { e with tmo := t }

/-- A write by end b of a channel to its register r (13 R384, R386 to R394). A TAKE without data buffers stands for the
host's own. -/
def Dev.mbxWrite (s : Dev) (m : Master) (ch : Nat) (b : Bool) (r : Nat) (v : Word) : Dev :=
  let e := s.mboxEnd ch b
  if r = 0 then s.mbxHeader ch b v
  else if r < 0x40 then
    if e.full then s.mbxReject ch b else s.mboxMod ch b fun e => { e with msg := e.msg.set (r / 4) v }
  else if r = 0x40 then s
  else if r < 0x80 then
    if (s.mboxEnd ch !b).held then s.mboxMod ch (!b) fun e => { e with msg := e.msg.set ((r - 0x40) / 4) v } else s
  else if r = 0x80 then if wbit v 31 then s.mbxFree ch b else s
  else if r = 0x84 then s.mbxAck ch b v
  else if r = 0x88 then s.dbSet ch (!b) (v &&& 0xFFFFFFF8)
  else if r = 0x8C then s.mboxMod ch b fun e => { e with dbIn := e.dbIn &&& ~~~v }
  else if r = 0x90 then s.mboxMod ch b fun e => { e with dbMask := v }
  else if r = 0x94 then s.mboxMod ch b fun e => e.w1c v
  else if r = 0x98 then (if wbit v 0 then s.mbxTake m (Fin.ofNat 32 ch) [] none else s).mbxWait ch b (wbit v 1)
  else if r = 0x9C then s.mboxMod ch b fun e => e.config v
  else if 8 ≤ ch ∧ ch ≤ 11 then s.xferWrite ch (r - 0xA0) (leBytes 4 v.toNat)
  else s

/-- A write of PPS output n, word i (02 R66). -/
def Dev.ppsOutWrite (s : Dev) (n i : Nat) (v : Word) : Dev :=
  let p := tget {} s.tbs.ppsNext n
  if i = 0 then
    if 999999999 < wbits v 0 30 then s.cfgReject else s.ppsWrite n { p with offset := wbits v 0 30 }
  else
    let w := wbits v 0 20
    if w = 0 ∨ 999999 < w then s.cfgReject
    else s.ppsWrite n { p with width := w, enable := wbit v 20, polarity := wbit v 21, gate := wbit v 22 }

/-- A HALTED field of launch gate n: a change while the gate is armed is refused with CFG_ERR (02 R69). -/
def Dev.lgSet (s : Dev) (n : Nat) (f : Lg → Lg) : Dev :=
  if f (s.lgate n) = s.lgate n then s
  else if (s.lgate n).armed then s.lgErr n
  else s.lgateMod n f

/-- A write of LG_PERIOD, word i (02 R69): more than 1,000 s is out of range; arming judges less than 1 µs.
(DEDUCED: log entry 31.) -/
def Dev.lgPeriod (s : Dev) (n i : Nat) (v : Word) : Dev :=
  let p := setWord (s.lgate n).period i v % 2 ^ 40
  if !(s.lgate n).armed && decide (10 ^ 12 < p) then s.cfgReject else s.lgSet n fun g => { g with period := p }

/-- A write to a launch gate's register r (02 R68 to R70). -/
def Dev.lgWrite (s : Dev) (n r : Nat) (v : Word) : Dev :=
  if r = 0 then s.lgCtrl n v
  else if r = 0x08 then s.lgSet n fun g => { g with startNs := wbits v 0 30 }
  else if r = 0x0C then s.lgSet n fun g => { g with startSec := setWord g.startSec 0 v }
  else if r = 0x10 then s.lgSet n fun g => { g with startSec := setWord g.startSec 1 (word (wbits v 0 16)) }
  else if r = 0x18 then s.lgPeriod n 0 v
  else if r = 0x1C then s.lgPeriod n 1 v
  else if r = 0x20 then s.lgSet n fun g => { g with width := wbits v 0 30 }
  else if r = 0x24 then
    s.lgateMod n fun g => { g with late := g.late && !wbit v 1, stepHit := g.stepHit && !wbit v 2, cfgErr := g.cfgErr && !wbit v 3 }
  else s

/-- A write to a capture's register r (02 R71). -/
def Dev.capWrite (s : Dev) (n r : Nat) (v : Word) : Dev :=
  if r = 0 then s.captMod n fun c => { c with edge := wbits v 0 2, filter := wbit v 2 }
  else if 0x10 ≤ r ∧ r < 0x30 then s.queueWrite (.cap (Fin.ofNat 16 n)) (r - 0x10) v
  else s

/-- A write of the low word of TBS_HOLD (02 R62). -/
def Dev.holdWrite (s : Dev) (v : Word) : Dev :=
  let l := wbits v 16 10
  if l = 0 ∨ 1000 < l then s.cfgReject
  else { s with tbs := { s.tbs with driftPpb := wbits v 0 16, limitUs := l } }

/-- A write to the block at 0x4_0000 (02); a is the offset within it. (DEDUCED: log entry 47.) -/
def Dev.tbsWrite (s : Dev) (m : Master) (a : Nat) (v : Word) : Dev :=
  let t := s.tbs
  if a = 0 then s.tbsCtrl m v
  else if a = 4 then { s with tbs := { t with adjReject := t.adjReject && !wbit v 6, incrReject := t.incrReject && !wbit v 10 } }
  else if a = 0x20 then if s.isAgent m then { s with tbs := { t with incrLo := v } } else s.adjRefuse 4
  else if a = 0x24 then s.setIncr m (t.incrLo.toNat + 2 ^ 32 * v.toNat)
  else if a = 0x30 then if s.isAgent m then { s with tbs := { t with adjLo := v } } else s.adjRefuse 4
  else if a = 0x34 then s.adjust m (signed 64 (t.adjLo.toNat + 2 ^ 32 * v.toNat))
  else if a = 0x38 then s.syncWrite m v
  else if a = 0x3C then s.holdWrite v
  else if a = 0x40 then { s with tbs := { t with drift32Ppb := wbits v 0 20 } }
  else if 0x48 ≤ a ∧ a < 0x58 then s.ppsOutWrite ((a - 0x48) / 8) (a / 4 % 2) v
  else if 0x1000 ≤ a ∧ a < 0x1400 then s.lgWrite ((a - 0x1000) / 0x40) (a % 0x40) v
  else if 0x2000 ≤ a ∧ a < 0x2400 then s.capWrite ((a - 0x2000) / 0x40) (a % 0x40) v
  else s

/-- A write of BLW_INPUT (11 R345): an SOC_PCT above 100 is ignored. -/
def Dev.blwInput (s : Dev) (v : Word) : Dev :=
  let b := s.blw
  { s with blw := { b with
    pIn := wbits v 0 16, socPct := if wbits v 16 7 ≤ 100 then wbits v 16 7 else b.socPct, fresh := b.fresh || wbit v 31 } }

/-- A write to the TRC block (11 R332); a is the offset within it. -/
def Dev.trcWrite (s : Dev) (a : Nat) (v : Word) : Dev :=
  if a = 0 then
    { s with sch := { s.sch with
      trcEn := wbit v 0, trcMask := BitVec.ofNat 5 (wbits v 1 5), trcFreeze := wbit v 6, trcDetail := wbit v 7
      domLo := wbits v 8 12, domHi := wbits v 20 12 } }
  else if 0x10 ≤ a ∧ a < 0x30 then s.queueWrite .trc (a - 0x10) v
  else s

/-- A HALTED field of command ring r: a change while EN = 1 is ignored with CFG_REJECT (01 R39). -/
def Dev.crSet (s : Dev) (r : Nat) (f : Ring → Ring) : Dev :=
  if f (s.ring r) = s.ring r then s else if (s.ring r).en then s.cfgReject else s.ringMove r f

/-- A write to register o of command ring r (13 R398 to R405). -/
def Dev.crWrite (s : Dev) (r o : Nat) (v : Word) : Dev :=
  if o = 0 then s.crSet r fun k => { k with sqBase := setWord k.sqBase 0 (v &&& 0xFFFFFFC0) }
  else if o = 4 then s.crSet r fun k => { k with sqBase := setWord k.sqBase 1 v }
  else if o = 8 then s.crSet r fun k => { k with cqBase := setWord k.cqBase 0 (v &&& 0xFFFFFFF0) }
  else if o = 0x0C then s.crSet r fun k => { k with cqBase := setWord k.cqBase 1 v }
  else if o = 0x10 then s.crSet r fun k => { k with sqLog := wbits v 0 4, cqLog := wbits v 8 4 }
  else if o = 0x14 then s.crTail r v
  else if o = 0x1C then s.crHead r v
  else if o = 0x24 then s.crCtrl r v
  else if o = 0x28 then s.ringMod r fun k => { k with err := k.err && !wbit v 1 }
  else if 0x2C ≤ o then s.queueWrite (.cr (Fin.ofNat 16 r)) (o - 0x2C) v
  else s

/-- A write to MSI-X entry k, word i (12 R354, R360, log entry 25): word 3 is Vector Control with its mask in bit 0. -/
def Dev.msixWrite (s : Dev) (k i : Nat) (v : Word) : Dev :=
  if i = 3 then s.msixMask k (wbit v 0)
  else { s with gen := { s.gen with msixTab := tset 0 s.gen.msixTab (4 * k + i) v } }

/-- A HALTED field of network ring r (01 R39). -/
def Dev.nqSet (s : Dev) (r : Nat) (f : Nq → Nq) : Dev :=
  if f (s.nq r) = s.nq r then s else if (s.nq r).en then s.cfgReject else s.nqMove r f

/-- A write to register o of network ring r (12 R361 to R366). -/
def Dev.nqWrite (s : Dev) (r o : Nat) (v : Word) : Dev :=
  if o = 0 then s.nqSet r fun n => { n with base := setWord n.base 0 (v &&& 0xFFFFFFE0) }
  else if o = 4 then s.nqSet r fun n => { n with base := setWord n.base 1 v }
  else if o = 8 then s.nqSet r fun n => { n with log2 := wbits v 0 4 }
  else if o = 0x10 then s.nqTail r v
  else if o = 0x14 then s.nqCtrl r v
  else if 0x20 ≤ o then s.queueWrite (.nq (Fin.ofNat 16 r)) (o - 0x20) v
  else s

/-- A write to PF1 BAR0 (12): the network rings and the MSI-X table. (DEDUCED: log entry 35.) -/
def Dev.pf1Write (s : Dev) (a : Nat) (v : Word) : Dev :=
  if a < 0x400 then s.nqWrite (a / 0x40) (a % 0x40) v
  else if 0x3000 ≤ a ∧ a < 0x3100 then s.msixWrite (64 + (a - 0x3000) / 16) (a / 4 % 4) v
  else s

/-- Number of the mailbox channel an offset lies in. -/
def chanOf (a : Nat) : Option Nat := if 0x10000 ≤ a ∧ a < 0x14000 then some ((a - 0x10000) / 0x200) else none

/-- A register write at an offset (00 R497, 12 R356): offsets that no block defines, and RO registers, ignore it. PF1's
offsets are its own. (DEDUCED: log entry 35.) -/
def Dev.regWrite (s : Dev) (m : Master) (a : Nat) (v : Word) : Dev :=
  if a % 4 ≠ 0 ∨ s.blw.off ∨ s.blw.backup then s
  else if m = .hpf1 then s.pf1Write a v
  else match chanOf a with
  | some ch =>
    (match s.endOf ch m with
     | some b => s.mbxWrite m ch b (a % 0x200) v
     | none => s.turnAway m)
  | none =>
    if !s.reaches m then s.turnAway m
    else if a < 0x10000 then s.genWrite a v
    else if 0x30000 ≤ a ∧ a < 0x30400 then s.crWrite ((a - 0x30000) / 0x40) (a % 0x40) v
    else if 0x40000 ≤ a ∧ a < 0x50000 then s.tbsWrite m (a - 0x40000) v
    else if a = 0x50008 then s.cursorWrite (some v) none
    else if a = 0x5000C then s.cursorWrite none (some v)
    else if a = 0x70010 then s.blwInput v
    else if 0x80000 ≤ a ∧ a < 0x80040 then s.trcWrite (a - 0x80000) v
    else if 0xF0000 ≤ a ∧ a < 0xF0300 then s.msixWrite ((a - 0xF0000) / 16) (a / 4 % 4) v
    else s

/-- REGISTER_WRITE (00 R497). (DEDUCED: log entry 33.) -/
def execRegisterWrite (m : Master) (off : BitVec 20) (v : Word) (s : State) : Host.Outcome State Fault Refusal := act s fun s =>
  (s.regWrite m off.toNat v)

/-! ### Reads -/

/-- The registers of a queue at its base + r. -/
def Queue.reg {α : Type} (q : Queue α) (r : Nat) : Word :=
  if r = 0 then q.stat
  else if r = 4 then word (q.hi + 2 ^ 16 * q.lo)
  else if r = 0x0C then word q.crossings
  else if r = 0x10 then word q.drops
  else 0

/-- The word that a reading row leaves in the reply, and its state. -/
def readBy (t : Dev) : Word × Dev := (t.reply.words.headD 0, t)

/-- GEN_STATUS (01). -/
def Dev.genStatus (s : Dev) : Word :=
  let g := s.gen
  word (b2n g.ledgerFault + 2 * b2n g.ue + 4 * b2n g.cfgReject + 8 * b2n g.txnAbort + 16 * b2n g.tamper + 2 ^ 8 * g.ueRegion)

/-- GEN_BOOT (17 R462). -/
def Dev.genBoot (s : Dev) : Nat :=
  phaseCode s.gen.phase + 2 ^ 4 * s.bankBits + 2 ^ 8 * s.gen.cause + 2 ^ 11 * (s.upd.trialResets % 4) + 2 ^ 16 * (s.trialLeft % 2 ^ 16)
    + 2 ^ 32 * s.runVersion.toNat

/-- GEN_SUPPLY (18). -/
def Dev.genSupply (s : Dev) : Nat :=
  (List.range 5).foldl (fun v i => v + 2 ^ (12 * i) * (s.gen.supply.getD i 0 % 2 ^ 12)) 0
    + 2 ^ 60 * b2n s.gen.vbatLow + 2 ^ 61 * b2n s.gen.refclkOk

/-- GEN_RATEn or GEN_RATEMINn (01 R18). -/
def RateMon.reg (r : RateMon) (low : Bool) : Word :=
  if low then
    word (r.ratio.toNat + 2 ^ 16 * (r.vdom % 2 ^ 10) + 2 ^ 26 * (match r.pstate with | .off => 0 | .retained => 1 | .running => 2)
      + 2 ^ 31 * b2n r.valid)
  else word r.minRatio.toNat

/-- A word of the GEN block that a read does not change. (DEDUCED: log entry 111.) -/
def Dev.genWord (s : Dev) (a : Nat) : Word :=
  let g := s.gen
  if a < 0x10 then wordAt (g.part + 2 ^ 16 * g.stepping.toNat + 2 ^ 64 * g.deviceId.toNat) (a / 4)
  else if a = 0x10 then s.genStatus
  else if a = 0x20 ∨ a = 0x24 then wordAt s.genBoot (a / 4 % 2)
  else if a = 0x40 then g.irqStatus.setWidth 32
  else if a = 0x44 then g.irqMask.setWidth 32
  else if a = 0x60 ∨ a = 0x64 then wordAt s.genSupply (a / 4 % 2)
  else if 0x200 ≤ a ∧ a < 0x260 then (s.rateMon ((a - 0x200) / 8)).reg (a % 8 == 0)
  else if a = 0x300 then word (g.ledgerPool + 2 ^ 8 * b2n g.ledgerFault)
  else if a = 0x304 then g.sweeps
  else if 0x400 ≤ a ∧ a < 0x450 then
    let n := (a - 0x400) / 8
    word (if a % 8 = 0 then poolTotal n else if n = 8 then s.bgl.goIdx else if n = 9 then s.bgl.stopIdx else g.sums.getD n 0)
  else 0

/-- A read of the raw queue registers of radio port p (09 R288). (DEDUCED: log entry 34.) -/
def Dev.radQueueRead (s : Dev) (m : Master) (p r : Nat) : Word × Dev :=
  if s.nPorts ≤ p then (0, s)
  else if r < 0x20 then ((s.rport p).rxq.reg r, s)
  else if r < 0x40 then readBy (s.rxqDataRead m (Fin.ofNat 8 p) (Fin.ofNat 9 ((r - 0x20) / 4)))
  else if 0x80 ≤ r ∧ r < 0xA0 then ((s.rport p).txts.reg (r - 0x80), s)
  else if 0xA0 ≤ r ∧ r < 0xC0 then readBy (s.txtsDataRead m (Fin.ofNat 8 p) (Fin.ofNat 9 ((r - 0xA0) / 4)))
  else (0, s)

/-- A read of the GEN block. -/
def Dev.genRead (s : Dev) (m : Master) (a : Nat) : Word × Dev :=
  if a = 0x18 ∨ a = 0x1C then readBy (s.genEpochRead m (Fin.ofNat 3 (a / 4 % 2)))
  else if 0x8000 ≤ a ∧ a < 0x8800 then s.radQueueRead m ((a - 0x8000) / 0x100) (a % 0x100)
  else (s.genWord a, s)

/-- MBX_STATUS as end b reads it (13). -/
def Dev.mbxStatus (s : Dev) (ch : Nat) (b : Bool) : Word :=
  let e := s.mboxEnd ch b
  let p := s.mboxEnd ch (!b)
  let own := masterKey (s.endpoint ch b)
  let peer := masterKey (s.endpoint ch (!b))
  word (b2n e.full + 2 * b2n e.taken + 4 * b2n p.posted + 8 * b2n p.held + 16 * b2n (s.crossed ch) + 32 * b2n e.crossedSeen
    + 64 * b2n e.reject + 128 * b2n e.timeout + 256 * b2n e.late + 512 * b2n e.ackErr + 1024 * b2n e.cfgErr
    + 2048 * b2n (own < peer) + 2 ^ 16 * peer + 2 ^ 20 * pathRank (.mbx (Fin.ofNat 32 ch)))

/-- A read by end b of register r of a channel (13 R384). What DB_OUT reads as is not stated: a free value.
(DEDUCED: log entries 27, 28.) -/
def Dev.mbxRead (s : Dev) (ch : Nat) (b : Bool) (r : Nat) : Word × Dev :=
  let e := s.mboxEnd ch b
  let p := s.mboxEnd ch (!b)
  if r < 0x40 then (e.msg.getD (r / 4) 0, s)
  else if r = 0x40 then (if p.full then p.msg.getD 0 0 else 0, s)
  else if r < 0x80 then (p.msg.getD ((r - 0x40) / 4) 0, s)
  else if r = 0x80 then (e.ack, s)
  else if r = 0x88 then (let d := s.draw; (d.1 &&& 0xFFFFFFF8, d.2))
  else if r = 0x8C then (e.dbIn, s)
  else if r = 0x90 then (e.dbMask, s)
  else if r = 0x94 then (s.mbxStatus ch b, s)
  else if r = 0x98 then (word (2 * b2n e.waiting), s)
  else if r = 0x9C then (word e.tmo, s)
  else if 0xA0 ≤ r ∧ 8 ≤ ch ∧ ch ≤ 11 then
    (word (leNat ((List.range 4).map fun i => s.xferByte ch (r - 0xA0 + i))), s)
  else (0, s)

/-- TBS_STATUS (02). -/
def Dev.tbsStatus (s : Dev) : Word :=
  let t := s.tbs
  word (b2n t.en + 2 * b2n s.timeValid + 4 * b2n s.holdover + 8 * b2n t.on32k + 16 * b2n s.goActive + 32 * b2n t.resync
    + 64 * b2n t.adjReject + 128 * t.adjReason + 1024 * b2n t.incrReject + 2048 * b2n t.stepped)

/-- TBS_PPSOn as last written (02 R66). -/
def PpsOut.reg (p : PpsOut) : Nat :=
  p.offset + 2 ^ 32 * p.width + 2 ^ 52 * b2n p.enable + 2 ^ 53 * b2n p.polarity + 2 ^ 54 * b2n p.gate

/-- LG_STATUS (02 R68 to R70). -/
def Lg.status (g : Lg) : Word :=
  word (b2n g.armed + 2 * b2n g.late + 4 * b2n g.stepHit + 8 * b2n g.cfgErr + 2 ^ 16 * g.fired.toNat)

/-- A read of a launch gate's register r. What ARM reads as is not stated: a free value. (DEDUCED: log entry 27.) -/
def Dev.lgRead (s : Dev) (n r : Nat) : Word × Dev :=
  let g := s.lgate n
  if r = 0 then (let d := s.draw; (word (wbits d.1 0 1 + 4 * b2n g.periodic + 8 * b2n g.polarity), d.2))
  else if r = 0x08 then (word g.startNs, s)
  else if r = 0x0C ∨ r = 0x10 then (wordAt g.startSec ((r - 0x0C) / 4), s)
  else if r = 0x18 ∨ r = 0x1C then (wordAt g.period ((r - 0x18) / 4), s)
  else if r = 0x20 then (word g.width, s)
  else if r = 0x24 then (g.status, s)
  else (0, s)

/-- A read of a capture's register r. -/
def Dev.capRead (s : Dev) (m : Master) (n r : Nat) : Word × Dev :=
  let c := s.capt n
  if r = 0 then (word (c.edge + 4 * b2n c.filter), s)
  else if 0x10 ≤ r ∧ r < 0x30 then (c.q.reg (r - 0x10), s)
  else if 0x30 ≤ r then readBy (s.capDataRead m (Fin.ofNat 16 n) (Fin.ofNat 5 ((r - 0x30) / 4)))
  else (0, s)

/-- A word of the TBS registers that a read does not change; a is the offset in the block. -/
def Dev.tbsWord (s : Dev) (a : Nat) : Word :=
  let t := s.tbs
  if a = 0 then word (b2n t.en + 2 * b2n t.refsel + 4 * t.steer)
  else if a = 4 then s.tbsStatus
  else if a = 0x20 ∨ a = 0x24 then wordAt t.incr (a / 4 % 2)
  else if a = 0x28 ∨ a = 0x2C then wordAt t.incr32 (a / 4 % 2)
  else if a = 0x3C then word (t.driftPpb + 2 ^ 16 * t.limitUs)
  else if a = 0x40 then word t.drift32Ppb
  else if a = 0x44 then word s.errNs
  else if 0x48 ≤ a ∧ a < 0x58 then wordAt (tget {} t.ppsNext ((a - 0x48) / 8)).reg (a / 4 % 2)
  else 0

/-- A read of the block at 0x4_0000. -/
def Dev.tbsRead (s : Dev) (m : Master) (a : Nat) : Word × Dev :=
  if 0x10 ≤ a ∧ a < 0x20 then readBy (s.tbsTimeRead m (Fin.ofNat 5 ((a - 0x10) / 4)))
  else if 0x60 ≤ a ∧ a < 0x80 then readBy (s.tbsPpsiRead m (Fin.ofNat 2 ((a - 0x60) / 16)) (Fin.ofNat 5 (a / 4 % 4)))
  else if 0x1000 ≤ a ∧ a < 0x1400 then s.lgRead ((a - 0x1000) / 0x40) (a % 0x40)
  else if 0x2000 ≤ a ∧ a < 0x2400 then s.capRead m ((a - 0x2000) / 0x40) (a % 0x40)
  else (s.tbsWord a, s)

/-- REC_STATUS (16). -/
def Dev.recStatus (s : Dev) : Nat :=
  let e := s.evr
  b2n e.storeFail + 2 * b2n (e.retired != 0) + 4 * b2n e.flushing + 8 * b2n (e.clear.isSome || e.clearing)
    + 16 * b2n (!(s.kslot 3).full) + 32 * ((List.range 4).filter fun k => (tget none e.sentinels k).isSome).length
    + 2 ^ 8 * e.healthy + 2 ^ 16 * min e.staged 65535 + 2 ^ 32 * ((e.next + 2 ^ 32 - 1) % 2 ^ 32)

/-- REC_CURSOR (16). -/
def Recorder.cursor (e : Recorder) : Nat :=
  e.index + 2 ^ 32 * b2n e.area + 2 ^ 34 * b2n e.lost + 2 ^ 35 * e.count + 2 ^ 39 * b2n e.ready

/-- Word i of a byte string. -/
def byteWord (bs : List Byte) (i : Nat) : Word := word (leAt bs (4 * i) 4)

/-- A word of the REC block (16 R454, R455); a is the offset within it. -/
def Dev.recWord (s : Dev) (a : Nat) : Word :=
  let e := s.evr
  if a < 8 then wordAt s.recStatus (a / 4)
  else if a < 0x10 then wordAt e.cursor (a / 4 % 2)
  else if a = 0x10 then word e.oldest
  else if 0x40 ≤ a ∧ a < 0xC0 then
    (match tget none e.sentinels ((a - 0x40) / 0x20) with
     | some r => byteWord (r.bytes 0) (a % 0x20 / 4)
     | none => 0)
  else if 0x100 ≤ a ∧ a < 0x200 then byteWord (e.window.getD ((a - 0x100) / 0x20) []) (a % 0x20 / 4)
  else 0

/-- BGL_STATUS (08). -/
def Dev.bglStatus (s : Dev) : Word :=
  let b := s.bgl
  word (b2n s.goActive + 2 * b2n s.stopFleet + 4 * b2n (s.stopSlots != 0) + 8 * b2n b.enable + 16 * b.lastCause + 2 ^ 8 * b2n b.pinA
    + 2 ^ 9 * b2n b.pinB + 2 ^ 10 * b2n b.discrep + 2 ^ 11 * b2n b.cycleDue + 2 ^ 12 * b2n b.testRoot + 2 ^ 13 * b2n b.roll
    + 2 ^ 16 * b.goCond.toNat)

/-- BGL_STOPINFO (08). -/
def Dev.bglStopInfo (s : Dev) : Nat :=
  let b := s.bgl
  b.stopIdx + 2 ^ 20 * (List.range 8).foldl (fun v p => v + 2 ^ p * b2n (s.bport p).fault) 0 + 2 ^ 32 * b.latLast + 2 ^ 48 * b.latMax

/-- BGL_SLOTn (08 R239, R246). -/
def Dev.bglSlot (s : Dev) (n : Nat) : Word :=
  let b := s.bgl
  let cause := ((b.stops.find? fun (x : Stop) => !x.fleet && x.slots.getLsbD n).map Stop.cause).getD 0
  word ((tget 0 b.slotCond n).toNat + 2 ^ 7 * b2n (b.bitmap.getLsbD n) + 2 ^ 8 * cause)

/-- A word of the BGL block; a is the offset within it. -/
def Dev.bglWord (s : Dev) (a : Nat) : Word :=
  let b := s.bgl
  if a = 0 then s.bglStatus
  else if a = 8 ∨ a = 0x0C then wordAt (b.goGen + 2 ^ 16 * b.goIdx + 2 ^ 40 * b.stopGen + 2 ^ 56 * b.reserve) (a / 4 % 2)
  else if a = 0x10 ∨ a = 0x14 then wordAt s.bglStopInfo (a / 4 % 2)
  else if 0x40 ≤ a ∧ a < 0x58 then wordAt b.bitmap.toNat ((a - 0x40) / 4)
  else if 0x100 ≤ a ∧ a < 0x400 then s.bglSlot ((a - 0x100) / 4)
  else 0

/-- BLW_DOMn (11 R334, R343). -/
def BDom.reg (d : BDom) : Nat := min d.e 65535 + 2 ^ 16 * (d.vcap % 2 ^ 10) + 2 ^ 26 * (d.vfloor % 2 ^ 10) + 2 ^ 36 * b2n d.capped

/-- A word of the BLW block that a read does not change; a is the offset within it. -/
def Dev.blwWord (s : Dev) (a : Nat) : Word :=
  let b := s.blw
  if a = 0 then s.blwStatus
  else if a = 8 ∨ a = 0x0C then s.blwWindow.getD (a / 4 % 2) 0
  else if a = 0x10 then word (b.pIn + 2 ^ 16 * b.socPct + 2 ^ 31 * b2n b.fresh)
  else if 0x100 ≤ a ∧ a < 0x160 then wordAt (s.bdom ((a - 0x100) / 8)).reg (a / 4 % 2)
  else 0

/-- A read of the word at an offset of the blocks that SPIH may read (12 R356, R368). -/
def Dev.regRead (s : Dev) (m : Master) (a : Nat) : Word × Dev :=
  if a % 4 ≠ 0 then (0, s)
  else match chanOf a with
  | some ch =>
    (match s.endOf ch m with
     | some b => s.mbxRead ch b (a % 0x200)
     | none => (0, s))
  | none =>
    if a < 0x10000 then s.genRead m a
    else if 0x40000 ≤ a ∧ a < 0x50000 then s.tbsRead m (a - 0x40000)
    else if 0x50000 ≤ a ∧ a < 0x60000 then (s.recWord (a - 0x50000), s)
    else if 0x60000 ≤ a ∧ a < 0x70000 then (s.bglWord (a - 0x60000), s)
    else if 0x70200 ≤ a ∧ a < 0x70240 then readBy (s.thermPeakRead m (Fin.ofNat 16 ((a - 0x70200) / 4)))
    else if 0x70000 ≤ a ∧ a < 0x80000 then (s.blwWord (a - 0x70000), s)
    else (0, s)

/-! ### SPIH (R367, R368) -/

/-- The status byte: IRQ, CRC_ERR, WRITE_REFUSED, READY, READ_REFUSED. (DEDUCED: log entry 30.) -/
def Dev.spiStatus (s : Dev) : Byte :=
  let irq := ([8, 9, 10, 11] : List Nat).any fun ch => (s.mboxEnd ch false).dbIn &&& (s.mboxEnd ch false).dbMask != 0
  BitVec.ofNat 8 (b2n irq + 2 * b2n s.ifc.spiCrc + 4 * b2n s.ifc.spiWr + 8 * b2n (s.gen.phase == .ready) + 16 * b2n s.ifc.spiRd)

/-- The status byte leaves with the opcode of every transfer, which clears its error bits. -/
def Dev.spiBegin (s : Dev) : Dev :=
  { s with ifc := { s.ifc with spiCrc := false, spiWr := false, spiRd := false } }

/-- The bytes that leave on MISO. -/
def Dev.spiOut (s : Dev) (bs : List Byte) : Dev := { s with ifc := { s.ifc with miso := bs } }

/-- SPIH may read this offset (R368). (DEDUCED: log entry 34.) -/
def spiReads (a : Nat) : Bool := decide (a < 0x30000) || (decide (0x40000 ≤ a) && decide (a < 0x80000))

/-- Words written from an offset on, the last first: so the header of a message that a transfer holds whole is written after
its payload (R367, 13 R388). (DEDUCED: log entry 29.) -/
def Dev.spiWords : Nat → List Word → Dev → Dev
  | _, [], s => s
  | a, w :: ws, s => (Dev.spiWords (a + 4) ws s).regWrite .spih a w

/-- Words read from an offset on: n of them; a refused offset reads 0 and sets READ_REFUSED.
(DEDUCED: log entry 29.) -/
def Dev.spiFetch : Nat → Nat → Dev → List Word × Dev
  | 0, _, s => ([], s)
  | n + 1, a, s =>
    let r := if spiReads a then s.regRead .spih a else (0, { s with ifc := { s.ifc with spiRd := true } })
    let t := Dev.spiFetch n (a + 4) r.2
    (r.1 :: t.1, t.2)

/-- The effect of a write transfer after its status byte: nothing with a wrong CRC, a wrong length or a target outside
mailbox channels 8 to 11. (DEDUCED: log entry 29.) -/
def Dev.spiWrite (s : Dev) (a : Nat) (data : List Byte) (crcOk : Bool) : Dev :=
  let n := data.length
  if !crcOk then { s with ifc := { s.ifc with spiCrc := true, spiErrs := min (s.ifc.spiErrs + 1) 0xFFFFFFFF } }
  else if n < 4 ∨ 64 < n ∨ n % 4 ≠ 0 ∨ a % 4 ≠ 0 ∨ a < 0x11000 ∨ 0x11800 < a + n then s.turnAway .spih
  else Dev.spiWords a (packWords data) s

/-- SPIH_WRITE (R367, R368). -/
def execSpihWrite (addr : BitVec 24) (data : List Byte) (crc : Byte) (s : State) : Host.Outcome State Fault Refusal := act s fun s =>
  (if s.blw.off || s.blw.backup then s
    else
      let good := crc8 (0x02 :: beBytes 3 addr.toNat ++ data) == crc.toNat
      (s.spiBegin.spiOut [s.spiStatus]).spiWrite addr.toNat data good)

/-- SPIH_READ (R367, R368): the words that the clocked bytes reach are read as by any other master.
(DEDUCED: log entry 29.) -/
def execSpihRead (addr : BitVec 24) (len : Fin 65) (s : State) : Host.Outcome State Fault Refusal := act s fun s =>
  (if s.blw.off || s.blw.backup then s
    else
      let r := Dev.spiFetch ((len.val + 3) / 4) addr.toNat s.spiBegin
      let bs := (r.1.flatMap fun w => leBytes 4 w.toNat).take len.val
      let crc := BitVec.ofNat 8 (crc8 (0x0B :: beBytes 3 addr.toNat ++ bs))
      (r.2.spiOut (s.spiStatus :: 0xA5 :: bs ++ [crc])).readOut r.1)

/-- SPIH_STATUS (R368). -/
def execSpihStatus (s : State) : Host.Outcome State Fault Refusal := act s fun s =>
  (if s.blw.off || s.blw.backup then s else s.spiBegin.spiOut [s.spiStatus])

end Sys2Proof.Machine
end

