-- ==== Sys2Proof/Machine/Dispatch.lean ====
section
/-! DEFINITION. What each step of the device does: one arm for each constructor of `Instr`. -/
namespace Sys2Proof.Machine

/-- The effect of a step on everything but the queue of waiting steps. -/
def exec (i : Instr) (s : State) : Host.Outcome State Fault Refusal :=
  match i with
  | .nop c => Sys2Proof.Machine.execNop c s
  | .genInfo c => Sys2Proof.Machine.execGenInfo c s
  | .asyncDone => Sys2Proof.Machine.execAsyncDone s
  | .txnBegin c => Sys2Proof.Machine.execTxnBegin c s
  | .txnCommit c => Sys2Proof.Machine.execTxnCommit c s
  | .txnRollback c => Sys2Proof.Machine.execTxnRollback c s
  | .txnStatus c => Sys2Proof.Machine.execTxnStatus c s
  | .txnExpiry port => Sys2Proof.Machine.execTxnExpiry port s
  | .txnRecheck => Sys2Proof.Machine.execTxnRecheck s
  | .beaconFreeze => Sys2Proof.Machine.execBeaconFreeze s
  | .epochCutoff => Sys2Proof.Machine.execEpochCutoff s
  | .epochBoundary mon => Sys2Proof.Machine.execEpochBoundary mon s
  | .slotStart => Sys2Proof.Machine.execSlotStart s
  | .stopWindowEnd => Sys2Proof.Machine.execStopWindowEnd s
  | .profileTick u => Sys2Proof.Machine.execProfileTick u s
  | .measurementInstant => Sys2Proof.Machine.execMeasurementInstant s
  | .adcSequence codes => Sys2Proof.Machine.execAdcSequence codes s
  | .ppsOutPulse n => Sys2Proof.Machine.execPpsOutPulse n s
  | .launchGateFire g => Sys2Proof.Machine.execLaunchGateFire g s
  | .partnerWakeWindow p k => Sys2Proof.Machine.execPartnerWakeWindow p k s
  | .partnerMiss p j => Sys2Proof.Machine.execPartnerMiss p j s
  | .budgetWindow w => Sys2Proof.Machine.execBudgetWindow w s
  | .critGraceExpiry => Sys2Proof.Machine.execCritGraceExpiry s
  | .smbusReadDone battery word => Sys2Proof.Machine.execSmbusReadDone battery word s
  | .recFlushTimer => Sys2Proof.Machine.execRecFlushTimer s
  | .firmwareTimer n => Sys2Proof.Machine.execFirmwareTimer n s
  | .tbsEn m v => Sys2Proof.Machine.execTbsEn m v s
  | .tbsRefsel m v => Sys2Proof.Machine.execTbsRefsel m v s
  | .tbsSteer m v => Sys2Proof.Machine.execTbsSteer m v s
  | .tbsIncrWrite m v => Sys2Proof.Machine.execTbsIncrWrite m v s
  | .tbsAdjWrite m v => Sys2Proof.Machine.execTbsAdjWrite m v s
  | .tbsSyncWrite m v => Sys2Proof.Machine.execTbsSyncWrite m v s
  | .holdoverEntry => Sys2Proof.Machine.execHoldoverEntry s
  | .timeValidLoss => Sys2Proof.Machine.execTimeValidLoss s
  | .tbsTimeRead m w => Sys2Proof.Machine.execTbsTimeRead m w s
  | .tbsPpsiRead m n w => Sys2Proof.Machine.execTbsPpsiRead m n w s
  | .genEpochRead m w => Sys2Proof.Machine.execGenEpochRead m w s
  | .ppsInEdge n dt => Sys2Proof.Machine.execPpsInEdge n dt s
  | .ppsMissing n => Sys2Proof.Machine.execPpsMissing n s
  | .capEdge n falling dt => Sys2Proof.Machine.execCapEdge n falling dt s
  | .capDataRead m n w => Sys2Proof.Machine.execCapDataRead m n w s
  | .lgArm m n v => Sys2Proof.Machine.execLgArm m n v s
  | .lgDisarm m n v => Sys2Proof.Machine.execLgDisarm m n v s
  | .refclkLoss => Sys2Proof.Machine.execRefclkLoss s
  | .oscCheck devPpm => Sys2Proof.Machine.execOscCheck devPpm s
  | .islandFault => Sys2Proof.Machine.execIslandFault s
  | .rateMonitorWindow d ratio => Sys2Proof.Machine.execRateMonitorWindow d ratio s
  | .genRateminRestart m d v => Sys2Proof.Machine.execGenRateminRestart m d v s
  | .scrubPass region errors => Sys2Proof.Machine.execScrubPass region errors s
  | .memoryUe region offset => Sys2Proof.Machine.execMemoryUe region offset s
  | .ledgerCheck found => Sys2Proof.Machine.execLedgerCheck found s
  | .qwmWrite m q v => Sys2Proof.Machine.execQwmWrite m q v s
  | .qctlDropPacket m q => Sys2Proof.Machine.execQctlDropPacket m q s
  | .qctlClrCount m q => Sys2Proof.Machine.execQctlClrCount m q s
  | .registerWrite m off v => Sys2Proof.Machine.execRegisterWrite m off v s
  | .sampleBlock lane => Sys2Proof.Machine.execSampleBlock lane s
  | .surgeHoldEnd => Sys2Proof.Machine.execSurgeHoldEnd s
  | .coherentLatch lane growth => Sys2Proof.Machine.execCoherentLatch lane growth s
  | .laneClockLost lane => Sys2Proof.Machine.execLaneClockLost lane s
  | .laneClockReturn lane => Sys2Proof.Machine.execLaneClockReturn lane s
  | .coastLimit ch => Sys2Proof.Machine.execCoastLimit ch s
  | .correlatorDump ch => Sys2Proof.Machine.execCorrelatorDump ch s
  | .acqComplete found cn0 dop => Sys2Proof.Machine.execAcqComplete found cn0 dop s
  | .acqRetry ch => Sys2Proof.Machine.execAcqRetry ch s
  | .measBlockReady b => Sys2Proof.Machine.execMeasBlockReady b s
  | .readTimeout k => Sys2Proof.Machine.execReadTimeout k s
  | .surveyTimeout => Sys2Proof.Machine.execSurveyTimeout s
  | .ntripRequest r => Sys2Proof.Machine.execNtripRequest r s
  | .gnsLaneCfg c => Sys2Proof.Machine.execGnsLaneCfg c s
  | .gnsLaneEn c => Sys2Proof.Machine.execGnsLaneEn c s
  | .gnsMonCfg c => Sys2Proof.Machine.execGnsMonCfg c s
  | .gnsMeasCfg c => Sys2Proof.Machine.execGnsMeasCfg c s
  | .gnsChanAlloc c => Sys2Proof.Machine.execGnsChanAlloc c s
  | .gnsChanFree c => Sys2Proof.Machine.execGnsChanFree c s
  | .gnsPlan c => Sys2Proof.Machine.execGnsPlan c s
  | .gnsAcq c => Sys2Proof.Machine.execGnsAcq c s
  | .gnsLaneStatus c => Sys2Proof.Machine.execGnsLaneStatus c s
  | .gnsChanStatus c => Sys2Proof.Machine.execGnsChanStatus c s
  | .gnsMeasRead c => Sys2Proof.Machine.execGnsMeasRead c s
  | .refArpSurvey c => Sys2Proof.Machine.execRefArpSurvey c s
  | .refArpSet c => Sys2Proof.Machine.execRefArpSet c s
  | .refAntCfg c => Sys2Proof.Machine.execRefAntCfg c s
  | .refSteerCfg c => Sys2Proof.Machine.execRefSteerCfg c s
  | .refOutCfg c => Sys2Proof.Machine.execRefOutCfg c s
  | .refSchedSet c => Sys2Proof.Machine.execRefSchedSet c s
  | .refZflCfg c => Sys2Proof.Machine.execRefZflCfg c s
  | .refNtripCfg c => Sys2Proof.Machine.execRefNtripCfg c s
  | .refNtripUser c => Sys2Proof.Machine.execRefNtripUser c s
  | .refIntegCfg c => Sys2Proof.Machine.execRefIntegCfg c s
  | .refStatus c => Sys2Proof.Machine.execRefStatus c s
  | .refCorrRead c => Sys2Proof.Machine.execRefCorrRead c s
  | .frameReceive p f => Sys2Proof.Machine.execFrameReceive p f s
  | .baseAckTimeout p => Sys2Proof.Machine.execBaseAckTimeout p s
  | .downlinkPlan => Sys2Proof.Machine.execDownlinkPlan s
  | .followerBeacon b => Sys2Proof.Machine.execFollowerBeacon b s
  | .followerHoldover => Sys2Proof.Machine.execFollowerHoldover s
  | .radGlobalCfg c => Sys2Proof.Machine.execRadGlobalCfg c s
  | .radPortCfg c => Sys2Proof.Machine.execRadPortCfg c s
  | .radScriptLoad c => Sys2Proof.Machine.execRadScriptLoad c s
  | .radPortEn c => Sys2Proof.Machine.execRadPortEn c s
  | .radSlotCfg c => Sys2Proof.Machine.execRadSlotCfg c s
  | .radDeregister c => Sys2Proof.Machine.execRadDeregister c s
  | .radPartnerCfg c => Sys2Proof.Machine.execRadPartnerCfg c s
  | .radRoleCfg c => Sys2Proof.Machine.execRadRoleCfg c s
  | .radAppSend c => Sys2Proof.Machine.execRadAppSend c s
  | .radRawSel c => Sys2Proof.Machine.execRadRawSel c s
  | .radStatus c => Sys2Proof.Machine.execRadStatus c s
  | .radSlotStatus c => Sys2Proof.Machine.execRadSlotStatus c s
  | .radPartnerStatus c => Sys2Proof.Machine.execRadPartnerStatus c s
  | .rxqDataRead m p w => Sys2Proof.Machine.execRxqDataRead m p w s
  | .txtsDataRead m p w => Sys2Proof.Machine.execTxtsDataRead m p w s
  | .filterUpdate slot f => Sys2Proof.Machine.execFilterUpdate slot f s
  | .refWaitTimeout => Sys2Proof.Machine.execRefWaitTimeout s
  | .brambleSearchDone r => Sys2Proof.Machine.execBrambleSearchDone r s
  | .fixCfg c => Sys2Proof.Machine.execFixCfg c s
  | .fixGlobalCfg c => Sys2Proof.Machine.execFixGlobalCfg c s
  | .fixReset c => Sys2Proof.Machine.execFixReset c s
  | .fixStatus c => Sys2Proof.Machine.execFixStatus c s
  | .fixRead c => Sys2Proof.Machine.execFixRead c s
  | .brmStatus c => Sys2Proof.Machine.execBrmStatus c s
  | .orcGridCfg c => Sys2Proof.Machine.execOrcGridCfg c s
  | .orcGlobalCfg c => Sys2Proof.Machine.execOrcGlobalCfg c s
  | .orcSlotCfg c => Sys2Proof.Machine.execOrcSlotCfg c s
  | .orcZoneCfg c => Sys2Proof.Machine.execOrcZoneCfg c s
  | .orcRequest c => Sys2Proof.Machine.execOrcRequest c s
  | .orcRelease c => Sys2Proof.Machine.execOrcRelease c s
  | .orcReleaseFrozen c => Sys2Proof.Machine.execOrcReleaseFrozen c s
  | .orcTileRead c => Sys2Proof.Machine.execOrcTileRead c s
  | .orcStatus c => Sys2Proof.Machine.execOrcStatus c s
  | .slimRecompute => Sys2Proof.Machine.execSlimRecompute s
  | .orchardAudit => Sys2Proof.Machine.execOrchardAudit s
  | .orchardOpOverrun => Sys2Proof.Machine.execOrchardOpOverrun s
  | .prfChanCfg c => Sys2Proof.Machine.execPrfChanCfg c s
  | .prfLagCfg c => Sys2Proof.Machine.execPrfLagCfg c s
  | .prfSegPush c => Sys2Proof.Machine.execPrfSegPush c s
  | .prfFlush c => Sys2Proof.Machine.execPrfFlush c s
  | .prfRetarget c => Sys2Proof.Machine.execPrfRetarget c s
  | .prfDecel c => Sys2Proof.Machine.execPrfDecel c s
  | .prfClear c => Sys2Proof.Machine.execPrfClear c s
  | .prfStatus c => Sys2Proof.Machine.execPrfStatus c s
  | .trkLoad c => Sys2Proof.Machine.execTrkLoad c s
  | .trkDelete c => Sys2Proof.Machine.execTrkDelete c s
  | .trkInfo c => Sys2Proof.Machine.execTrkInfo c s
  | .bglStop c => Sys2Proof.Machine.execBglStop c s
  | .bglRelease c => Sys2Proof.Machine.execBglRelease c s
  | .bglEnable c => Sys2Proof.Machine.execBglEnable c s
  | .bglDisable c => Sys2Proof.Machine.execBglDisable c s
  | .bglAnchorRead c => Sys2Proof.Machine.execBglAnchorRead c s
  | .heartbeat epoch => Sys2Proof.Machine.execHeartbeat epoch s
  | .burstConfirm p => Sys2Proof.Machine.execBurstConfirm p s
  | .burstConfirmTimeout p => Sys2Proof.Machine.execBurstConfirmTimeout p s
  | .chainBuilt go => Sys2Proof.Machine.execChainBuilt go s
  | .goGenBuildStart => Sys2Proof.Machine.execGoGenBuildStart s
  | .markFlush => Sys2Proof.Machine.execMarkFlush s
  | .estopStop ch => Sys2Proof.Machine.execEstopStop ch s
  | .estopRun ch => Sys2Proof.Machine.execEstopRun ch s
  | .estopDiscrepancy => Sys2Proof.Machine.execEstopDiscrepancy s
  | .pinCycleDue => Sys2Proof.Machine.execPinCycleDue s
  | .ethFrameReceive p f => Sys2Proof.Machine.execEthFrameReceive p f s
  | .mgmtFrame f => Sys2Proof.Machine.execMgmtFrame f s
  | .learnNotice => Sys2Proof.Machine.execLearnNotice s
  | .learnDeferTimeout => Sys2Proof.Machine.execLearnDeferTimeout s
  | .l2AgeTick => Sys2Proof.Machine.execL2AgeTick s
  | .walkIdleClose h => Sys2Proof.Machine.execWalkIdleClose h s
  | .digestSweep tcam block found => Sys2Proof.Machine.execDigestSweep tcam block found s
  | .linkDown p => Sys2Proof.Machine.execLinkDown p s
  | .autoFallback p => Sys2Proof.Machine.execAutoFallback p s
  | .xoffRefresh p prio => Sys2Proof.Machine.execXoffRefresh p prio s
  | .flushDone => Sys2Proof.Machine.execFlushDone s
  | .swPortCfg c => Sys2Proof.Machine.execSwPortCfg c s
  | .swPortEn c => Sys2Proof.Machine.execSwPortEn c s
  | .swGlobalCfg c => Sys2Proof.Machine.execSwGlobalCfg c s
  | .swVlanCfg c => Sys2Proof.Machine.execSwVlanCfg c s
  | .swQosCfg c => Sys2Proof.Machine.execSwQosCfg c s
  | .swL2Add c => Sys2Proof.Machine.execSwL2Add c s
  | .swL2Del c => Sys2Proof.Machine.execSwL2Del c s
  | .swL2Search c => Sys2Proof.Machine.execSwL2Search c s
  | .swL2Next c => Sys2Proof.Machine.execSwL2Next c s
  | .swFlushByPort c => Sys2Proof.Machine.execSwFlushByPort c s
  | .swRifCfg c => Sys2Proof.Machine.execSwRifCfg c s
  | .swNhSet c => Sys2Proof.Machine.execSwNhSet c s
  | .swRouteAdd c => Sys2Proof.Machine.execSwRouteAdd c s
  | .swRouteDel c => Sys2Proof.Machine.execSwRouteDel c s
  | .swMacsecSa c => Sys2Proof.Machine.execSwMacsecSa c s
  | .swDigestRead c => Sys2Proof.Machine.execSwDigestRead c s
  | .swBlockRead c => Sys2Proof.Machine.execSwBlockRead c s
  | .swStatus c => Sys2Proof.Machine.execSwStatus c s
  | .eventAdmit e => Sys2Proof.Machine.execEventAdmit e s
  | .eventComplete entry restarted => Sys2Proof.Machine.execEventComplete entry restarted s
  | .affinityWaitExpiry entry => Sys2Proof.Machine.execAffinityWaitExpiry entry s
  | .trcDataRead m w => Sys2Proof.Machine.execTrcDataRead m w s
  | .pwrCfg c => Sys2Proof.Machine.execPwrCfg c s
  | .pwrSet c => Sys2Proof.Machine.execPwrSet c s
  | .pwrWakeCfg c => Sys2Proof.Machine.execPwrWakeCfg c s
  | .schClassCfg c => Sys2Proof.Machine.execSchClassCfg c s
  | .schStatus c => Sys2Proof.Machine.execSchStatus c s
  | .pwrStatus c => Sys2Proof.Machine.execPwrStatus c s
  | .nightCalibrate incr32 => Sys2Proof.Machine.execNightCalibrate incr32 s
  | .nightWakePrepare => Sys2Proof.Machine.execNightWakePrepare s
  | .nightDomainRestore => Sys2Proof.Machine.execNightDomainRestore s
  | .nightRefclkCheck edges => Sys2Proof.Machine.execNightRefclkCheck edges s
  | .pfwAssert => Sys2Proof.Machine.execPfwAssert s
  | .pfwDeassert inRange => Sys2Proof.Machine.execPfwDeassert inRange s
  | .powerLoss => Sys2Proof.Machine.execPowerLoss s
  | .vbatLow mv => Sys2Proof.Machine.execVbatLow mv s
  | .thermalTrip t => Sys2Proof.Machine.execThermalTrip t s
  | .thermalRecover t b => Sys2Proof.Machine.execThermalRecover t b s
  | .thermPeakRead m k => Sys2Proof.Machine.execThermPeakRead m k s
  | .pf0FunctionReset => Sys2Proof.Machine.execPf0FunctionReset s
  | .pf1FunctionReset => Sys2Proof.Machine.execPf1FunctionReset s
  | .pcieLinkLoss => Sys2Proof.Machine.execPcieLinkLoss s
  | .perst => Sys2Proof.Machine.execPerst s
  | .msixUnmask pf1 v => Sys2Proof.Machine.execMsixUnmask pf1 v s
  | .nqTailWrite r v => Sys2Proof.Machine.execNqTailWrite r v s
  | .nqEnable r v => Sys2Proof.Machine.execNqEnable r v s
  | .nqDisable r v => Sys2Proof.Machine.execNqDisable r v s
  | .rxFrameDeliver q bufs => Sys2Proof.Machine.execRxFrameDeliver q bufs s
  | .txWriteback r bufLens reservedBad f => Sys2Proof.Machine.execTxWriteback r bufLens reservedBad f s
  | .txTsTimeout r => Sys2Proof.Machine.execTxTsTimeout r s
  | .itrExpiry r => Sys2Proof.Machine.execItrExpiry r s
  | .dmaError r => Sys2Proof.Machine.execDmaError r s
  | .spihWrite addr data crc => Sys2Proof.Machine.execSpihWrite addr data crc s
  | .spihRead addr len => Sys2Proof.Machine.execSpihRead addr len s
  | .spihStatus => Sys2Proof.Machine.execSpihStatus s
  | .uartFrame bytes crc => Sys2Proof.Machine.execUartFrame bytes crc s
  | .uartCfg c => Sys2Proof.Machine.execUartCfg c s
  | .canFrameReceive p f => Sys2Proof.Machine.execCanFrameReceive p f s
  | .canTxComplete p retries => Sys2Proof.Machine.execCanTxComplete p retries s
  | .canBusOff p => Sys2Proof.Machine.execCanBusOff p s
  | .canBusOffRecovery p => Sys2Proof.Machine.execCanBusOffRecovery p s
  | .isbClaimLost p => Sys2Proof.Machine.execIsbClaimLost p s
  | .canPortCfg c => Sys2Proof.Machine.execCanPortCfg c s
  | .canFilter c => Sys2Proof.Machine.execCanFilter c s
  | .canSend c => Sys2Proof.Machine.execCanSend c s
  | .canRead c => Sys2Proof.Machine.execCanRead c s
  | .isbCfg c => Sys2Proof.Machine.execIsbCfg c s
  | .isbSend c => Sys2Proof.Machine.execIsbSend c s
  | .isbRead c => Sys2Proof.Machine.execIsbRead c s
  | .smbXfer c => Sys2Proof.Machine.execSmbXfer c s
  | .gpioCfg c => Sys2Proof.Machine.execGpioCfg c s
  | .gpioWrite c => Sys2Proof.Machine.execGpioWrite c s
  | .gpioRead c => Sys2Proof.Machine.execGpioRead c s
  | .gpioEdge pin rising => Sys2Proof.Machine.execGpioEdge pin rising s
  | .adcCfg c => Sys2Proof.Machine.execAdcCfg c s
  | .adcRead c => Sys2Proof.Machine.execAdcRead c s
  | .ifStatus c => Sys2Proof.Machine.execIfStatus c s
  | .mbxPost m ch hdr => Sys2Proof.Machine.execMbxPost m ch hdr s
  | .mbxTake m ch data fwFault => Sys2Proof.Machine.execMbxTake m ch data fwFault s
  | .mbxWaiting m ch on => Sys2Proof.Machine.execMbxWaiting m ch on s
  | .mbxAck m ch v => Sys2Proof.Machine.execMbxAck m ch v s
  | .mbxFree m ch => Sys2Proof.Machine.execMbxFree m ch s
  | .mbxRing m ch v => Sys2Proof.Machine.execMbxRing m ch v s
  | .mbxAckTimeout ch endB => Sys2Proof.Machine.execMbxAckTimeout ch endB s
  | .mbxBindSet c => Sys2Proof.Machine.execMbxBindSet c s
  | .cmdPathStatus c => Sys2Proof.Machine.execCmdPathStatus c s
  | .crSqTailWrite r v => Sys2Proof.Machine.execCrSqTailWrite r v s
  | .crFetch r entry data fwFault => Sys2Proof.Machine.execCrFetch r entry data fwFault s
  | .crCqHeadWrite r v => Sys2Proof.Machine.execCrCqHeadWrite r v s
  | .crEnable r v => Sys2Proof.Machine.execCrEnable r v s
  | .crDisable r v => Sys2Proof.Machine.execCrDisable r v s
  | .cmdTimeout r tag => Sys2Proof.Machine.execCmdTimeout r tag s
  | .coalExpiry r => Sys2Proof.Machine.execCoalExpiry r s
  | .keyGenerate c => Sys2Proof.Machine.execKeyGenerate c s
  | .keyImport c => Sys2Proof.Machine.execKeyImport c s
  | .keyExport c => Sys2Proof.Machine.execKeyExport c s
  | .keyDerive c => Sys2Proof.Machine.execKeyDerive c s
  | .keyZeroize c => Sys2Proof.Machine.execKeyZeroize c s
  | .keyInfo c => Sys2Proof.Machine.execKeyInfo c s
  | .keyPublic c => Sys2Proof.Machine.execKeyPublic c s
  | .lcAdvance c => Sys2Proof.Machine.execLcAdvance c s
  | .lcStatus c => Sys2Proof.Machine.execLcStatus c s
  | .dbgUnlock c => Sys2Proof.Machine.execDbgUnlock c s
  | .selftestRun c => Sys2Proof.Machine.execSelftestRun c s
  | .tamperCfg c => Sys2Proof.Machine.execTamperCfg c s
  | .tamperStatus c => Sys2Proof.Machine.execTamperStatus c s
  | .tamperLatch src => Sys2Proof.Machine.execTamperLatch src s
  | .zeroizePersistentDone ok => Sys2Proof.Machine.execZeroizePersistentDone ok s
  | .recordCommit r => Sys2Proof.Machine.execRecordCommit r s
  | .recBucketRefill code => Sys2Proof.Machine.execRecBucketRefill code s
  | .recFlushDone e => Sys2Proof.Machine.execRecFlushDone e s
  | .stagingPageFail page => Sys2Proof.Machine.execStagingPageFail page s
  | .recCfg c => Sys2Proof.Machine.execRecCfg c s
  | .recHistCfg c => Sys2Proof.Machine.execRecHistCfg c s
  | .recHistRead c => Sys2Proof.Machine.execRecHistRead c s
  | .recFlush c => Sys2Proof.Machine.execRecFlush c s
  | .recClear c => Sys2Proof.Machine.execRecClear c s
  | .recClearConfirm c => Sys2Proof.Machine.execRecClearConfirm c s
  | .recClearExpiry => Sys2Proof.Machine.execRecClearExpiry s
  | .recClearDone => Sys2Proof.Machine.execRecClearDone s
  | .recCursorLoad m lo hi => Sys2Proof.Machine.execRecCursorLoad m lo hi s
  | .recCursorNext m hi => Sys2Proof.Machine.execRecCursorNext m hi s
  | .updBegin c => Sys2Proof.Machine.execUpdBegin c s
  | .updData c => Sys2Proof.Machine.execUpdData c s
  | .updCommit c => Sys2Proof.Machine.execUpdCommit c s
  | .updCommitDone r => Sys2Proof.Machine.execUpdCommitDone r s
  | .updAbort c => Sys2Proof.Machine.execUpdAbort c s
  | .updConfirm c => Sys2Proof.Machine.execUpdConfirm c s
  | .updRollback c => Sys2Proof.Machine.execUpdRollback c s
  | .updStatus c => Sys2Proof.Machine.execUpdStatus c s
  | .updIdleTimeout => Sys2Proof.Machine.execUpdIdleTimeout s
  | .bootReset c => Sys2Proof.Machine.execBootReset c s
  | .trialExpiry => Sys2Proof.Machine.execTrialExpiry s
  | .trialReset b => Sys2Proof.Machine.execTrialReset b s
  | .watchdogKick => Sys2Proof.Machine.execWatchdogKick s
  | .watchdogExpiry => Sys2Proof.Machine.execWatchdogExpiry s
  | .watchdogReset b => Sys2Proof.Machine.execWatchdogReset b s
  | .debugReset b => Sys2Proof.Machine.execDebugReset b s
  | .powerOnReset b => Sys2Proof.Machine.execPowerOnReset b s
  | .linkUp p speed => Sys2Proof.Machine.execLinkUp p speed s
  | .pcieLinkUp gen width => Sys2Proof.Machine.execPcieLinkUp gen width s
  | .ethFrameTransmit p => Sys2Proof.Machine.execEthFrameTransmit p s
  | .pauseQuantaExpiry p prio => Sys2Proof.Machine.execPauseQuantaExpiry p prio s
  | .smbXferDone master r => Sys2Proof.Machine.execSmbXferDone master r s
  | .thermalPowerOff => Sys2Proof.Machine.execThermalPowerOff s
  | .refclkReturn => Sys2Proof.Machine.execRefclkReturn s

end Sys2Proof.Machine
end

