-- ==== Sys2Proof/Machine/Step.lean ====
section
/-! DEFINITION. One step of the device: the step at the front of the queue, or one clock period on an empty queue. -/
namespace Sys2Proof.Machine

/-- One period of the clock that the timebase counts, REFCLK or XO32K (02 R51, R63): what the device does while nothing
waits (log entry 2). -/
def Dev.idle (s : Dev) : Dev := s.advance (if s.tbs.on32k then s.tbs.incr32 else s.tbs.incr)

/-- Takes the front of the queue and runs it on the state with the rest of the queue. (DESIGN CHOICE: log entry 2.) -/
def step (s : State) : Host.Outcome State Fault Refusal :=
  match s.pending with
  | [] => act s Dev.idle
  | i :: rest => exec i { s with pending := rest }

/-- The state with the step that a word spells put at the front of the queue; unchanged where the word spells none.
(DESIGN CHOICE: log entry 18.) -/
def State.withFetchWord (s : State) (nbits w : Nat) : State :=
  match decodeTableWord nbits w with
  | some i => { s with pending := i :: s.pending }
  | none => s

end Sys2Proof.Machine
end

