-- ==== Sys2Proof/Safety.lean ====
section
/-! DEFINITION. What a safe run is: the terms in which claims speak of the machine as a whole. -/
namespace Sys2Proof.Machine

/-- The state a step answers, if it answers one. -/
def nextOf : Host.Outcome State Fault Refusal → Option State
  | .next s => some s
  | _ => none

/-- A step completes: it answers a next state, neither a fault nor a refusal. -/
def Completes (o : Host.Outcome State Fault Refusal) : Prop := ∃ t, o = .next t

/-! ### Commands -/

/-- The device takes a command up at once and checks 1 to 7 of 13 R397 find nothing: the path is served, no return from NIGHT or
DOZE is awaited, its port stages nothing, and no committed transaction locks its fields. Its own checks, the eighth, remain. -/
def Dev.accepts (d : Dev) (op : Op) (c : Cmd) : Bool :=
  d.hears c.path && !d.defers op && (d.gateCheck op (d.withArea op c)).isNone && !d.portExpired op (d.withArea op c)
    && fieldsOk (opFields (d.withArea op c) op) (d.withArea op c) && decide (d.stageCheck op (d.withArea op c) = .run)
    && (decide ((opInfo op).cls = .none) || !d.locked op (d.withArea op c))

/-- The machine after a command that has run: the device as the command leaves it, the command counted on its path (13 R406),
and SUCCESS with its tag, the response words and the present epoch in the reply (13 R392, R401). -/
def State.replied (s : State) (c : Cmd) (d : Dev) (ws : List Word) : State :=
  s.after ((d.countAccepted c.path).answer .success c.tag ws s.dev.epoch)

/-- The machine after a write of an EPOCH field: it waits in the shadow, and the reply names the epoch at whose boundary it
applies (01 R39, 13 R401). -/
def State.waits (s : State) (op : Op) (c : Cmd) (ws : List Word) : State :=
  s.after (((s.dev.shadowed op c).countAccepted c.path).answer .success c.tag ws (epoch32 s.dev.applyEpoch))

/-- The machine after a command whose final completion comes later (13 R395). -/
def State.underway (s : State) (c : Cmd) (d : Dev) : State :=
  s.after { d.countAccepted c.path with reply := { tag := c.tag, epoch := s.dev.epoch, pendingDone := true } }

/-- The machine after a refusal at an order of R397: a reply with the code, the outcome counted, and nothing else. -/
def State.turnedDown (s : State) (op : Op) (c : Cmd) (order : Nat) (e : Rc) : State :=
  s.after ((s.dev.countOrder c.path order).answer e c.tag (refusalWords op) s.dev.epoch)

end Sys2Proof.Machine
end

