-- ==== Sys2Proof/Certificates/Slice0/Obligations.lean ====
section
/-!
DEFINITION. The statements for the provers, one definition per line of OBLIGATIONS.json.
A statement named CommandsRun says, for every command of its group, what the state is once the checks of the command pass:
its conclusion is an answer of exec, written over the very device it began with, so what it does not name is left alone.
-/

open Sys2Proof Sys2Proof.Machine

/-- A step takes the command at the front of the queue and runs it on the state with the queue's rest; on an empty queue one
period of the clock that the timebase counts passes (log entry 2). -/
def Obligations.StepTakesTheFront : Prop :=
  (∀ (i : Instr) (is : List Instr) (s : State), s.pending = i :: is → step s = exec i { s with pending := is })
  ∧ (∀ s : State, s.pending = [] →
    step s = .next (s.after (s.dev.advance (if s.dev.tbs.on32k then s.dev.tbs.incr32 else s.dev.tbs.incr))))

/-- Every command is worked off in its turn: from any state, as many steps as commands wait empty the queue, none stops, and
what they leave is what the commands make of the state one after another. -/
def Obligations.QueueRunsInOrder : Prop :=
  ∀ (l : List Instr) (s : State), s.pending = l →
    ∃ t : State, Sys2Proof.core.run l.length s = .next t ∧ t.pending = []
      ∧ t = l.foldl (fun u i => (nextOf (exec i u)).getD u) { s with pending := [] }

/-- What every step keeps: host memory lists its addresses strictly rising, no write is left over, and the queue loses its
front. -/
def Obligations.StepKeepsMemoryCanonical : Prop :=
  ∀ s t : State, Memory.wf s.hostMem = true → s.dev.writes = [] → step s = .next t →
    Memory.wf t.hostMem = true ∧ t.dev.writes = [] ∧ t.pending = s.pending.drop 1

/-- The machine right after reset: the values that 01, 02, 08, 13, 15, 16 and 17 give for it, and the invariant of every step.
-/
def Obligations.ResetState : Prop :=
  Memory.wf State.reset.hostMem = true ∧ State.reset.dev.writes = [] ∧ State.reset.pending = []
    ∧ State.reset.dev.gen.phase = .rom ∧ State.reset.dev.tbs.en = false ∧ State.reset.dev.bgl.enable = false
    ∧ State.reset.dev.bgl.stopOut = .hiZ ∧ State.reset.dev.tbs.incr = 0x6400000000 ∧ State.reset.dev.gen.irqMask = 0
    ∧ (∀ k, (State.reset.dev.mend k).tmo = 1000) ∧ State.reset.dev.sec.slots = [] ∧ State.reset.dev.evr.circ = []
    ∧ ∀ op c, State.reset.dev.command op c = State.reset.dev

/-- 14 R408 and 13 R389, R401: what a read or an answer puts into a buffer of host memory stands there byte by byte, and every
other address reads as before. -/
def Obligations.BufferWritesStayInside : Prop :=
  ∀ (s : State) (d : Dev) (p : Path) (a : Nat) (bs : List Byte), d.writes = [] → (∀ ch, p = .mbx ch → ch.val < 8 ∨ 11 < ch.val) →
    (∀ i b, bs[i]? = some b → Memory.read (s.after (d.toBuffer p a bs)).hostMem (a + i) = some b)
    ∧ (∀ x, x < a ∨ a + bs.length ≤ x → Memory.read (s.after (d.toBuffer p a bs)).hostMem x = Memory.read s.hostMem x)
    ∧ (s.after (d.toBuffer p a bs)).dev = d ∧ (s.after (d.toBuffer p a bs)).pending = s.pending

/-- 13 R397, 01 R41, R44, 11 R339: a path that nothing serves is not heard; a command that a NIGHT or DOZE defers waits for the
return; otherwise the checks come in their order, the first that fails refuses the command, and a refusal changes nothing but
the count of its order and the reply; with its port's transaction open a command that a transaction may hold is staged. -/
def Obligations.ChecksComeInOrder : Prop :=
  (∀ (d : Dev) (op : Op) (c : Cmd), d.hears c.path = false → d.command op c = d)
  ∧ (∀ (d : Dev) (op : Op) (c : Cmd), d.hears c.path = true → d.defers op = true →
    ∃ x : Dev, x = d.wake 3 ∧ d.command op c = { x with
      blw := { x.blw with deferred := x.blw.deferred ++ [(op, c)] }
      reply := { tag := c.tag, epoch := d.epoch, pendingDone := true } })
  ∧ (∀ (d : Dev) (op : Op) (c : Cmd), d.hears c.path = true → d.defers op = false → d.withArea op c = c → d.gen.phase = .ready →
  -- a check of 2 to 5 that fails: its code, and nothing else changes; check 6 completes the command with nothing moved
  (∀ n e, e ≠ .zeroLength → d.gateCheck op c = some (n, e) →
    d.command op c = (d.countOrder c.path n).answer e c.tag (refusalWords op) d.epoch)
  -- their order
  ∧ (c.words.length ≠ (opInfo op).reqWords → d.gateCheck op c = some (2, .msgLength))
  ∧ (c.words.length = (opInfo op).reqWords →
    (opRank op c < pathRank c.path → d.gateCheck op c = some (3, .noAuthority))
    ∧ (pathRank c.path ≤ opRank op c →
      (keyClass op = true → d.secPath c.path = false → d.gateCheck op c = some (4, .notSecChannel))
      ∧ (keyClass op = false → secPasses op = false → d.secPath c.path = true → d.gateCheck op c = some (4, .secOnlyChannel))
      ∧ ((keyClass op = d.secPath c.path ∨ (secPasses op = true ∧ d.secPath c.path = true)) → (keyClass op = true → d.secPath c.path = true) →
        (bufOk op c = false → d.gateCheck op c = some (5, .noDmaPath))
        ∧ (bufOk op c = true → (opInfo op).buf = .std → op ≠ .isbSend → bufLen op c = 0 → d.gateCheck op c = some (6, .zeroLength)))))
  -- check 7: with its port's transaction open and room in it, a command that a transaction may hold is staged
  ∧ (d.gateCheck op c = none → (opInfo op).staged = true → (d.tport (pathPort c.path)).st = .opened →
    (d.tport (pathPort c.path)).staged.length < 256 → ((opInfo op).cls ≠ .halted ∨ unstagedGroup op = true) → op ≠ .trkLoad →
    fieldsOk (opFields c op) c = true →
    d.command op c = ((d.tportMod (pathPort c.path) fun t => { t with staged := t.staged ++ [{ op := op, cmd := c }] }).countAccepted
      c.path).answer .txnStaged c.tag [] d.epoch)
  -- and refused while its port is EXPIRED
  ∧ (d.gateCheck op c = none → (opInfo op).staged = true → (d.tport (pathPort c.path)).st = .expired →
    d.command op c = (d.countOrder c.path 7).answer .txnExpired c.tag (refusalWords op) d.epoch))

/-- 01 R35: a read of an empty queue returns the last item read, sets UNDERRUN and leaves LEVEL at 0. -/
def Obligations.EmptyQueueReads : Prop :=
  ∀ (α : Type) (q : Queue α), q.items = [] → q.pop.1 = q.last ∧ q.pop.2.underrun = true ∧ q.pop.2.items.length = 0

/-- 01 R36: DROP_PACKET discards the items up to and including the next end of packet, and does nothing where no packet is
partly read. -/
def Obligations.DropPacketDiscards : Prop :=
  ∀ (α : Type) (q : Queue α),
    (q.inPacket = false → q.dropPacket = q)
    ∧ (∀ (pre post : List (QItem α)) (a : α), q.inPacket = true → q.items = pre ++ .data a true :: post →
      (∀ x ∈ pre, ∀ b, x ≠ .data b true) → q.dropPacket.items = post ∧ q.dropPacket.inPacket = false)

/-- Chapter 01 R34 and the bound of R33: a queue never holds more than D items. While its level lies below D − 1 an item enters
at the tail and closes the GAP marker; otherwise the newest item is dropped and QDROP counts it, and either a GAP marker of 1 is
appended or the open one at the tail counts on, up to 65,535. Items leave in the order in which they came. -/
def Obligations.QueuesStayBounded : Prop :=
  ∀ (α : Type) (q : Queue α) (a : α) (e : Bool), 2 ≤ q.depth → q.items.length ≤ q.depth →
    (q.items.length = q.depth → q.gapOpen = true) →
    (q.push a e).1.items.length ≤ q.depth
    ∧ ((q.push a e).1.items.length = q.depth → (q.push a e).1.gapOpen = true)
    ∧ (q.items.length < q.depth - 1 →
      (q.push a e).1.items = q.items ++ [.data a e] ∧ (q.push a e).1.drops = q.drops ∧ (q.push a e).1.gapOpen = false)
    ∧ (q.depth - 1 ≤ q.items.length → (q.push a e).1.drops = min (q.drops + 1) 0xFFFFFFFF
      ∧ (q.gapOpen = false → (q.push a e).1.items = q.items ++ [QItem.gap 1] ∧ (q.push a e).1.gapOpen = true)
      ∧ (∀ (pre : List (QItem α)) (n : Nat), q.gapOpen = true → q.items = pre ++ [QItem.gap n] →
        (q.push a e).1.items = pre ++ [QItem.gap (min (n + 1) 65535)] ∧ (q.push a e).1.gapOpen = true))
    ∧ (∀ i is, q.items = i :: is → q.pop.1 = some i ∧ q.pop.2.items = is)

/-- 08 R241: BGL_STATUS.GO_ACTIVE and TBS_STATUS.GO_ACTIVE are 1 while one of the last 4 frozen beacons carried a token. -/
def Obligations.GoActiveMeansToken : Prop :=
  ∀ d : Dev, (wbit d.bglStatus 0 = true ↔ ∃ b ∈ d.bgl.beacons.take 4, b.isSome = true)
    ∧ (wbit d.tbsStatus 4 = true ↔ ∃ b ∈ d.bgl.beacons.take 4, b.isSome = true)

/-- 08 R240: a sampling whose heartbeat is missing counts, one with it starts the count anew, and the third in a row raises a
fleet stop with cause SUP_LOST. -/
def Obligations.ThreeLostHeartbeatsStop : Prop :=
  ∀ (d : Dev) (e : Nat), d.bgl.up = true →
    (d.bgl.hb = some (epoch32 e) → (d.sampling e).bgl.hbFail = 0)
    ∧ (d.bgl.hb ≠ some (epoch32 e) → (d.sampling e).bgl.hbFail = d.bgl.hbFail + 1)
    ∧ (d.bgl.hb ≠ some (epoch32 e) → d.bgl.hbFail = 2 →
      ∃ x ∈ (d.sampling e).bgl.stops, x.fleet = true ∧ x.cause = 5)

/-- 07 R205: the commanded acceleration changes by at most the jerk in force in one tick, but that it is 0 at a standstill with
the target 0; the speed follows it and is never below 0; the position never goes back. -/
def Obligations.TickRespectsTheJerk : Prop :=
  ∀ (p : Prf) (tgt au : Nat), ∃ a : Int, (a - p.a).natAbs ≤ p.jerk ∧ (p.law tgt au).v = (p.v + a).toNat
    ∧ ((p.law tgt au).a = a ∨ ((p.law tgt au).a = 0 ∧ (p.law tgt au).v = 0 ∧ tgt = 0))
    ∧ p.acc ≤ (p.law tgt au).acc

/-- Chapter 01: rate monitors, memory errors, the ledger and the registers of the common queues (rests on R12, R13, R18, R31 to
R38). -/
def Obligations.GenBlockEvents : Prop :=
  ∀ (s : State) (d : Dev), s.dev = d →
  -- RATE_MONITOR_WINDOW: AON and SAFE read 0x1000; another running domain its ratio; a domain that does not run reads 0
  (∀ (k : Fin 12) (r v : BitVec 16), v = (if k.val < 2 then 0x1000 else r) → (d.rateMon k).pstate = .running →
    exec (.rateMonitorWindow k r) s = .next (s.after (d.rateMonMod k fun _ => { d.rateMon k with
      ratio := v, valid := true, minRatio := if v < (d.rateMon k).minRatio then v else (d.rateMon k).minRatio })))
  ∧ (∀ (k : Fin 12) (r : BitVec 16), (d.rateMon k).pstate ≠ .running →
    exec (.rateMonitorWindow k r) s = .next (s.after (d.rateMonMod k fun _ => { d.rateMon k with ratio := 0, valid := false })))
  -- GEN_RATEMIN_RESTART
  ∧ (∀ (m : Master) (k : Fin 12) (v : Word), d.reaches m = true → wbit v 31 = true →
    exec (.genRateminRestart m k v) s = .next (s.after (d.rateMonMod k fun r => { r with minRatio := 0xFFFF })))
  -- SCRUB_PASS: corrected and counted
  ∧ (∀ (k : Fin 10) (n : Nat), exec (.scrubPass k n) s = .next (s.after
      { d with gen := { d.gen with sbe := tmod 0 d.gen.sbe k.val fun x => min (x + n) 0xFFFFFFFF } }))
  -- MEMORY_UE: UE, its region and the record; in field memory, the safety island or the Orchard store the fleet stops
  ∧ (∀ (k : Fin 10) (a : Word) (x : Dev), x = (Dev.irqIf { d with gen := { d.gen with ue := true, ueRegion := k.val, void := true } } 0
      (!d.gen.ue)).log 0x8002 (leBytes 1 k.val ++ [0, 0, 0] ++ leBytes 4 a.toNat) →
    (k.val = 0 ∨ k.val = 5 ∨ k.val = 7 → exec (.memoryUe k a) s = .next (s.after
      ((Dev.endTokens { x with orc := { x.orc with ueHit := x.orc.ueHit || k.val == 7 } }).fleetStop 7)))
    ∧ (¬ (k.val = 0 ∨ k.val = 5 ∨ k.val = 7) → exec (.memoryUe k a) s = .next (s.after
      { x with gen := { x.gen with restarts := tinc x.gen.restarts k.val } })))
  -- LEDGER_CHECK of whole pools counts a sweep
  ∧ (∀ f, d.ledgerBad f = none → exec (.ledgerCheck f) s = .next (s.after { d with gen := { d.gen with
      sums := d.ledgerSums f, sumGens := (d.bgl.goGen, d.bgl.stopGen), sweeps := d.gen.sweeps + 1 } }))
  -- the first failure ends token issue and stops the fleet
  ∧ (∀ (f : Vector Nat 8) (p : Nat) (x : Dev), d.ledgerBad f = some p → d.gen.ledgerFault = false →
    x = Dev.irq { d with gen := { d.gen with
      sums := d.ledgerSums f, sumGens := (d.bgl.goGen, d.bgl.stopGen), ledgerFault := true, ledgerPool := p } } 0 →
    exec (.ledgerCheck f) s = .next (s.after (((x.log 0xC003 (leBytes 1 p ++ [0, 0, 0] ++ leBytes 4 (x.gen.sums.getD p 0)
      ++ leBytes 4 (poolTotal p))).endTokens).fleetStop 6)))
  -- QWM_WRITE, QCTL_DROP_PACKET and QCTL_CLR_COUNT of the trace queue
  ∧ (∀ (m : Master) (v : Word), d.reaches m = true →
    exec (.qwmWrite m .trc v) s = .next (s.after { d with sch := { d.sch with trc := d.sch.trc.setWm (wbits v 0 16) (wbits v 16 16) } })
    ∧ exec (.qctlDropPacket m .trc) s = .next (s.after { d with sch := { d.sch with trc := d.sch.trc.dropPacket } })
    ∧ exec (.qctlClrCount m .trc) s = .next (s.after { d with sch := { d.sch with trc := d.sch.trc.clrCount } }))
  -- the same of a command ring's completions: DROP_PACKET has no effect there
  ∧ (∀ (m : Master) (r : Fin 16) (v : Word), d.reaches m = true →
    exec (.qwmWrite m (.cr r) v) s = .next (s.after (d.ringMod r fun n => { n with
      q := n.q.setWm (2 ^ n.cqLog) (wbits v 0 16) (wbits v 16 16) }))
    ∧ ∃ t, exec (.qctlDropPacket m (.cr r)) s = .next t ∧ t.dev.cr.rings = tmod {} d.cr.rings r fun n => n)

/-- Chapters 00 and 12: writes of registers that have no row of their own, and the SPIH transfers (rests on R9, R356, R367,
R368, R497). -/
def Obligations.RegisterAccesses : Prop :=
  ∀ (s : State) (d : Dev), s.dev = d → d.blw.off = false → d.blw.backup = false →
  -- REGISTER_WRITE of GEN_IRQ_STATUS clears the bits written as 1; of GEN_IRQ_MASK sets the mask
  (∀ (m : Master) (v : Word), d.reaches m = true → m ≠ .hpf1 →
    exec (.registerWrite m 0x40 v) s = .next (s.after
      { d with gen := { d.gen with irqStatus := d.gen.irqStatus &&& ~~~(v.setWidth 12) } })
    ∧ exec (.registerWrite m 0x44 v) s = .next (s.after { d with gen := { d.gen with irqMask := v.setWidth 12 } }))
  -- of an RO register, and of an offset that no block defines: ignored
  ∧ (∀ (m : Master) (v : Word), d.reaches m = true → m ≠ .hpf1 →
    exec (.registerWrite m 0x0 v) s = .next (s.after d) ∧ exec (.registerWrite m 0x20000 v) s = .next (s.after d))
  -- of BLW_INPUT: the harvester's power, and a state of charge up to 100
  ∧ (∀ (m : Master) (v : Word), d.reaches m = true → m ≠ .hpf1 →
    exec (.registerWrite m 0x70010 v) s = .next (s.after { d with blw := { d.blw with
      pIn := wbits v 0 16, socPct := if wbits v 16 7 ≤ 100 then wbits v 16 7 else d.blw.socPct
      fresh := d.blw.fresh || wbit v 31 } }))
  -- of TBS_HOLD with a limit outside 1 to 1,000 us: CFG_REJECT
  ∧ (∀ (m : Master) (v : Word), d.reaches m = true → m ≠ .hpf1 → (wbits v 16 10 = 0 ∨ 1000 < wbits v 16 10) →
    exec (.registerWrite m 0x4003C v) s = .next (s.after d.cfgReject))
  -- of a mailbox register by a master that is no endpoint
  ∧ (∀ (m : Master) (v : Word), m ≠ .hpf1 → d.endOf 0 m = none →
    exec (.registerWrite m 0x10000 v) s = .next (s.after (d.turnAway m)))
  -- SPIH_WRITE with a wrong CRC changes nothing but CRC_ERR, the count and MISO
  ∧ (∀ (a : BitVec 24) (data : List Byte) (crc : Byte), crc8 (0x02 :: beBytes 3 a.toNat ++ data) ≠ crc.toNat →
    exec (.spihWrite a data crc) s = .next (s.after { d with ifc := { d.ifc with
      spiCrc := true, spiWr := false, spiRd := false, miso := [d.spiStatus], spiErrs := min (d.ifc.spiErrs + 1) 0xFFFFFFFF } }))
  -- SPIH_WRITE with a good CRC outside channels 8 to 11: WRITE_REFUSED
  ∧ (∀ (a : BitVec 24) (data : List Byte) (crc : Byte), crc8 (0x02 :: beBytes 3 a.toNat ++ data) = crc.toNat →
    (a.toNat < 0x11000 ∨ 0x11800 ≤ a.toNat) →
    exec (.spihWrite a data crc) s = .next (s.after { d with ifc := { d.ifc with
      spiCrc := false, spiWr := true, spiRd := false, miso := [d.spiStatus] } }))
  -- SPIH_WRITE with a good CRC to channels 8 to 11: the words are written, the last first
  ∧ (∀ (a : BitVec 24) (data : List Byte) (crc : Byte), crc8 (0x02 :: beBytes 3 a.toNat ++ data) = crc.toNat →
    4 ≤ data.length → data.length ≤ 64 → data.length % 4 = 0 → a.toNat % 4 = 0 → 0x11000 ≤ a.toNat → a.toNat + data.length ≤ 0x11800 →
    exec (.spihWrite a data crc) s = .next (s.after
      (Dev.spiWords a.toNat (packWords data) (d.spiBegin.spiOut [d.spiStatus]))))
  -- SPIH_READ of one word that SPIH may read
  ∧ (∀ (a : BitVec 24) (r : Word × Dev), spiReads a.toNat = true → r = d.spiBegin.regRead .spih a.toNat →
    exec (.spihRead a 4) s = .next (s.after ((r.2.spiOut (d.spiStatus :: 0xA5 :: leBytes 4 r.1.toNat ++
      [BitVec.ofNat 8 (crc8 (0x0B :: beBytes 3 a.toNat ++ leBytes 4 r.1.toNat))])).readOut [r.1])))
  -- SPIH_STATUS: the status byte leaves, and its error bits clear
  ∧ exec .spihStatus s = .next (s.after { d with ifc := { d.ifc with
      spiCrc := false, spiWr := false, spiRd := false, miso := [d.spiStatus] } })

/-- Chapters 01, 13 and 14: NOP, GEN_INFO, the transaction commands, and the mailbox commands, once their checks pass (rests on
R40, R42, R44, R385, R395, R406, R407, R415). -/
def Obligations.TransactionCommandsRun : Prop :=
  ∀ (c : Cmd) (s : State) (d : Dev) (p : Nat) (t : TPort), s.dev = d → pathPort c.path = p → d.tport p = t →
  -- NOP is acknowledged and otherwise ignored
  (d.accepts .nop c = true → exec (.nop c) s = .next (s.replied c d []))
  -- GEN_INFO
  ∧ (d.accepts .genInfo c = true →
    exec (.genInfo c) s = .next (s.replied c d ([word (d.gen.part + 2 ^ 16 * d.gen.stepping.toNat),
      word (d.bankBits + 2 ^ 4 * phaseCode d.gen.phase), d.runVersion, word (if d.upd.bankValid then d.runBank.sfn else 0)]
      ++ words64 d.gen.deviceId.toNat ++ [0, 0])))
  -- TXN_BEGIN of a port without an open transaction; with one, it is refused
  ∧ (d.accepts .txnBegin c = true → p < 5 → t.st ≠ .opened →
    exec (.txnBegin c) s = .next (s.replied c
      (Dev.tportMod { d with txn := { d.txn with count := (d.txn.count + 1) % 65536 } } p fun _ =>
        { st := .opened, beganAt := d.tbs.mono, id := (d.txn.count + 1) % 65536 }) [word ((d.txn.count + 1) % 65536)]))
  ∧ (d.accepts .txnBegin c = true → p < 5 → t.st = .opened →
    exec (.txnBegin c) s = .next (s.turnedDown .txnBegin c 8 .txnOpen))
  -- TXN_ROLLBACK discards what the port has staged; without a transaction it is refused
  ∧ (d.accepts .txnRollback c = true → t.st = .opened →
    exec (.txnRollback c) s = .next (s.replied c (d.rollback p) [word t.staged.length]))
  ∧ (d.accepts .txnRollback c = true → t.st = .none →
    exec (.txnRollback c) s = .next (s.turnedDown .txnRollback c 8 .txnNone))
  -- the first TXN_COMMIT or TXN_ROLLBACK after an expiry ends EXPIRED
  ∧ (d.accepts .txnRollback c = true → t.st = .expired →
    exec (.txnRollback c) s = .next (s.after (((d.tportMod p fun t => { t with st := .none }).countOrder c.path 8).answer
      .txnExpired c.tag (refusalWords .txnRollback) d.epoch)))
  -- TXN_COMMIT for an epoch 2 to 600 ahead whose staged commands pass every test: they wait for that boundary
  ∧ (∀ x, d.accepts .txnCommit c = true → t.st = .opened → 2 ≤ (arg c 0 - d.epoch).toNat → (arg c 0 - d.epoch).toNat ≤ 600 →
    (t.staged.any fun y => d.locked y.op y.cmd) = false →
    d.txnTests [] t.staged (d.gen.epochFull + (arg c 0 - d.epoch).toNat) = .ok x →
    ∃ k : Comm, k.port = p ∧ k.id = t.id ∧ k.staged = t.staged ∧ k.path = c.path ∧ k.tag = c.tag
      ∧ k.target = d.gen.epochFull + (arg c 0 - d.epoch).toNat ∧ ∃ u : Dev,
      u = ((holdPending t.id (applyOrder t.staged) d d).1.tportMod p fun t => { t with st := .none, staged := [] }) ∧
      exec (.txnCommit c) s = .next (s.after ((Dev.countAccepted { u with txn := { u.txn with
          committed := u.txn.committed ++ [k] } } c.path).answer .acceptedAsync c.tag
        [commitWord t.staged.length 0 false, epoch32 k.target] (epoch32 k.target))))
  -- TXN_COMMIT for another epoch leaves the transaction open
  ∧ (d.accepts .txnCommit c = true → t.st = .opened → ((arg c 0 - d.epoch).toNat < 2 ∨ 600 < (arg c 0 - d.epoch).toNat) →
    exec (.txnCommit c) s = .next (s.after ((d.countOrder c.path 8).answer .txnEpochRange c.tag
      [commitWord t.staged.length 0 false, 0] d.epoch)))
  -- TXN_STATUS of a port's open transaction, and of a port that has none
  ∧ (d.accepts .txnStatus c = true → (d.tport (argF c 0 0 3)).st = .opened →
    exec (.txnStatus c) s = .next (s.replied c d [word (1 + 4 * (d.tport (argF c 0 0 3)).staged.length), 0,
      sat32 ((d.tbs.mono - (d.tport (argF c 0 0 3)).beganAt) / msU), word (d.tport (argF c 0 0 3)).id]))
  ∧ (d.accepts .txnStatus c = true → (d.tport (argF c 0 0 3)).st = .none →
    (d.txn.committed.filter fun k => k.port == argF c 0 0 3) = [] →
    exec (.txnStatus c) s = .next (s.replied c d [0, 0, 0, 0]))
  -- MBX_BIND_SET: the record takes effect at the next reset
  ∧ (d.accepts .mbxBindSet c = true →
    exec (.mbxBindSet c) s = .next (s.replied c { d with mbx := { d.mbx with bindRec := some (argB c 0 0, argB c 0 1) } } []))
  -- CMD_PATH_STATUS of a channel or ring that is fitted: page 0 clears the peak, page 1 gives the counts of R397's checks
  ∧ (∀ k, d.accepts .cmdPathStatus c = true → k = (if argB c 0 8 then 32 + argF c 0 0 5 else argF c 0 0 5) →
    (argB c 0 8 = true → argF c 0 0 5 < 16) →
    (argB c 0 9 = false → exec (.cmdPathStatus c) s = .next (s.replied c (d.pathCntMod k fun q => { q with peak := 0 })
      [sat32 (d.pathCnt k).accepted, sat32 (d.pathCnt k).reject, sat32 (d.pathCnt k).timeout, sat32 (d.pathCnt k).late,
       sat32 (d.pathCnt k).crossed, sat32 (d.pathCnt k).cmdTmo, word (d.pathCnt k).peak, 0]))
    ∧ (argB c 0 9 = true → exec (.cmdPathStatus c) s = .next (s.replied c d
      ((List.range 8).map fun i => sat32 (tget 0 (d.pathCnt k).orders (i + 1))))))

/-- Chapter 01: the steps of an epoch, its radio slots and its ticks, while the timebase runs (rests on R21, R25, R39, R43, R48,
07 R205, 08 R235, 09 R256). -/
def Obligations.EpochEvents : Prop :=
  ∀ (s : State) (d : Dev), s.dev = d → d.tbs.en = true →
  -- TXN_RECHECK, 2 ms before the boundary, looks at the transactions of that boundary
  (∀ x : Dev, d.tbs.rechecked = false → x = d.advanceTo (d.nextBoundary * epU - 2 * msU) →
    exec .txnRecheck s = .next (s.after (x.txn.committed.foldl (fun (y : Dev) (t : Comm) =>
      if t.target = y.nextBoundary then y.txnRecheck t else y) { x with tbs := { x.tbs with rechecked := true } })))
  -- EPOCH_CUTOFF, 250 us before it
  ∧ (∀ x : Dev, d.tbs.cutoff = false → x = d.advanceTo (d.nextBoundary * epU - 250 * usU) →
    exec .epochCutoff s = .next (s.after { x with tbs := { x.tbs with cutoff := true } }))
  -- BEACON_FREEZE, 1 ms before it: Bugle samples, and then the beacon is frozen
  ∧ (∀ (e : Nat) (x y z : Dev), d.tbs.frozen = false → e = d.nextBoundary → x = (d.advanceTo (e * epU - msU)).refreshTime →
    x.fleetUp = true → y = x.pwrRecheck e → y.bgl.up = true → y.blw.st ≠ PwrSt.night → z = y.sampling e → z.fleetUp = true →
    z.blw.st ≠ PwrSt.night → ∃ w : Dev, w = z.freezeBeacon e ∧
      exec .beaconFreeze s = .next (s.after { w with tbs := { w.tbs with frozen := true } }))
  -- with Bugle down there is no token and no beacon
  ∧ (d.tbs.frozen = false → d.bgl.up = false → d.fleetUp = false → ∃ t, exec .beaconFreeze s = .next t ∧ t.dev.tbs.frozen = true
      ∧ t.dev.bgl.token = [] ∧ t.dev.bgl.bitmap = 0 ∧ t.dev.rad.beacon = []
      ∧ t.dev.bgl.beacons = (none :: d.bgl.beacons).take 4)
  -- EPOCH_BOUNDARY: the new epoch number, its slot and tick 0
  ∧ (∀ (mon : List LaneMon) (b : Nat) (x : Dev), b = d.nextBoundary →
    x = (((d.advanceTo (b * epU)).unfrozen.newEpoch b).applySteer).radBoundary → x.fleetUp = false →
    exec (.epochBoundary mon) s = .next (s.after x))
  ∧ (∀ (mon : List LaneMon) (b : Nat) (x : Dev), b = d.nextBoundary →
    x = (((d.advanceTo (b * epU)).unfrozen.newEpoch b).applySteer).radBoundary → x.fleetUp = true →
    exec (.epochBoundary mon) s = .next (s.after ((((x.applyShadows.txnBoundary b).powerAtBoundary).servicesAtBoundary mon).refreshTime)))
  -- SLOT_START at the k-th radio slot of the epoch
  ∧ (∀ (k : Nat) (x : Dev), d.tbs.resync = false → d.tbs.slotsFired = k → k < 40 →
    x = d.advanceTo (d.gen.epochFull * epU + k * slotU) →
    ∃ y : Dev, y = Dev.stopWindow { x with gen := { x.gen with slot := k }, tbs := { x.tbs with slotsFired := k + 1, winEnded := false } } ∧
      (y.fleetUp = true → exec .slotStart s = .next (s.after y.airEnd.followerEnd))
      ∧ (y.fleetUp = false → exec .slotStart s = .next (s.after y)))
  -- STOP_WINDOW_END, 200 us after the slot's start
  ∧ (∀ x : Dev, d.tbs.resync = false → d.tbs.winEnded = false → d.tbs.slotsFired ≠ 0 → x = d.advanceTo (d.slotStart + 200 * usU) →
    (x.fleetUp = true → exec .stopWindowEnd s = .next (s.after (Dev.slotFrames { x with tbs := { x.tbs with winEnded := true } })))
    ∧ (x.fleetUp = false → exec .stopWindowEnd s = .next (s.after { x with tbs := { x.tbs with winEnded := true } })))
  -- PROFILE_TICK j of the epoch, with no update to decide and no reset due
  ∧ (∀ (u : TickIn) (j : Nat) (x y : Dev), d.upd.contend = [] → d.upd.bootKind = none → d.tbs.resync = false → d.tbs.ticksFired = j →
    j < 100 → x = d.advanceTo (d.gen.epochFull * epU + j * msU) →
    y = { x with gen := { x.gen with tick := j }, tbs := { x.tbs with ticksFired := j + 1 } } → y.fleetUp = true →
    exec (.profileTick u) s = .next (s.after (((y.profileTick j).gnssTick j).bellowsTick u)))

/-- Chapter 01 R25, R39, R43: at a boundary the shadowed commands apply in the order in which they came, each to what those
before it left, and writes received after the cut-off wait for the next boundary. -/
def Obligations.ShadowsApplyInOrder : Prop :=
  ∀ (d : Dev) (l : List (Op × Cmd)), d.shadow = l →
    d.applyShadows = l.foldl Dev.applyShadow { d with shadow := d.shadowNext, shadowNext := [] }
    ∧ (∀ (op : Op) (c : Cmd), d.tbs.cutoff = false → (d.shadowed op c).shadow = l ++ [(op, c)] ∧ (d.shadowed op c).shadowNext = d.shadowNext)
    ∧ (∀ (op : Op) (c : Cmd), d.tbs.cutoff = true → (d.shadowed op c).shadow = l ∧ (d.shadowed op c).shadowNext = d.shadowNext ++ [(op, c)])
    ∧ (∀ x : Op × Cmd, x.1 ≠ .fixCfg → (d.runOp x.1 x.2).code = some .success → d.applyShadow x = (d.runOp x.1 x.2).st)

/-- Chapter 02: the registers that steer the timebase (rests on R52, R53, R55, R56, R61, R62, R498). -/
def Obligations.SteeringWrites : Prop :=
  ∀ (s : State) (d : Dev) (m : Master), s.dev = d → d.reaches m = true →
  -- TBS_EN of a stopped timebase: it starts from the held time and waits for the resume boundary
  (∀ v : Word, d.tbs.en = false → wbit v 0 = true → wbit v 1 = d.tbs.refsel → wbits v 2 2 ≠ 3 →
    ∃ t, exec (.tbsEn m v) s = .next t ∧ t.dev.tbs.en = true ∧ t.dev.tbs.resync = true ∧ t.dev.tbs.steer = wbits v 2 2
      ∧ t.dev.tbs.timeValid = false ∧ t.dev.tbs.time = d.tbs.time
      ∧ t.dev.tbs.resumeAt = max (d.gen.epochFull + 1) (cdiv (d.tbs.time + 2 * msU) epU))
  -- TBS_REFSEL of a stopped timebase: the nominal increment of the new reference
  ∧ (∀ v : Word, d.tbs.en = false → wbit v 0 = false → wbit v 1 = !d.tbs.refsel → wbits v 2 2 ≠ 3 →
    ∃ t, exec (.tbsRefsel m v) s = .next t ∧ t.dev.tbs.refsel = wbit v 1 ∧ t.dev.tbs.incr = nominalIncr (wbit v 1)
      ∧ t.dev.tbs.en = false)
  -- a change of REFSEL of a running timebase, or a reserved STEER: CFG_REJECT, and nothing else
  ∧ (∀ v : Word, (wbits v 2 2 = 3 ∨ (d.tbs.en = true ∧ wbit v 1 ≠ d.tbs.refsel)) →
    exec (.tbsEn m v) s = .next (s.after d.cfgReject) ∧ exec (.tbsRefsel m v) s = .next (s.after d.cfgReject)
      ∧ exec (.tbsSteer m v) s = .next (s.after d.cfgReject))
  -- TBS_STEER of a running timebase waits for the boundary
  ∧ (∀ v : Word, d.tbs.en = true → wbit v 0 = true → wbit v 1 = d.tbs.refsel → wbits v 2 2 ≠ 3 → wbits v 2 2 ≠ d.tbs.steer →
    exec (.tbsSteer m v) s = .next (s.after { d with tbs := { d.tbs with steerNext := some (wbits v 2 2, d.applyEpoch) } }))
  -- TBS_INCR_WRITE by the steering agent: within 200 ppm of nominal, and outside
  ∧ (∀ v : BitVec 64, d.isAgent m = true →
    (5000 * ((v.toNat % 2 ^ 40 - nominalIncr d.tbs.refsel) + (nominalIncr d.tbs.refsel - v.toNat % 2 ^ 40)) ≤ nominalIncr d.tbs.refsel →
      exec (.tbsIncrWrite m v) s = .next (s.after { d with tbs := { d.tbs with incr := v.toNat % 2 ^ 40 } }))
    ∧ (nominalIncr d.tbs.refsel < 5000 * ((v.toNat % 2 ^ 40 - nominalIncr d.tbs.refsel) + (nominalIncr d.tbs.refsel - v.toNat % 2 ^ 40)) →
      exec (.tbsIncrWrite m v) s = .next (s.after { d with tbs := { d.tbs with incrReject := true } })))
  -- TBS_ADJ_WRITE of a small step forward: it applies in the next period
  ∧ (∀ (v : BitVec 64) (x : Dev), d.isAgent m = true → d.tbs.en = true → 0 ≤ v.toInt → v.toInt ≤ 999 →
    (d.goActive = false ∨ d.tbs.stepped = false) → x = d.learnXo (-v.toInt) →
    exec (.tbsAdjWrite m v) s = .next (s.after (x.applyStep v.toInt)))
  -- a step of more than 999 ns while GO is active, and a second step of an epoch: refused, with a record
  ∧ (∀ v : BitVec 64, d.isAgent m = true → d.tbs.en = true → d.goActive = true → 999 < v.toInt.natAbs →
    exec (.tbsAdjWrite m v) s = .next (s.after
      ((d.adjRefuse 1).log 0x4201 (leBytes 1 1 ++ List.replicate 7 0 ++ leBytes 8 (low 64 v.toInt)))))
  ∧ (∀ v : BitVec 64, d.isAgent m = true → d.tbs.en = true → d.goActive = true → v.toInt.natAbs ≤ 999 → d.tbs.stepped = true →
    exec (.tbsAdjWrite m v) s = .next (s.after
      ((d.adjRefuse 2).log 0x4201 (leBytes 1 2 ++ List.replicate 7 0 ++ leBytes 8 (low 64 v.toInt)))))
  -- TBS_SYNC_WRITE by the agent: the error bound starts anew
  ∧ (∀ v : Word, d.isAgent m = true → ∃ t, exec (.tbsSyncWrite m v) s = .next t ∧ t.dev.tbs.syncSeen = true
      ∧ t.dev.tbs.needSync = false ∧ t.dev.tbs.unc = wbits v 0 24 ∧ t.dev.tbs.syncAt = d.tbs.mono ∧ t.dev.tbs.holdover = false)
  -- a steering write by any other master is refused with reason 4
  ∧ (∀ (v : BitVec 64) (w : Word), d.isAgent m = false →
    exec (.tbsIncrWrite m v) s = .next (s.after (d.adjRefuse 4)) ∧ exec (.tbsAdjWrite m v) s = .next (s.after (d.adjRefuse 4))
      ∧ exec (.tbsSyncWrite m w) s = .next (s.after (d.adjRefuse 4)))

/-- Chapter 02 R62: the error bound never falls while nothing but time passes, so TIME_VALID does not come back by itself. -/
def Obligations.ErrorBoundGrows : Prop :=
  ∀ (d : Dev) (n : Nat), d.tbs.syncAt ≤ d.tbs.mono → d.tbs.at32 ≤ d.tbs.mono →
    d.errExact ≤ (d.advance n).errExact ∧ ((d.advance n).timeValid = true → d.timeValid = true)

/-- Chapter 02: launch gates, validity, PPS, captures, clocks and the reads that latch (rests on R24, R54, R57, R62 to R71). -/
def Obligations.TimebaseEvents : Prop :=
  ∀ (s : State) (d : Dev), s.dev = d →
  -- LG_ARM of a disarmed gate whose configuration R69 allows; DISARM of an armed one that keeps PERIODIC and POLARITY
  (∀ (m : Master) (n : Fin 16) (v : Word) (g : Lg), d.reaches m = true → (d.lgate n).armed = false → wbit v 0 = true → wbit v 1 = false →
    g = { d.lgate n with periodic := wbit v 2, polarity := wbit v 3 } → g.bad = false →
    exec (.lgArm m n v) s = .next (s.after
      ((d.lgateMod n fun _ => g.arm d.tbs.time).irqIf 4 ((g.arm d.tbs.time).late && !(d.lgate n).late))))
  ∧ (∀ (m : Master) (n : Fin 16) (v : Word) (g : Lg), d.reaches m = true → (d.lgate n).armed = false → wbit v 0 = true → wbit v 1 = false →
    g = { d.lgate n with periodic := wbit v 2, polarity := wbit v 3 } → g.bad = true →
    exec (.lgArm m n v) s = .next (s.after (d.lgErr n)))
  ∧ (∀ (m : Master) (n : Fin 16) (v : Word), d.reaches m = true → wbit v 1 = true → (d.lgate n).periodic = wbit v 2 →
    (d.lgate n).polarity = wbit v 3 →
    ∃ t, exec (.lgDisarm m n v) s = .next t ∧ t.dev.tbs.lg = tmod {} (tmod {} d.tbs.lg n fun g =>
      { g with armed := false, pulseEnd := min g.pulseEnd d.tbs.mono }) n fun g => { g with periodic := wbit v 2, polarity := wbit v 3 })
  -- HOLDOVER_ENTRY at 1.5 s after the latest TBS_SYNC write
  ∧ (d.tbs.syncSeen = true → d.tbs.mono ≤ d.tbs.syncAt + 1500 * msU →
    ∃ t, exec .holdoverEntry s = .next t ∧ t.dev.tbs.holdover = true ∧ t.dev.tbs.mono = d.tbs.syncAt + 1500 * msU)
  -- TIME_VALID_LOSS: TIME_VALID is clear afterwards
  ∧ (d.timeValid = true → 0 < d.drift → d.tbs.at32 ≤ d.tbs.mono → d.tbs.syncAt ≤ d.tbs.mono →
    d.on32Time ≤ d.sinceSync → ∃ t, exec .timeValidLoss s = .next t ∧ t.dev.tbs.timeValid = false)
  -- TBS_TIME_READ: word 0 latches, the other words come from the latch
  ∧ (∀ m : Master, exec (.tbsTimeRead m 0) s = .next (s.after
      (Dev.readOut { d with tbs := { d.tbs with timeLatch := tset 0 d.tbs.timeLatch (masterKey m) (timeWord d.tbs.time) } }
        [word (tget 0 (tset 0 d.tbs.timeLatch (masterKey m) (timeWord d.tbs.time)) (masterKey m) / 2 ^ (32 * 0))])))
  ∧ (∀ (m : Master) (w : Fin 5), w.val ≠ 0 → w.val ≠ 4 →
    exec (.tbsTimeRead m w) s = .next (s.after (d.readOut [word (tget 0 d.tbs.timeLatch (masterKey m) / 2 ^ (32 * w.val))])))
  -- TBS_PPSI_READ and CAP_DATA_READ of a word other than the first change nothing but the reply
  ∧ (∀ (m : Master) (n : Fin 2) (w : Fin 5), w.val ≠ 0 → w.val ≠ 4 →
    exec (.tbsPpsiRead m n w) s = .next (s.after
      (d.readOut [word (tget 0 d.tbs.ppsLatch (2 * masterKey m + n.val) / 2 ^ (32 * w.val))])))
  ∧ (∀ (m : Master) (n : Fin 16) (w : Fin 5), w.val ≠ 0 → w.val ≠ 4 →
    exec (.capDataRead m n w) s = .next (s.after (d.readOut [word (tget 0 (d.capt n).latch (masterKey m) / 2 ^ (32 * w.val))])))
  -- CAP_DATA_READ of word 0 takes an item
  ∧ (∀ (m : Master) (n : Fin 16), ∃ t, exec (.capDataRead m n 0) s = .next t ∧ t.dev.tbs.cap = tmod {} d.tbs.cap n fun c =>
      { c with q := (d.capt n).q.pop.2, latch := tset 0 c.latch (masterKey m) (((d.capt n).q.pop.1.map capWord).getD 0) })
  -- GEN_EPOCH_READ of 64 bits, and of word 0
  ∧ (∀ m : Master, exec (.genEpochRead m 2) s = .next (s.after (d.readOut [d.epoch, d.epochHi])))
  ∧ (∀ m : Master, exec (.genEpochRead m 0) s = .next (s.after (Dev.readOut { d with gen := { d.gen with
      epochLatch := tset none d.gen.epochLatch (masterKey m) (some d.epochHi) } } [d.epoch])))
  -- PPS_OUT_PULSE of an enabled output, at its next instant; with GATE and TIME_VALID clear it stays inactive
  ∧ (∀ (n : Fin 2) (k : Nat), d.tbs.en = true → k = max (tget 0 d.tbs.ppsDue n.val) (d.tbs.time / secU) →
    d.tbs.time ≤ k * secU + (d.ppsAt n k).offset * nsU → (d.ppsAt n k).enable = true →
    ∃ t, exec (.ppsOutPulse n) s = .next t ∧ t.dev.tbs.time = k * secU + (d.ppsAt n k).offset * nsU
      ∧ t.dev.tbs.ppsDue = tset 0 d.tbs.ppsDue n (k + 1)
      ∧ ((d.ppsAt n k).gate = false → t.dev.tbs.ppsPulses = tmod 0 d.tbs.ppsPulses n (· + 1)))
  -- PPS_IN_EDGE and PPS_MISSING
  ∧ (∀ (n : Fin 2) (dt : Nat), exec (.ppsInEdge n dt) s = .next (s.after ((d.advance dt).ppsInMod n fun p =>
      { p with time := (d.advance dt).tbs.time, count := p.count + 1, missing := false, mono := (d.advance dt).tbs.mono })))
  ∧ (∀ n : Fin 2, exec (.ppsMissing n) s = .next (s.after
      ((d.advanceMono ((d.ppsIn n).mono + 1100 * msU)).ppsInMod n fun p => { p with missing := true })))
  -- REFCLK_LOSS in RUN or DOZE is a safety-island fault; REFCLK_RETURN
  ∧ (d.gen.refclkOk = true → d.blw.st ≠ PwrSt.night → exec .refclkLoss s = .next (s.after
      ((Dev.setClock { d with gen := { d.gen with refclkOk := false } } true).islandFault.refreshTime)))
  ∧ (d.blw.st ≠ PwrSt.night → exec .refclkReturn s = .next (s.after
      ((Dev.setClock { d with gen := { d.gen with refclkOk := true } } false).refreshTime)))
  -- OSC_CHECK above 5 %, and within; ISLAND_FAULT
  ∧ (∀ p, 50000 < p → exec (.oscCheck p) s = .next (s.after d.islandFault))
  ∧ (∀ p, p ≤ 50000 → exec (.oscCheck p) s = .next (s.after d))
  ∧ exec .islandFault s = .next (s.after d.islandFault)
  -- FIRMWARE_TIMER
  ∧ (∀ n : Fin 5, d.tbs.en = true →
    exec (.firmwareTimer n) s = .next (s.after { d with tbs := { d.tbs with fwTimers := tinc d.tbs.fwTimers n.val } }))

/-- Chapter 02 R69: a launch gate is armed only with a width, a period and a pulse that R69 allows. -/
def Obligations.ArmedGatesAreSound : Prop :=
  ∀ (d : Dev) (n : Nat) (v : Word), (d.lgate n).armed = false → wbit v 0 = true → wbit v 1 = false →
    ((d.lgCtrl n v).lgate n).armed = true →
      10 ≤ ((d.lgCtrl n v).lgate n).width ∧ 1000 ≤ ((d.lgCtrl n v).lgate n).period
        ∧ (((d.lgCtrl n v).lgate n).periodic = true → ((d.lgCtrl n v).lgate n).width + 10 ≤ ((d.lgCtrl n v).lgate n).period)
        ∧ d.tbs.time + usU ≤ ((d.lgCtrl n v).lgate n).next

/-- Chapter 03: what each command of the tracking block does once its checks pass (rests on R77, R84 to R91, R98 to R102, R108,
R111). -/
def Obligations.GnssCommandsRun : Prop :=
  ∀ (c : Cmd) (s : State) (d : Dev) (k ch : Nat), s.dev = d → argF c 0 0 3 = k → argF c 0 0 11 = ch →
  -- GNS_LANE_CFG: a disabled lane takes a format that R77 allows
  (d.accepts .gnsLaneCfg c = true → (d.lane k).en = false →
    4000000 ≤ (arg c 1).toNat → (arg c 1).toNat ≤ 125000000 →
    (argB c 0 6 = true → argI c 3 = 0) → (argB c 0 6 = false → 0 < argI c 3 ∧ 2 * argI c 3 < ((arg c 1).toNat : Int)) →
    (argB c 0 9 = true → argF c 4 0 16 ≠ 0 ∧ argF c 4 16 16 ≠ 0 ∧ (arg c 1).toNat * argF c 4 16 16 = d.refHz * argF c 4 0 16) →
    exec (.gnsLaneCfg c) s = .next (s.replied c (d.laneMod k fun l => { l with
      configured := true, antB := argB c 0 3, group := argF c 0 4 2, complex := argB c 0 6, bits4 := argB c 0 7
      twos := argB c 0 8, coherent := argB c 0 9, invert := argB c 0 10, rate := (arg c 1).toNat, rf := (arg c 2).toNat
      ifHz := argI c 3, num := argF c 4 0 16, den := argF c 4 16 16 }) []))
  -- GNS_LANE_EN: from the next tick
  ∧ (d.accepts .gnsLaneEn c = true → (d.lane k).configured = true →
    exec (.gnsLaneEn c) s = .next (s.replied c (d.laneMod k fun l => { l with enNext := some (argB c 0 3) }) []))
  -- GNS_MON_CFG: at the boundary
  ∧ (d.accepts .gnsMonCfg c = true → argF c 1 0 16 < argF c 1 16 16 → (argB c 0 3 = true → (d.lane k).bits4 = true) →
    exec (.gnsMonCfg c) s = .next (s.waits .gnsMonCfg c []) ∧
    d.runOp .gnsMonCfg c = done (d.laneMod k fun l => { l with
      blank := argB c 0 3, nbDb := argF c 0 4 8, monBand := some (argF c 1 0 16, argF c 1 16 16) }) [])
  -- GNS_MEAS_CFG: at the boundary
  ∧ (d.accepts .gnsMeasCfg c = true →
    exec (.gnsMeasCfg c) s = .next (s.waits .gnsMeasCfg c []) ∧
    d.runOp .gnsMeasCfg c = done { d with gnss := { d.gnss with rate := argF c 0 0 3 } } [])
  -- GNS_CHAN_ALLOC: the channel of R87 is promised, and the response names it
  ∧ (∀ n : Nat, d.accepts .gnsChanAlloc c = true → argF c 0 8 6 ≤ satMax (signal (argF c 0 3 5)).gnss →
    ((signal (argF c 0 3 5)).gnss = 1 ∨ argF c 0 17 4 = 0) →
    (d.lane k).takes (argF c 0 3 5) (argF c 0 17 4) = true → d.chanFor (argF c 0 14 3) = some n →
    (d.gnss.chans.all fun x => x.2.ident != some (k, argF c 0 3 5, argF c 0 8 6, argF c 0 17 4)) = true →
    exec (.gnsChanAlloc c) s = .next (s.replied c (d.chanMod n fun x => { x with next := some {
      lane := k, sig := argF c 0 3 5, sat := argF c 0 8 6, prio := argF c 0 14 3, fcnIdx := argF c 0 17 4
      pinned := true } }) [word n]))
  -- GNS_CHAN_FREE: from the next tick
  ∧ (d.accepts .gnsChanFree c = true → ch < d.nChans → (d.chan ch).ident.isSome = true →
    exec (.gnsChanFree c) s = .next (s.replied c (d.chanMod ch fun x => { x with next := none, freeing := true }) []))
  -- GNS_PLAN: at the boundary
  ∧ (d.accepts .gnsPlan c = true →
    ((List.range 22).all fun sig => !(argF c 1 0 22).testBit sig
      || (if sig = 4 ∨ sig = 5 then (d.lane k).takes sig 0 && (d.lane k).takes sig 13 else (d.lane k).takes sig 7)) = true →
    exec (.gnsPlan c) s = .next (s.waits .gnsPlan c []) ∧
    d.runOp .gnsPlan c = done (d.laneMod k fun l => { l with
      planPrio := some (argF c 0 3 3), planElev := argF c 0 6 7
      planConst := BitVec.ofNat 6 (argF c 0 13 6), planSigs := BitVec.ofNat 22 (argF c 1 0 22) }) [])
  -- GNS_ACQ in cold or warm mode: the channel searches, and its request stands last in the engine's queue
  ∧ (d.accepts .gnsAcq c = true → ch < d.nChans → argF c 0 11 2 < 2 →
    (argF c 0 11 2 = 1 → 0 < argF c 2 0 16 ∧ argF c 2 0 16 ≤ 2000) → (d.chan ch).st ≠ .free →
    (d.lane (d.chan ch).lane).en = true → d.gnss.acqQ.length < 64 →
    exec (.gnsAcq c) s = .next (s.replied c { d.chanMod ch (fun x => { x with st := .acq }) with gnss :=
      { (d.chanMod ch (fun x => { x with st := .acq })).gnss with
        shed := d.gnss.shed.filter (· ≠ ch)
        acqQ := d.gnss.acqQ ++ [{ ch := ch, mode := argF c 0 11 2, dopHz := argI c 1, halfHz := argF c 2 0 16 }] } } []))
  -- GNS_LANE_STATUS: the latched flags are answered and cleared; the rate of a lane without coherence is a free value
  ∧ (∀ r : Word × Dev, d.accepts .gnsLaneStatus c = true →
    r = (if (d.lane k).en && (d.lane k).coherent then (word (d.lane k).rate, d) else d.draw) →
    exec (.gnsLaneStatus c) s = .next (s.replied c
      (r.2.laneMod k fun l => { l with clkSlip := false, fifo := { l.fifo with hiSeen := false, loSeen := false } })
      [word (b2n (d.lane k).en + 2 * b2n (d.lane k).clkLost + 4 * b2n (d.lane k).clkSlip + 8 * b2n (d.lane k).agcOut
        + 16 * b2n (d.lane k).interf + 32 * b2n (d.lane k).fifo.hiSeen + 64 * b2n (d.lane k).fifo.loSeen
        + 128 * b2n (!(d.lane k).coherent) + 256 * (d.lane k).fifo.items.length),
       sat32 (d.lane k).fifo.drops, sat32 d.gnss.measMissed,
       word ((d.lane k).monLevel + 2 ^ 16 * (d.lane k).notches.length), word (d.lane k).blanked,
       sat32 (d.gnss.chans.filter fun x => x.2.lane == k && x.2.st == .track).length,
       sat32 (d.gnss.chans.filter fun x => x.2.lane == k && x.2.st == .acq).length, r.1]))
  -- GNS_CHAN_STATUS: nothing changes but the reply and the count
  ∧ (∀ h : Chan, d.accepts .gnsChanStatus c = true → ch < d.nChans → h = d.chan ch →
    exec (.gnsChanStatus c) s = .next (s.replied c d
      [word (chCode h.st + 8 * b2n h.pinned + 16 * h.prio + 128 * h.lane + 1024 * h.sig + 32768 * h.sat
        + 2 ^ 21 * h.fcnIdx + 2 ^ 25 * (h.cn0 / 4)), word (low 32 h.dop),
       word ((if h.st = .track then min ((d.tbs.mono - h.lockAt) / epU) 65535 else 0) + 2 ^ 16 * h.qflags.toNat),
       sat32 h.searches]))
  -- GNS_MEAS_READ: the read waits for the next block
  ∧ (d.accepts .gnsMeasRead c = true → (d.reads.filter fun r => r.path == c.path).length < 16 →
    exec (.gnsMeasRead c) s = .next (s.underway c { d with reads := d.reads ++
      [{ kind := .meas, path := c.path, tag := c.tag, addr := arg64 c 1, len := (arg c 3).toNat, at_ := d.tbs.mono }] }))

/-- Chapter 03: what the events of lanes, channels and acquisition do (rests on R79 to R82, R85, R90, R91, R95, R108, R109). -/
def Obligations.GnssEvents : Prop :=
  ∀ (s : State) (d : Dev), s.dev = d →
  -- READ_TIMEOUT: NO_MEAS for the oldest pending read of the kind, 1 s after its submission
  (∀ (k : ReadKind) (r : PendRead), (d.reads.find? fun r => r.kind == k) = some r →
    ∃ t, exec (.readTimeout k) s = .next t ∧ t.dev.reads = d.reads.erase r
      ∧ t.dev.asyncQ = d.asyncQ ++ [{ path := r.path, tag := r.tag, op := readOp k, code := .noMeas, words := [] }]
      ∧ t.dev.tbs.mono = max d.tbs.mono (r.at_ + secU))
  -- SAMPLE_BLOCK: a HI crossing raises the GNSS domain to 0.88 V
  ∧ (∀ k : Fin 8, (d.lane k).en = true → (d.lane k).clkLost = false → ((d.lane k).fifo.push () true).2 = true →
    ∃ t, exec (.sampleBlock k) s = .next t ∧ t.dev.gnss.surge = true ∧ t.dev.gnss.vGnss = 880)
  -- SURGE_HOLD_END
  ∧ (d.gnss.surge = true → d.fifosLow = true →
    ∃ t, exec .surgeHoldEnd s = .next t ∧ t.dev.gnss.surge = false
      ∧ t.dev.tbs.mono = max d.tbs.mono (d.gnss.loSince + 100 * msU))
  -- COHERENT_LATCH: a growth other than NUM ± 1 is a slip
  ∧ (∀ (k : Fin 8) (g : Nat), (d.lane k).en = true → (d.lane k).coherent = true →
    exec (.coherentLatch k g) s = .next (s.after (d.laneMod k fun l => { l with
      latch := (l.latch + g) % 2 ^ 64, clkSlip := l.clkSlip || !(decide (l.num ≤ g + 1) && decide (g ≤ l.num + 1))
      slipNow := l.slipNow || !(decide (l.num ≤ g + 1) && decide (g ≤ l.num + 1)) })))
  -- LANE_CLOCK_LOST and LANE_CLOCK_RETURN
  ∧ (∀ k : Fin 8, (d.lane k).en = true → (d.lane k).clkLost = false →
    ∃ t, exec (.laneClockLost k) s = .next t
      ∧ t.dev.gnss.lanes = tmod {} d.gnss.lanes k fun l => { l with clkLost := true })
  ∧ (∀ k : Fin 8, (d.lane k).clkLost = true →
    ∃ t, exec (.laneClockReturn k) s = .next t
      ∧ t.dev.gnss.lanes = tmod {} d.gnss.lanes k fun l => { l with clkLost := false })
  -- COAST_LIMIT: the channel searches again in warm mode
  ∧ (∀ k : Fin 1536, (d.chan k).st = .coast → (d.lane (d.chan k).lane).clkLost = true →
    exec (.coastLimit k) s = .next (s.after
      (((d.advanceMono ((d.chan k).coastAt + (10 ^ 9 + 1 - (d.chan k).coastNs) * nsU)).chanMod k fun ch =>
        { ch with st := .acq, coastNs := 0 }).acqWarm k)))
  -- CORRELATOR_DUMP
  ∧ (∀ k : Fin 1536, (d.chan k).st = .track ∨ (d.chan k).st = .coast →
    exec (.correlatorDump k) s = .next (s.after (d.chanMod k fun ch => { ch with dumps := min (ch.dumps + 1) 0xFFFFFFFF })))
  -- ACQ_COMPLETE: a detection brings the channel of the queue's head to TRACK
  ∧ (∀ (cn0 : Nat) (dop : Int) (q : AcqReq) (qs : List AcqReq), d.gnss.acqQ = q :: qs → (d.chan q.ch).st = .acq →
    q.mode ≠ 2 →
    exec (.acqComplete true cn0 dop) s = .next (s.after
      ({ d with gnss := { d.gnss with acqQ := qs } }.chanMod q.ch fun _ => { d.chan q.ch with
        searches := min ((d.chan q.ch).searches + 1) 0xFFFFFFFF
        st := .track, cn0 := cn0, dop := dop, lockAt := d.tbs.mono, coastNs := 0, slip := true })))
  -- ACQ_RETRY: a channel in ACQ without a request searches again
  ∧ (∀ k : Fin 1536, (d.chan k).st = .acq → (d.gnss.acqQ.all fun q => q.ch != k.val) = true → d.gnss.acqQ.length < 64 →
    ∃ q : AcqReq, q.ch = k ∧ exec (.acqRetry k) s = .next (s.after { d with gnss := { d.gnss with acqQ := d.gnss.acqQ ++ [q] } }))

/-- Chapter 04: what each command of the reference station does once its checks pass (rests on R112 to R140). -/
def Obligations.ReferenceCommandsRun : Prop :=
  ∀ (c : Cmd) (s : State) (d : Dev), s.dev = d →
  -- REF_ARP_SURVEY, while Bugle issues no token and Orchard holds nothing
  (d.accepts .refArpSurvey c = true → argF c 0 0 17 ≤ argF c 1 0 17 → d.goActive = false → d.orc.store = [] →
    exec (.refArpSurvey c) s = .next (s.waits .refArpSurvey c []) ∧
    d.runOp .refArpSurvey c = done { d with ref := { d.ref with
      arpSt := .surveying, minS := argF c 0 0 17, maxS := argF c 1 0 17, targetMm := argF c 2 0 16, surveyAt := d.tbs.mono
      svInst := 0, svSolved := 0, svSum := (0, 0, 0), svErr := 0, svBaseN := 0, svBase := (0, 0, 0) } } [])
  -- REF_ARP_SET: HELD at the given position, with a baseline where bit 0 says so
  ∧ (d.accepts .refArpSet c = true → d.goActive = false → d.orc.store = [] →
    exec (.refArpSet c) s = .next (s.waits .refArpSet c []) ∧
    d.runOp .refArpSet c = done (Dev.saveArp { d with ref := { d.ref with
      arpSt := .held, arp := (signed 64 (arg64 c 1), signed 64 (arg64 c 3), signed 64 (arg64 c 5))
      baseline := if argB c 0 0 then some (argI c 7, argI c 8, argI c 9) else none
      zflArpNew := true, baseRun := 0, baseFixedAt := d.tbs.mono } }) [])
  -- REF_ANT_CFG: the words of the message, and twelve phase-centre offsets of 16 bits from word 1 on
  ∧ (d.accepts .refAntCfg c = true →
    exec (.refAntCfg c) s = .next (s.waits .refAntCfg c []) ∧
    d.runOp .refAntCfg c = done (Dev.saveArp { d with ref := { d.ref with
      ant := c.words, zflArpNew := true
      pco := (List.range 12).map fun i => signed 16 (argF c (1 + i / 2) (16 * (i % 2)) 16) } }) [])
  -- REF_STEER_CFG
  ∧ (d.accepts .refSteerCfg c = true →
    exec (.refSteerCfg c) s = .next (s.waits .refSteerCfg c []) ∧
    d.runOp .refSteerCfg c = done { d with ref := { d.ref with tauS := argF c 0 0 10 } } [])
  -- REF_OUT_CFG
  ∧ (d.accepts .refOutCfg c = true →
    exec (.refOutCfg c) s = .next (s.waits .refOutCfg c []) ∧
    d.runOp .refOutCfg c = done (d.corrOutMod (argF c 0 0 2) fun o => { o with
      bind := argF c 0 2 2, station := argF c 0 4 12, constEn := BitVec.ofNat 6 (argF c 1 0 6) }) [])
  -- REF_SCHED_SET with CLEAR
  ∧ (d.accepts .refSchedSet c = true → argB c 0 6 = true →
    exec (.refSchedSet c) s = .next (s.waits .refSchedSet c []) ∧
    d.runOp .refSchedSet c = done (d.corrOutMod (argF c 0 0 2) fun o => { o with
      sched := tset {} o.sched (argF c 0 2 4) {} }) [])
  -- REF_SCHED_SET of a type without MSM: a known type, OFFSET below PERIOD, on the grid of the measurement rate
  ∧ (∀ e : SchedEnt, d.accepts .refSchedSet c = true → argB c 0 6 = false →
    e = { typ := argF c 1 0 12, period := argF c 1 12 10, offset := argF c 1 22 10 } → rtcmType e.typ = true →
    1 ≤ e.period → e.period ≤ 600 → e.offset < e.period → (∀ g, obsKind e.typ ≠ some (g, 1)) → d.rateOk e = true →
    exec (.refSchedSet c) s = .next (s.waits .refSchedSet c []) ∧
    d.runOp .refSchedSet c = done (d.corrOutMod (argF c 0 0 2) fun o => { o with
      sched := tset {} o.sched (argF c 0 2 4) e }) [])
  -- REF_ZFL_CFG
  ∧ (d.accepts .refZflCfg c = true → argF c 0 9 10 % measEvery d.gnss.rate = 0 → d.fragFits (argF c 0 1 8) = true →
    exec (.refZflCfg c) s = .next (s.waits .refZflCfg c []) ∧
    d.runOp .refZflCfg c = done { d with ref := { d.ref with
      zflEn := argB c 0 0, zflBytes := argF c 0 1 8, zflPeriod := argF c 0 9 10, zflArpEvery := argF c 0 19 8
      zflConst := BitVec.ofNat 6 (argF c 1 0 6), zflFrags := [] } } [])
  -- REF_NTRIP_CFG with a name
  ∧ (d.accepts .refNtripCfg c = true → untilNul (argBytes c 2 8) ≠ [] →
    exec (.refNtripCfg c) s = .next (s.waits .refNtripCfg c []) ∧
    d.runOp .refNtripCfg c = done
      (Dev.corrOutMod { d with ref := { d.ref with ntPort := argF c 0 0 16, ntVid := argF c 0 16 12 } } (argF c 1 0 2)
        fun o => { o with ntEn := argB c 1 2, mount := argBytes c 2 8 }) [])
  -- REF_NTRIP_USER: a new user while fewer than 8 stand
  ∧ (d.accepts .refNtripUser c = true → argB c 0 2 = true → (d.corrOut (argF c 0 0 2)).users.length < 8 →
    ((d.corrOut (argF c 0 0 2)).users.any fun x => x.name == argBytes c 1 4) = false →
    exec (.refNtripUser c) s = .next (s.replied c (d.corrOutMod (argF c 0 0 2) fun o => { o with
      users := (d.corrOut (argF c 0 0 2)).users
        ++ [{ name := argBytes c 1 4, salt := argBytes c 5 2, digest := argBytes c 7 8 }] }) []))
  -- REF_NTRIP_USER with EN = 0: the user of the name is gone
  ∧ (d.accepts .refNtripUser c = true → argB c 0 2 = false →
    exec (.refNtripUser c) s = .next (s.replied c (d.corrOutMod (argF c 0 0 2) fun o => { o with
      users := (d.corrOut (argF c 0 0 2)).users.filter fun y => y.name ≠ argBytes c 1 4 }) []))
  -- REF_INTEG_CFG
  ∧ (d.accepts .refIntegCfg c = true →
    exec (.refIntegCfg c) s = .next (s.waits .refIntegCfg c []) ∧
    d.runOp .refIntegCfg c = done { d with ref := { d.ref with
      posTolDm := argF c 0 0 16, baseTol := argF c 0 16 8, recoverS := argF c 1 0 10, elevMask := argF c 1 10 6
      cn0Min := argF c 1 16 8 } } [])
  -- REF_STATUS: nothing changes but the reply and the count
  ∧ (d.accepts .refStatus c = true → exec (.refStatus c) s = .next (s.replied c d
      [word ((match d.ref.arpSt with | .none => 0 | .surveying => 1 | .held => 2) + 4 * d.ref.level + 16 * b2n d.ref.steered
        + 32 * b2n d.ref.baseline.isSome + 2 ^ 16 * d.ref.failing.toNat),
       sat32 (if d.ref.arpSt = .surveying then (d.tbs.mono - d.ref.surveyAt) / secU else d.ref.svSecs), sat32 d.ref.svErr,
       sat32 d.ref.used, sat32 d.ref.excluded, sat32 d.ref.ntSess.length, sat32 d.ref.ntRefused, sat32 d.ref.rtcmSent]))
  -- REF_CORR_READ waits for the next emission of its output
  ∧ (d.accepts .refCorrRead c = true → (d.reads.filter fun r => r.path == c.path).length < 16 →
    exec (.refCorrRead c) s = .next (s.underway c { d with reads := d.reads ++
      [{ kind := .corr (Fin.ofNat 4 (argF c 0 0 2)), path := c.path, tag := c.tag, addr := arg64 c 1, len := (arg c 3).toNat
         at_ := d.tbs.mono }] }))

/-- Chapter 04: the end of a survey that solved too few instants (rests on R113), and an NTRIP request (rests on R138, R139). -/
def Obligations.ReferenceEvents : Prop :=
  ∀ (s : State) (d : Dev), s.dev = d →
  (d.ref.arpSt = .surveying → 2 * d.ref.svSolved < d.ref.svInst →
    ∃ t, exec .surveyTimeout s = .next t ∧ t.dev.ref.arpSt = .none
      ∧ t.dev.ref.svSecs = (max d.tbs.mono (d.ref.surveyAt + d.ref.maxS * secU) - d.ref.surveyAt) / secU)
  ∧ (d.ref.arpSt = .surveying → 0 < d.ref.svSolved → d.ref.svInst ≤ 2 * d.ref.svSolved →
    ∃ t, exec .surveyTimeout s = .next t ∧ t.dev.ref.arpSt = .held ∧ t.dev.ref.arp = mean3 d.ref.svSum d.ref.svSolved)
  ∧ (∀ (r : NtripReq) (a : Nat × Option Nat), d.ntripAnswer r = a →
    exec (.ntripRequest r) s = .next (s.after { d with ref := { d.ref with
      ntStatus := a.1
      ntRefused := if a.1 = 200 then d.ref.ntRefused else min (d.ref.ntRefused + 1) 0xFFFFFFFF
      ntSess := match a.2 with | some o => d.ref.ntSess ++ [{ out := o, queued := 0 }] | none => d.ref.ntSess } })
    ∧ (r.v2 = false → a = (400, none)) ∧ (r.v2 = true → r.root = true → a = (200, none))
    ∧ (∀ o, a.2 = some o → d.ref.ntSess.length < 32 ∧ o < 4))

/-- Chapter 05: what each command of positioning does once its checks pass (rests on R143, R154, R163, R164). -/
def Obligations.PositioningCommandsRun : Prop :=
  ∀ (c : Cmd) (s : State) (d : Dev) (k : Nat), s.dev = d → argF c 0 0 8 = k →
  -- FIX_CFG that keeps the MODE: the filter and the position stay
  (d.accepts .fixCfg c = true → k < d.nSlots → argF c 0 8 2 = (d.fslot k).mode → (d.fixSet c true).searchFits = true →
    exec (.fixCfg c) s = .next (s.waits .fixCfg c []) ∧
    d.runOp .fixCfg c = done (d.fslotMod k fun f => { f with
      constEn := BitVec.ofNat 6 (argF c 0 10 6), floatOk := argB c 0 16, elev := argF c 0 17 7, ratioMin := argF c 0 24 8
      hal := argF c 1 0 16, val := argF c 1 16 16, accMax := argF c 2 0 8 }) [])
  -- FIX_CFG that changes the MODE, with the slot's bit clear in the bitmap in force: a position of the other mode is gone
  ∧ (d.accepts .fixCfg c = true → k < d.nSlots → argF c 0 8 2 ≠ (d.fslot k).mode → d.bitInForce k = false →
    (d.fixSet c true).searchFits = true →
    exec (.fixCfg c) s = .next (s.waits .fixCfg c []) ∧
    d.runOp .fixCfg c = done (d.fslotMod k fun f => { f with
      mode := argF c 0 8 2, newest := none, hist := [], filter := false, held := [], prevBest := [], obsFor := none
      float := none, fixes := [], hostRec := none
      constEn := BitVec.ofNat 6 (argF c 0 10 6), floatOk := argB c 0 16, elev := argF c 0 17 7, ratioMin := argF c 0 24 8
      hal := argF c 1 0 16, val := argF c 1 16 16, accMax := argF c 2 0 8 }) [])
  -- FIX_CFG of a MODE change under a set bit is refused
  ∧ (d.accepts .fixCfg c = true → k < d.nSlots → argF c 0 8 2 ≠ (d.fslot k).mode → d.bitInForce k = true →
    exec (.fixCfg c) s = .next (s.turnedDown .fixCfg c 8 .slotMoving))
  -- FIX_GLOBAL_CFG within the search budget of every uplink air slot
  ∧ (∀ t : Dev, d.accepts .fixGlobalCfg c = true → t = { d with fix := { d.fix with
      nodeK := argF c 0 0 10, pExp := argF c 0 10 4, kH := argF c 1 0 16, kV := argF c 1 16 16 } } →
    (∀ a, a < 24 → (t.central.filter fun k => k % 24 == a).length * ((t.fix.nodeK + 99) / 100) ≤ t.lanesN) →
    exec (.fixGlobalCfg c) s = .next (s.waits .fixGlobalCfg c []) ∧ d.runOp .fixGlobalCfg c = done t [])
  -- FIX_RESET: the filter and the held integers go
  ∧ (d.accepts .fixReset c = true → k < d.nSlots →
    exec (.fixReset c) s = .next (s.replied c (d.fslotMod k fun f => { f with
      filter := false, held := [], prevBest := [], dropSearch := f.float.isSome }) []))
  -- FIX_STATUS of the counts, and of the two groups of reasons: nothing changes but the reply and the count
  ∧ (∀ f : FixSlot, d.accepts .fixStatus c = true → k < d.nSlots → f = d.fslot k →
    (argF c 0 8 2 = 0 → ∃ st, st ≤ 3 + (f.newest.elim 0 Pos.status) ∧ exec (.fixStatus c) s = .next (s.replied c d
      [word (f.mode + 4 * st + 32 * f.reason + 512 * b2n (d.posOk k)), sat32 f.nAcc, sat32 f.nRef, sat32 f.nDup,
       sat32 f.nNon, sat32 f.nFixed, 0, 0]))
    ∧ (argF c 0 8 2 = 1 → exec (.fixStatus c) s = .next (s.replied c d
      [sat32 (tget 0 f.reasons 1), sat32 (tget 0 f.reasons 2), sat32 (tget 0 f.reasons 3), sat32 (tget 0 f.reasons 4),
       sat32 (tget 0 f.reasons 5), sat32 (tget 0 f.reasons 6), sat32 (tget 0 f.reasons 7), sat32 (tget 0 f.reasons 8)]))
    ∧ (argF c 0 8 2 = 2 → exec (.fixStatus c) s = .next (s.replied c d
      [sat32 (tget 0 f.reasons 9), sat32 (tget 0 f.reasons 10), sat32 (tget 0 f.reasons 11), 0, 0, 0, 0, 0])))
  -- FIX_READ waits for the next fix block
  ∧ (d.accepts .fixRead c = true → (d.reads.filter fun r => r.path == c.path).length < 16 →
    exec (.fixRead c) s = .next (s.underway c { d with reads := d.reads ++
      [{ kind := .fix, path := c.path, tag := c.tag, addr := arg64 c 1, len := (arg c 3).toNat, at_ := d.tbs.mono }] }))
  -- BRM_STATUS: the read clears the largest node count
  ∧ (d.accepts .brmStatus c = true →
    exec (.brmStatus c) s = .next (s.replied c { d with fix := { d.fix with maxNodes := 0 } }
      [sat32 d.fix.completed, sat32 d.fix.capped, word (min d.fix.peak 65535 + 2 ^ 16 * (if d.full then 8 else 4)),
       sat32 d.fix.maxNodes, 0, 0, 0, 0]))

/-- Chapter 05: instants, filters and searches (rests on 03 R101 to R105, R148 to R158). -/
def Obligations.PositioningEvents : Prop :=
  ∀ (s : State) (d : Dev), s.dev = d →
  -- MEASUREMENT_INSTANT: the channels that track are fixed, and the CENTRAL slots await the fixes of the instant
  (d.measDue = true → d.gnss.inst = none →
    exec .measurementInstant s = .next (s.after d.takeInstant.fixInstant) ∧ d.takeInstant.fixInstant.fix.refFor = none)
  -- MEAS_BLOCK_READY within 25 ms, the integrity level below ALARM: the block supplies the fixes of its instant
  ∧ (∀ (b : MeasIn) (i : MeasInst) (x y : Dev), d.gnss.inst = some i → x = d.advanceTo (i.tai + b.readyUs * usU) →
    y = (x.blockReady i b).refBlock i b → y.ref.level ≠ 2 → b.readyUs ≤ 25000 →
    (exec (.measBlockReady b) s = .next (s.after (y.refBack x.ref.lostAt i.full)))
    ∧ (y.refBack x.ref.lostAt i.full).fix.refFor = some i.full)
  -- REF_WAIT_TIMEOUT, 25 ms after the instant: every CENTRAL slot that has no record for it gets NO_REF
  ∧ (∀ (i : Nat × Nat) (x : Dev), d.fix.inst = some i → d.gnss.inst.isSome = true → x = d.advanceMono (i.2 + 25 * msU) →
    x.tbs.mono = max d.tbs.mono (i.2 + 25 * msU)
    ∧ exec .refWaitTimeout s = .next (s.after (x.central.foldl (fun y k => y.noFix k 2)
        { x with ref := { x.ref with lostAt := some (x.ref.lostAt.getD x.tbs.mono) } })))
  -- FILTER_UPDATE with 4 searchable ambiguities or more: the search is submitted
  ∧ (∀ (k : Fin 192) (f : FilterIn) (i : Nat × Nat), k.val < d.nSlots → (d.fslot k).mode = 1 → d.fix.inst = some i →
    (d.fslot k).obsFor = some i.1 → d.fix.refFor = some i.1 → (d.fslot k).hostRec = none → (d.fslot k).float = none →
    4 ≤ f.namb →
    ∃ t, exec (.filterUpdate k f) s = .next t ∧ t.dev.tbs.mono = max d.tbs.mono (i.2 + f.readyUs * usU)
      ∧ t.dev.fix.searchQ = d.fix.searchQ ++ [(k.val, i.1)] ∧ t.dev.fix.peak = max d.fix.peak (d.fix.searchQ.length + 1)
      ∧ t.dev.fix.slots = tmod {} d.fix.slots k fun y => { y with filter := true, float := some f, dropSearch := false })
  -- BRAMBLE_SEARCH_DONE: the oldest search leaves the queue, is counted and sampled, and its slot's result is validated
  ∧ (∀ (r : SearchIn) (q i : Nat × Nat) (qs : List (Nat × Nat)) (f : FilterIn) (x : Dev), d.fix.searchQ = q :: qs →
    (d.fslot q.1).float = some f → d.fix.inst = some i → i.1 = q.2 →
    x = { d.advanceMono (i.2 + r.readyUs * usU) with fix := { d.fix with
      searchQ := qs, completed := if r.complete then min (d.fix.completed + 1) 0xFFFFFFFF else d.fix.completed
      capped := if r.complete then d.fix.capped else min (d.fix.capped + 1) 0xFFFFFFFF
      maxNodes := max d.fix.maxNodes r.nodes } } →
    exec (.brambleSearchDone r) s = .next (s.after ((x.sample 5 0 ((r.nodes + 999) / 1000)).validate q.1 f r i)))

/-- Chapter 06: what each command of Orchard does once its checks pass (rests on R166, R171 to R173, R182, R187, R188, R191,
R195, R196). A command on a machine holder is followed by the recomputation of its channel's S_LIM (rests on 07 R207). -/
def Obligations.OrchardCommandsRun : Prop :=
  ∀ (c : Cmd) (s : State) (d : Dev) (h : Nat), s.dev = d → argF c 0 0 8 = h →
  -- ORC_GRID_CFG while nothing stands
  (d.accepts .orcGridCfg c = true → d.orc.store = [] →
    exec (.orcGridCfg c) s = .next (s.replied c { d with orc := { d.orc with grid := some {
      log2 := argF c 0 0 3, ni := argF c 0 3 10 + 1, nj := argF c 0 13 10 + 1, e0 := argI c 1, n0 := argI c 2 } } } []))
  -- ORC_GLOBAL_CFG
  ∧ (d.accepts .orcGlobalCfg c = true →
    exec (.orcGlobalCfg c) s = .next (s.waits .orcGlobalCfg c []) ∧
    d.runOp .orcGlobalCfg c = done { d with orc := { d.orc with guard := argF c 0 0 8, peopleMin := argF c 0 8 14 } } [])
  -- ORC_SLOT_CFG of a slot at rest
  ∧ (d.accepts .orcSlotCfg c = true → h < d.nSlots → d.moving h = false →
    exec (.orcSlotCfg c) s = .next (s.waits .orcSlotCfg c []) ∧
    d.runOp .orcSlotCfg c = done ((d.oslotMod h fun _ => {
      depot := argB c 0 8, foot := argF c 0 16 16, vMax := argF c 1 0 16, tReact := argF c 1 16 16 }).slimOne h) [])
  -- ORC_SLOT_CFG of a moving slot is refused
  ∧ (d.accepts .orcSlotCfg c = true → h < d.nSlots → d.moving h = true →
    exec (.orcSlotCfg c) s = .next (s.turnedDown .orcSlotCfg c 8 .slotMoving))
  -- ORC_ZONE_CFG of a zone that holds nothing
  ∧ (d.accepts .orcZoneCfg c = true → 192 ≤ h → (d.orc.store.any fun x => x.holder == h) = false →
    argF c 0 8 2 ≠ d.zoneType h →
    exec (.orcZoneCfg c) s = .next (s.replied c
      { d with orc := { d.orc with zones := tset 0 d.orc.zones (h - 192) (argF c 0 8 2) } } []))
  -- ORC_REQUEST without REPLACES that passes checks 1 to 9, meets no conflict and finds room: granted whole, on every tile
  ∧ (∀ (b : OrcJob) (g : Nat), d.accepts .orcRequest c = true → d.orcCheck (orcParse c) = .ok b → b.req = orcParse c →
    b.req.replaces = none → b.req.force = false → d.firstConflict b = none → d.orcRoom b = none →
    g = (d.nextId 0xFFFF d.orc.nextGrant).getD d.orc.nextGrant →
    ∃ t : Dev, t = { d with orc := { d.orc with
        store := d.orc.store ++ b.tiles.map fun x => b.iv g x, nextGrant := (g + 1) % 0xFFFF } }.promote ∧
    exec (.orcRequest c) s = .next (s.replied c
      (Dev.afterOrc { t with orc := { t.orc with grants := min (t.orc.grants + 1) 0xFFFFFFFF } } .orcRequest c)
      [word (g + 2 ^ 16 * b2n b.clipped + 2 ^ 19 * b.tiles.length), 0, 0]))
  -- ORC_REQUEST that meets a conflict: nothing is granted, and the response names the conflict
  ∧ (∀ (b : OrcJob) (x : Interval), d.accepts .orcRequest c = true → d.orcCheck (orcParse c) = .ok b →
    (orcParse c).force = false → d.firstConflict b = some x →
    exec (.orcRequest c) s = .next (s.after ((Dev.countOrder { d with orc := { d.orc with
        denials := min (d.orc.denials + 1) 0xFFFFFFFF, denWin := d.orc.denWin + 1 } } c.path 8).answer .orcDenied c.tag
      [word (0xFFFF + 2 ^ 16 * b2n b.clipped + 2 ^ 19 * b.tiles.length), word (x.holder + 2 ^ 8 * x.i + 2 ^ 18 * x.j),
       word (max b.ts (x.tStart - d.orc.guard))] d.epoch)))
  -- ORC_RELEASE of a zone's grant or of all its grants: they are gone, and claims that they blocked are granted
  ∧ (d.accepts .orcRelease c = true → 192 ≤ h → (d.froz h).frozen = false →
    (argF c 0 16 16 = 0xFFFF ∨ (d.grantsOf h).contains (argF c 0 16 16) = true) →
    exec (.orcRelease c) s = .next (s.replied c (Dev.afterOrc (Dev.promote (d.dropIvs fun x =>
      x.holder == h && (argF c 0 16 16 == 0xFFFF || x.grant == argF c 0 16 16) && x.txn.isNone)) .orcRelease c) []))
  -- ORC_RELEASE_FROZEN: the freeze ends; an ACTIVE slot with POS_OK keeps a standing point
  ∧ (d.accepts .orcReleaseFrozen c = true → d.holderOk h = true → (d.froz h).frozen = true →
    exec (.orcReleaseFrozen c) s = .next (s.replied c (Dev.afterOrc (d.thaw h
      (if (d.rslot h).st = .active ∧ d.posOk h then (d.fslot h).newest else none)) .orcReleaseFrozen c) []))
  -- ORC_TILE_READ of a tile of the grid: the tile's intervals go to the buffer, and nothing else changes
  ∧ (∀ g : Grid, d.accepts .orcTileRead c = true → d.orc.grid = some g → argF c 0 0 10 < g.ni → argF c 0 10 10 < g.nj →
    ∃ bs trunc, exec (.orcTileRead c) s = .next (s.replied c (d.toBuffer c.path (arg64 c 1) bs)
      [word bs.length, word (b2n trunc), d.epoch, 0]) ∧ bs.length ≤ (arg c 3).toNat)
  -- ORC_STATUS: the read clears the counts of grants and denials
  ∧ (d.accepts .orcStatus c = true →
    exec (.orcStatus c) s = .next (s.replied c { d with orc := { d.orc with grants := 0, denials := 0 } }
      [word (b2n d.orcHealthy + 2 * b2n d.orc.fault + 2 ^ 16 * ((List.range 192).filter fun k => (d.froz k).frozen).length),
       sat32 d.orc.store.length, sat32 ((d.orc.store.map fun x => (x.i, x.j)).dedup.length), sat32 d.liveGrants.length,
       sat32 ((d.orc.store.filter Interval.claim).length), sat32 d.orc.sweeps, sat32 d.orc.grants, sat32 d.orc.denials]))

/-- Chapter 06: the audit, and an operation that takes too long (rests on R193). -/
def Obligations.OrchardEvents : Prop :=
  ∀ (s : State) (d : Dev), s.dev = d →
  -- ORCHARD_AUDIT over a sound store
  (d.auditFail = none → exec .orchardAudit s = .next (s.after
    { d with orc := { d.orc with sweeps := d.orc.sweeps + 1, overrun := false } }))
  -- ORCHARD_AUDIT that finds a conflict: FAULT, no token until the next reset, a fleet stop
  ∧ (∀ x, d.auditFail = some x → d.bgl.up = true →
    ∃ t, exec .orchardAudit s = .next t ∧ t.dev.orc.fault = true ∧ t.dev.bgl.noToken = true ∧ t.dev.bgl.enable = false
      ∧ t.dev.bgl.stops = joinStop ⟨8, true, 0⟩ d.bgl.stops ∧ t.dev.bgl.stopOut = .low ∧ t.dev.orc.store = d.orc.store)
  -- the audit finds a tile exactly where two granted intervals conflict
  ∧ (d.auditFail = none ↔ ∀ x ∈ d.orc.store, ∀ y ∈ d.orc.store, x.pending = false → y.pending = false → d.conflict x y = false)
  -- ORCHARD_OP_OVERRUN: Orchard is not healthy until the next sweep
  ∧ ∃ t, exec .orchardOpOverrun s = .next t ∧ t.dev.orc.overrun = true ∧ t.dev.orcHealthy = false
      ∧ t = s.after { d with orc := t.dev.orc }

/-- Chapter 06: an unforced request that succeeds took no interval that conflicts with one the store held, and conflict is
symmetric (rests on R171, R173). -/
def Obligations.GrantsMeetNoConflict : Prop :=
  (∀ (c : Cmd) (s t : State) (b : OrcJob), s.dev.accepts .orcRequest c = true → s.dev.orcCheck (orcParse c) = .ok b →
    (orcParse c).force = false → exec (.orcRequest c) s = .next t → t.dev.reply.code = .success →
    ∀ x ∈ b.tiles, ∀ y ∈ s.dev.orc.store, s.dev.conflict (b.iv 0 x) y = false
  )
  ∧ (∀ (d : Dev) (x y : Interval), d.conflict x y = d.conflict y x)

/-- Chapter 07 and 14 R418: what each command of the profile engine and of the track library does once its checks pass. -/
def Obligations.ProfileCommandsRun : Prop :=
  ∀ (c : Cmd) (s : State) (d : Dev) (k : Nat) (p : Prf), s.dev = d → argF c 0 0 8 = k → p = d.pch k →
  -- PRF_CHAN_CFG of a channel at rest that stays enabled or disabled
  (d.accepts .prfChanCfg c = true → k < d.nSlots → argF c 2 16 16 ≤ argF c 1 16 16 → argF c 3 0 16 ≤ argF c 2 0 16 →
    argB c 0 8 = p.en → p.v = 0 → d.moving k = false →
    (∀ q : Prf, q = { p with
      reverseOk := argB c 0 9, aLat := argF c 0 16 16, accelCap := argF c 1 0 16, decelCap := argF c 1 16 16
      jerkCap := argF c 2 0 16, decelDef := argF c 2 16 16, jerkDef := argF c 3 0 16, revVMax := argF c 3 16 16 } → q ≠ p →
      exec (.prfChanCfg c) s = .next (s.replied c (d.pchMod k fun _ => q) [])))
  -- PRF_CHAN_CFG with other caps while the slot moves is refused
  ∧ (d.accepts .prfChanCfg c = true → k < d.nSlots → argF c 2 16 16 ≤ argF c 1 16 16 → argF c 3 0 16 ≤ argF c 2 0 16 →
    argB c 0 8 = p.en → argF c 1 0 16 ≠ p.accelCap → d.moving k = true →
    exec (.prfChanCfg c) s = .next (s.turnedDown .prfChanCfg c 8 .notHalted))
  -- PRF_LAG_CFG
  ∧ (d.accepts .prfLagCfg c = true → k < d.nSlots →
    exec (.prfLagCfg c) s = .next (s.waits .prfLagCfg c []) ∧
    d.runOp .prfLagCfg c = done (d.pchMod k fun p => { p with
      lagMm := argF c 0 8 13, lagMs := argF c 0 21 11, deadMm := argF c 1 0 10, xtrack := argF c 1 10 14 }) [])
  -- PRF_SEG_PUSH as the first segment that an enabled channel ever holds: it joins the queue with the caps in force
  ∧ (∀ t : Track, d.accepts .prfSegPush c = true → k < d.nSlots → p.st ≠ .off → p.queue = [] → p.everHeld = false →
    t = d.track (argF c 0 16 16) → t.loaded = true → (arg c 2).toNat ≤ t.len → (arg c 3).toNat ≤ t.len →
    (argB c 0 8 = true → p.reverseOk = true) →
    exec (.prfSegPush c) s = .next (s.replied c
      (Dev.slimOne (d.pchMod k fun x => { x with
        queue := x.queue ++ [{
          track := argF c 0 16 16, seg := argF c 1 0 16, rev := argB c 0 8, dwell := argF c 1 16 16
          sta0 := (arg c 2).toNat, sta1 := (arg c 3).toNat, vCap := min (argF c 4 0 16) (d.oslot k).vMax
          accel := min (argF c 4 16 16) p.accelCap, decel := min (argF c 5 0 16) p.decelCap
          jerk := min (argF c 5 16 16) p.jerkCap, eff := d.nextBase
          rising := if (arg c 2).toNat = (arg c 3).toNat then p.rest.elim true Seg.rising
            else decide ((arg c 2).toNat < (arg c 3).toNat) }]
        everHeld := true, entry := if x.queue.isEmpty then x.pos else x.entry
        behind := x.behind && !x.queue.isEmpty, target := if x.queue.isEmpty then none else x.target }) k)
      [word (b2n ((d.oslot k).vMax < argF c 4 0 16) + 2 * b2n (p.accelCap < argF c 4 16 16)
        + 4 * b2n (p.decelCap < argF c 5 0 16) + 8 * b2n (p.jerkCap < argF c 5 16 16) + 2 ^ 4)]))
  -- PRF_SEG_PUSH finds 16 segments queued
  ∧ (d.accepts .prfSegPush c = true → k < d.nSlots → p.st ≠ .off → 16 ≤ p.queue.length →
    exec (.prfSegPush c) s = .next (s.turnedDown .prfSegPush c 8 .prfQueueFull))
  -- PRF_FLUSH of a channel at rest on its head: the queue is empty and the channel is IDLE
  ∧ (∀ (g : Seg) (gs : List Seg) (n : Nat), d.accepts .prfFlush c = true → k < d.nSlots → p.st ≠ .off → p.queue = g :: gs →
    p.v = 0 → n = min ((p.pos - p.entry) / 2 ^ 32) g.len →
    exec (.prfFlush c) s = .next (s.replied c (Dev.slimOne (d.pchMod k fun _ => { p with
      queue := [], rest := some { g with sta1 := if g.rising then g.sta0 + n else g.sta0 - n }, entry := p.entry + n * 2 ^ 32
      target := none, retarget := none, stopAt := none, startAt := none, dwelt := 0, reversing := false
      st := .idle, stopped := false, waitPermit := false, covLimit := false }) k) []))
  -- PRF_RETARGET on a rising head to a station at or beyond the stop and not beyond its end: it ends there, what follows is gone
  ∧ (∀ (g : Seg) (gs : List Seg), d.accepts .prfRetarget c = true → k < d.nSlots → p.st ≠ .off → p.queue = g :: gs →
    g.rising = true → (arg c 1).toNat ≤ (d.track g.track).len → (arg c 1).toNat ≤ g.sta1 →
    g.sta0 + (p.stopPos - p.entry) / 2 ^ 32 ≤ (arg c 1).toNat →
    exec (.prfRetarget c) s = .next (s.replied c (Dev.slimOne (d.pchMod k fun _ => { p with
      queue := [{ g with sta1 := (arg c 1).toNat }], behind := false, target := none, stopAt := none, startAt := none
      retarget := none, reversing := false }) k) []))
  -- PRF_RETARGET without a queued segment is refused
  ∧ (d.accepts .prfRetarget c = true → k < d.nSlots → p.st ≠ .off → p.queue = [] →
    exec (.prfRetarget c) s = .next (s.turnedDown .prfRetarget c 8 .prfEmpty))
  -- PRF_DECEL: the demand, clamped to the cap, is in force or waits
  ∧ (∀ q : Prf, d.accepts .prfDecel c = true → k < d.nSlots → p.st ≠ .off →
    q = p.request (argF c 0 8 16) (p.waitJ.getD p.jerk) →
    exec (.prfDecel c) s = .next (s.replied c
      (d.pchMod k fun _ => { q with clamped := p.clamped || decide (p.decelCap < argF c 0 8 16) })
      [word (min (argF c 0 8 16) p.decelCap + 2 ^ 16 * b2n (p.decelCap < argF c 0 8 16) + 2 ^ 17 * b2n q.waitA.isSome)]))
  -- PRF_CLEAR of a lag stop at rest
  ∧ (d.accepts .prfClear c = true → k < d.nSlots → p.lag = true → d.moving k = false →
    exec (.prfClear c) s = .next (s.replied c (d.pchMod k fun x => { x with lag := false, lagCause := 0 }) []))
  -- PRF_STATUS: the read clears DECEL_CLAMPED; the state, the flags and the path position are answered
  ∧ (d.accepts .prfStatus c = true → k < d.nSlots →
    ∃ ws : List Word, exec (.prfStatus c) s = .next (s.replied c (d.pchMod k fun x => { x with clamped := false }) ws)
      ∧ ws.length = 8 ∧ ws.getD 1 0 = word (p.acc * 1000 / 2 ^ 32) ∧ ws.getD 7 0 = sat32 p.lagCount
      ∧ ws.getD 5 0 = word (p.decel + 2 ^ 16 * p.waitA.getD 0))
  -- TRK_LOAD of a sound image into a track that no segment names, with room: the track is the image
  ∧ (∀ t : Track, d.accepts .trkLoad c = true → trkOf (d.withArea .trkLoad c) = .ok t → d.trkUsed (argF c 0 0 16) = 0 →
    d.trkRoom (fun x => x == argF c 0 0 16) t.pts.length = true →
    exec (.trkLoad c) s = .next (s.replied c (d.trackMod (argF c 0 0 16) fun _ => t) [word (16 + 16 * t.pts.length)]))
  -- TRK_DELETE
  ∧ (d.accepts .trkDelete c = true → d.trkUsed (argF c 0 0 16) = 0 → (d.track (argF c 0 0 16)).loaded = true →
    exec (.trkDelete c) s = .next (s.replied c (d.trackMod (argF c 0 0 16) fun _ => {}) []))
  -- TRK_DELETE of a track that a queued segment names is refused
  ∧ (d.accepts .trkDelete c = true → 0 < d.trkUsed (argF c 0 0 16) →
    exec (.trkDelete c) s = .next (s.turnedDown .trkDelete c 8 .trkInUse))
  -- TRK_INFO: nothing changes but the reply and the count
  ∧ (∀ t : Track, d.accepts .trkInfo c = true → t = d.track (argF c 0 0 16) → t.loaded = true →
    exec (.trkInfo c) s = .next (s.replied c d
      [word t.len, word t.pts.length, word t.spacing, word (d.trkUsed (argF c 0 0 16))]))
  -- SLIM_RECOMPUTE: S_LIM of every channel
  ∧ exec .slimRecompute s = .next (s.after ((List.range d.nSlots).foldl Dev.slimOne d))

/-- Chapter 08: what each command of Bugle does once its checks pass (rests on R234, R237, R244 to R247, R251). -/
def Obligations.BugleCommandsRun : Prop :=
  ∀ (c : Cmd) (s : State) (d : Dev) (fleet : Bool) (m : BitVec 192), s.dev = d → argB c 0 0 = fleet → slotMask c = m →
  -- BGL_STOP: the stop is in force at once; of fleet scope it ends the latch and drives STOP_OUT
  (d.accepts .bglStop c = true → m.toNat < 2 ^ d.nSlots → d.bgl.up = true → (fleet = true ∨ m ≠ 0) →
    ∃ t : Dev, (∃ new : Bool, exec (.bglStop c) s = .next (s.replied c t [word (t.bgl.stopIdx + 2 ^ 20 * b2n new)]))
      ∧ t.bgl.stops = joinStop ⟨2, fleet, if fleet then 0 else m⟩ d.bgl.stops ∧ t.bgl.lastCause = 2
      ∧ t.bgl.enable = (d.bgl.enable && !fleet)
      ∧ t.bgl.stopOut = (if t.bgl.stops.any Stop.fleet || d.bgl.fault then .low else .high)
      ∧ t.orc = d.orc ∧ t.prf = d.prf ∧ t.rad = d.rad ∧ t.fix = d.fix ∧ t.txn = d.txn ∧ t.blw = d.blw)
  -- BGL_RELEASE of stops whose release rules hold: they go, or keep the slots that are not named
  ∧ (∀ left : List Stop, d.accepts .bglRelease c = true → m.toNat < 2 ^ d.nSlots →
    (d.bgl.stops.filter (namedStop fleet m)) ≠ [] →
    (∀ x ∈ d.bgl.stops, namedStop fleet m x = true → x.cause < 6 ∧ d.releaseOk x m = true) →
    left = (d.bgl.stops.map fun x : Stop => if x.fleet then x else { x with slots := x.slots &&& ~~~m }).filter
      (fun x => if x.fleet then !fleet else x.slots != 0) →
    ∃ t : Dev, exec (.bglRelease c) s = .next (s.replied c t []) ∧ t.bgl.stops = left ∧ t.bgl.enable = d.bgl.enable)
  -- BGL_RELEASE of a stop whose cause is present is refused
  ∧ (∀ x ∈ d.bgl.stops, d.accepts .bglRelease c = true → m.toNat < 2 ^ d.nSlots → namedStop fleet m x = true →
    d.releaseOk x m = false → exec (.bglRelease c) s = .next (s.turnedDown .bglRelease c 8 .bglCausePresent))
  -- BGL_RELEASE of a stop that only a reset ends is refused
  ∧ (∀ x ∈ d.bgl.stops, d.accepts .bglRelease c = true → m.toNat < 2 ^ d.nSlots → namedStop fleet m x = true → 6 ≤ x.cause →
    (∀ y ∈ d.bgl.stops, namedStop fleet m y = true → d.releaseOk y m = true) →
    exec (.bglRelease c) s = .next (s.turnedDown .bglRelease c 8 .bglResetOnly))
  -- BGL_ENABLE without a fleet stop, DEPLOYED with the production root and debug locked: the latch is set
  ∧ (d.accepts .bglEnable c = true → (∀ x ∈ d.bgl.stops, x.fleet = false) → d.sec.lc = 2 → d.bgl.testRoot = false →
    d.sec.debug = false →
    exec (.bglEnable c) s = .next (s.replied c { d with bgl := { d.bgl.buildAt d.gen.epochFull with enable := true } } []))
  -- BGL_ENABLE under a fleet stop is refused
  ∧ (∀ x ∈ d.bgl.stops, d.accepts .bglEnable c = true → x.fleet = true →
    exec (.bglEnable c) s = .next (s.turnedDown .bglEnable c 8 .bglStopInForce))
  -- BGL_DISABLE clears the latch, and no stop arises
  ∧ (d.accepts .bglDisable c = true →
    exec (.bglDisable c) s = .next (s.replied c { d with bgl := { d.bgl with enable := false } } []))
  -- BGL_ANCHOR_READ: the record of the generation goes to the buffer
  ∧ (∀ gen base, d.accepts .bglAnchorRead c = true → d.anchorOf (argF c 0 0 2 == 1) (argB c 0 2) = some (gen, base) →
    exec (.bglAnchorRead c) s = .next (s.replied c
      (d.toBuffer c.path (arg64 c 1) (d.anchorRecord (argF c 0 0 2 == 1) gen base)) [word gen]))

/-- Chapter 08: the events of chains, marks, heartbeat, bursts and pins (rests on R227, R229, R236 to R238, R242, R243). -/
def Obligations.BugleEvents : Prop :=
  ∀ (s : State) (d : Dev), s.dev = d →
  -- CHAIN_BUILT: the island holds the pebbles of the go or stop chain that was under way
  (d.sec.testFail = false → (d.kslot 2).full = true → d.bgl.goBusy = true →
    exec (.chainBuilt true) s = .next (s.after { d with bgl := { d.bgl with
      goBusy := false, goBuilt := true, goSeeds := tset [] d.bgl.goSeeds d.bgl.goGen (d.chainSeed "PQ-GOSEED" d.bgl.goGen) } }))
  ∧ (d.sec.testFail = false → (d.kslot 2).full = true → d.bgl.stopBusy = true →
    exec (.chainBuilt false) s = .next (s.after { d with bgl := { d.bgl with
      stopBusy := false, stopBuilt := true, reserve := min 16 (stopP - d.bgl.stopIdx)
      stopSeeds := tset [] d.bgl.stopSeeds d.bgl.stopGen (d.chainSeed "PQ-STSEED" d.bgl.stopGen) } }))
  -- GO_GEN_BUILD_START, 6,048,000 epochs before the last epoch of the generation
  ∧ (d.bgl.goBuilt = true → d.bgl.roll = false → d.bgl.goBase + (2 ^ 24 - 1) ≤ d.gen.epochFull + 6048000 →
    exec .goGenBuildStart s = .next (s.after { d with bgl := { d.bgl with goNextBusy := true } }))
  -- MARK_FLUSH
  ∧ exec .markFlush s = .next (s.after { d with bgl := { d.bgl with
      flashGo := d.bgl.markGo, flashStop := d.bgl.markStop, unflushed := 0 } })
  -- HEARTBEAT names the epoch being frozen
  ∧ (∀ e, exec (.heartbeat e) s = .next (s.after { d with bgl := { d.bgl with hb := some e } }))
  -- BURST_CONFIRM while no BURST_FAULT stands
  ∧ (∀ p : Fin 8, (d.bport p).waiting = true → (d.bport p).fault = false →
    ∃ t, exec (.burstConfirm p) s = .next t ∧ t = s.after (d.bportMod p fun b => { b with
      waiting := false, miss := 0, okRun := min (b.okRun + 1) 100, quiet := 0 }))
  -- BURST_CONFIRM_TIMEOUT: a record; the third miss in a row is BURST_FAULT
  ∧ (∀ (p : Fin 8) (x : Dev), (d.bport p).waiting = true →
    x = ((((d.advanceTo (d.slotStart + msU)).bportMod p fun b => { b with waiting := false, miss := min (b.miss + 1) 255, okRun := 0 }).rportMod
      p fun r => { r with missBurst := min (r.missBurst + 1) 0xFFFFFFFF }).log 0x4803
        (leBytes 1 p ++ leBytes 1 (min ((d.bport p).miss + 1) 255))) →
    exec (.burstConfirmTimeout p) s = .next (s.after
      (if 2 ≤ (d.bport p).miss ∧ (d.bport p).fault = false then x.burstFault p true else x)))
  -- ESTOP_STOP: the channel reads STOP and the fleet stops
  ∧ (∀ ch : Fin 2, d.bgl.up = true →
    ∃ t, exec (.estopStop ch) s = .next t ∧ t.dev.bgl.stops = joinStop ⟨1, true, 0⟩ d.bgl.stops ∧ t.dev.bgl.enable = false
      ∧ t.dev.bgl.stopOut = .low ∧ t.dev.bgl.lastCause = 1)
  -- ESTOP_RUN of both channels ends a DISCREPANCY that has seen both at STOP
  ∧ (∀ ch : Fin 2, (if ch = 0 then d.bgl.pinB else d.bgl.pinA) = true → d.bgl.bothStop = true →
    ∃ t, exec (.estopRun ch) s = .next t ∧ t.dev.bgl.pinA = true ∧ t.dev.bgl.pinB = true ∧ t.dev.bgl.discrep = false
      ∧ t.dev.bgl.stops = d.bgl.stops)
  -- ESTOP_DISCREPANCY
  ∧ (d.bgl.pinA ≠ d.bgl.pinB → ∃ t, exec .estopDiscrepancy s = .next t ∧ t.dev.bgl.discrep = true ∧ t.dev.bgl.stops = d.bgl.stops)
  -- PIN_CYCLE_DUE, 168 h after the latest full cycle
  ∧ (d.bgl.cycleRec = none → ∃ t, exec .pinCycleDue s = .next t ∧ t.dev.bgl.cycleDue = true
      ∧ t.dev.tbs.mono = max d.tbs.mono (d.bgl.cycleAt + 168 * (3600 * secU)))

/-- Chapter 08: a token is issued only under every condition of GO_COND, and its bitmap holds no slot one of whose conditions
fails; a sampling that issues a token moves the mark up to the revealed index, and one that does not leaves mark and index as
they were (rests on R229, R232, R238, R239). -/
def Obligations.TokensNeedEveryCondition : Prop :=
  (∀ (d : Dev) (e : Nat), d.bgl.roll = false → (d.sampling e).bgl.token ≠ [] →
    d.bgl.hb = some (epoch32 e) ∧ d.stopFleet = false ∧ d.ref.level ≠ 2 ∧ d.timeValid = true ∧ d.tbs.resync = false
      ∧ d.orcHealthy = true ∧ d.gen.tamper = false ∧ d.lifecycleOk = true ∧ d.bgl.enable = true
      ∧ ∀ k, (d.sampling e).bgl.bitmap.getLsbD k = true → k < d.nSlots ∧ (d.slotConds k).all id = true
  )
  ∧ (∀ (d : Dev) (e : Nat), d.bgl.roll = false →
    ((d.sampling e).bgl.token = [] → (d.sampling e).bgl.markGo = d.bgl.markGo ∧ (d.sampling e).bgl.goIdx = d.bgl.goIdx)
    ∧ ((d.sampling e).bgl.token ≠ [] → (d.sampling e).bgl.markGo = e - d.bgl.goBase ∧ (d.sampling e).bgl.goIdx = e - d.bgl.goBase
        ∧ (d.goConds e).all id = true ∧ d.bgl.noToken = false
        ∧ (d.bgl.markGen.1 = d.bgl.goGen → d.bgl.markGo < (d.sampling e).bgl.markGo)))

/-- Chapter 08 R235, R245: while an island fault stands, in NIGHT, or with no stop in force, a stop window sends no burst. -/
def Obligations.BurstsNeedAStop : Prop :=
  ∀ d : Dev, (d.bgl.fault = true ∨ d.blw.st = PwrSt.night ∨ d.bgl.stops = [] ∨ d.bgl.up = false) →
    d.stopWindow = { d with bgl := { d.bgl with bursting := false } }

/-- Chapter 09: what each command of the radio does once its checks pass (rests on R252, R255, R264, R268, R269, R273, R278,
R283, R288 to R290, 14 R419). -/
def Obligations.RadioCommandsRun : Prop :=
  ∀ (c : Cmd) (s : State) (d : Dev) (p k : Nat), s.dev = d → argF c 0 0 3 = p → argF c 0 0 8 = k →
  -- RAD_GLOBAL_CFG while every port is disabled
  (d.accepts .radGlobalCfg c = true → d.portsOff = true →
    exec (.radGlobalCfg c) s = .next (s.replied c { d with rad := { d.rad with pan := BitVec.ofNat 16 (argF c 0 0 16) } } []))
  -- RAD_GLOBAL_CFG with another PAN while a port is enabled is refused
  ∧ (d.accepts .radGlobalCfg c = true → d.portsOff = false → d.rad.pan ≠ BitVec.ofNat 16 (argF c 0 0 16) →
    exec (.radGlobalCfg c) s = .next (s.turnedDown .radGlobalCfg c 8 .notHalted))
  -- RAD_PORT_CFG of a disabled port whose burst, partners and beacon fit
  ∧ (∀ (t : Dev) (r : RPort), d.accepts .radPortCfg c = true → p < d.nPorts →
    t = d.rportMod p (fun x => { x with
      present := argB c 0 3, rate4 := argB c 0 4, phr32 := argB c 0 5, shr := argF c 0 6 7, tStart := argF c 0 13 8
      dlSlots := argF c 0 21 4, spiMhz := argF c 0 25 6, txLat := argF c 1 0 16, rxLat := argF c 1 16 16
      channel := argF c 2 0 8 }) → r = t.rport p → (d.rport p).en = false →
    (r.tStart + r.shr) * r.rate + r.phr + 8 * 35 ≤ 190 * r.rate →
    (∀ i, i < 64 → (d.partner (partnerKey p i)).st = .none ∨ 25 + r.dlSlots ≤ (d.partner (partnerKey p i)).pslot) →
    94 + d.fragBytes ≤ r.beaconRoom →
    exec (.radPortCfg c) s = .next (s.replied c t []))
  -- RAD_SCRIPT_LOAD of a sound script other than LOAD_TX into a disabled port
  ∧ (∀ (bs : List Byte) (l : List ScriptStep), d.accepts .radScriptLoad c = true → p < d.nPorts →
    bs = fitTo (arg c 3).toNat (d.withArea .radScriptLoad c).data → 12 ≤ bs.length → (d.rport p).en = false →
    leAt bs 0 1 = 1 → leAt bs 1 1 ≠ 0 → leAt bs 1 1 ≤ 32 → leAt bs 2 1 ≤ 63 → leAt bs 5 1 ≤ 63 →
    scriptSteps (leAt bs 1 1) (bs.drop 8) = some l → argF c 0 4 3 ≠ 2 →
    exec (.radScriptLoad c) s = .next (s.replied c
      (d.rportMod p fun r => { r with scripts := tset [] r.scripts (argF c 0 4 3) bs }) []))
  -- RAD_PORT_EN of a present, disabled port whose beacon has its room: INIT and CHANNEL run
  ∧ (d.accepts .radPortEn c = true → p < d.nPorts → (d.rport p).present = true → argB c 0 3 = true → (d.rport p).en = false →
    94 + d.fragBytes ≤ (d.rport p).beaconRoom →
    exec (.radPortEn c) s = .next (s.waits .radPortEn c []) ∧
    d.runOp .radPortEn c = done (d.rportMod p fun r => { r with en := true, ran := [0, 1], plan := [], awaiting := none }) [])
  -- RAD_SLOT_CFG that binds a slot at rest: BOUND, with the key generation and address given
  ∧ (d.accepts .radSlotCfg c = true → k < d.nSlots → (d.rport (portOf k)).present = true → d.moving k = false →
    argB c 0 8 = true →
    exec (.radSlotCfg c) s = .next (s.waits .radSlotCfg c []) ∧
    ∃ t : Dev, d.runOp .radSlotCfg c = done t [] ∧ t = (d.unregister k .bound).rslotMod k fun r =>
      let r := if r.keyGen = argF c 0 16 16 ∧ r.ext = BitVec.ofNat 64 (arg64 c 1) then r
        else { r with txCnt := 0, rxMark := 0, flashTx := 0, flashRx := 0 }
      { r with keyGen := argF c 0 16 16, ext := BitVec.ofNat 64 (arg64 c 1) })
  -- RAD_DEREGISTER of a bound slot at rest
  ∧ (d.accepts .radDeregister c = true → k < d.nSlots → (d.rport (portOf k)).present = true → d.moving k = false →
    (d.rslot k).st ≠ .unbound →
    exec (.radDeregister c) s = .next (s.waits .radDeregister c []) ∧
    d.runOp .radDeregister c = done (d.unregister k .bound) [])
  -- RAD_DEREGISTER of a moving slot is refused
  ∧ (d.accepts .radDeregister c = true → k < d.nSlots → (d.rport (portOf k)).present = true → d.moving k = true →
    exec (.radDeregister c) s = .next (s.turnedDown .radDeregister c 8 .slotMoving))
  -- RAD_PARTNER_CFG of a new partner: LOST until its first POLL
  ∧ (∀ i : Nat, d.accepts .radPartnerCfg c = true → p < d.nPorts → argF c 0 3 6 = i → argB c 0 9 = true →
    25 + (d.rport p).dlSlots ≤ argF c 0 10 6 → argF c 0 10 6 ≤ 39 → 10 ≤ argF c 3 0 16 → argF c 3 0 16 ≤ 36000 →
    argF c 3 16 16 < argF c 3 0 16 → (∀ j, j < 64 → j = i ∨ (d.partner (partnerKey p j)).st = .none) →
    (d.partner (partnerKey p i)).st = .none →
    exec (.radPartnerCfg c) s = .next (s.waits .radPartnerCfg c []) ∧
    d.runOp .radPartnerCfg c = done (d.partnerMod (partnerKey p i) fun x => { ({ queue := x.queue, st := .lost } : Partner) with
      pslot := argF c 0 10 6, keyGen := argF c 0 16 16, ext := BitVec.ofNat 64 (arg64 c 1), period := argF c 3 0 16
      phase := argF c 3 16 16 }) [])
  -- RAD_ROLE_CFG with every port disabled
  ∧ (∀ t : Dev, d.accepts .radRoleCfg c = true → d.portsOff = true → t = { d with rad := { d.rad with
      follower := argB c 0 0, standby := argB c 0 1, followPort := argF c 0 2 3, propNs := (arg c 1).toNat } } → t ≠ d →
    exec (.radRoleCfg c) s = .next (s.replied c { t with rad := { t.rad with
      relaying := false, holdover := false, missedBeacons := 0, goodBeacons := 0, promoted := false, promoteNext := false
      demoteNext := false } } []))
  -- RAD_APP_SEND to an ACTIVE slot: an APP container joins its queue, and the command completes with the acknowledgement
  ∧ (d.accepts .radAppSend c = true → 0 < (arg c 3).toNat → (arg c 3).toNat ≤ 1000 → argB c 0 8 = false → k < d.nSlots →
    (d.rslot k).st = .active → d.appCount (portOf k) < 32 →
    exec (.radAppSend c) s = .next (s.underway c (d.contQueueMod (slotAddr k) fun q => q ++
      [{ typ := 0x30, data := fitTo (arg c 3).toNat (d.withArea .radAppSend c).data, app := some (c.path, c.tag) }])))
  -- RAD_APP_SEND to a slot that is neither ACTIVE nor REGISTERING is refused
  ∧ (d.accepts .radAppSend c = true → 0 < (arg c 3).toNat → (arg c 3).toNat ≤ 1000 → argB c 0 8 = false → k < d.nSlots →
    (d.rslot k).st ≠ .active → (d.rslot k).st ≠ .registering →
    exec (.radAppSend c) s = .next (s.turnedDown .radAppSend c 8 .radNotActive))
  -- RAD_RAW_SEL
  ∧ (d.accepts .radRawSel c = true → p < d.nPorts →
    exec (.radRawSel c) s = .next (s.replied c (d.rportMod p fun r => { r with rawSel := argF c 0 3 2 }) []))
  -- RAD_STATUS, both selections
  ∧ (∀ r : RPort, d.accepts .radStatus c = true → p < d.nPorts → r = d.rport p →
    (argB c 0 8 = false → exec (.radStatus c) s = .next (s.replied c d
      [word (b2n r.en + 2 * b2n r.present + 4 * b2n (d.bport p).fault
        + 8 * (if d.rad.relaying then 1 else if d.rad.holdover then 2 else 0)), sat32 r.sent, sat32 r.uplinks,
       sat32 (tget 0 r.drops 9), sat32 r.dlOverrun, sat32 r.unacked, sat32 r.aborted, sat32 r.missBurst]))
    ∧ (argB c 0 8 = true → exec (.radStatus c) s = .next (s.replied c d
      [sat32 (tget 0 r.drops 1), sat32 (tget 0 r.drops 2), sat32 (tget 0 r.drops 3), sat32 (tget 0 r.drops 4),
       sat32 (tget 0 r.drops 5), sat32 (tget 0 r.drops 6), sat32 (tget 0 r.drops 7), sat32 (tget 0 r.drops 8)])))
  -- RAD_SLOT_STATUS
  ∧ (∀ r : RSlot, d.accepts .radSlotStatus c = true → k < d.nSlots → r = d.rslot k →
    exec (.radSlotStatus c) s = .next (s.replied c d
      [word (rsCode r.st + 8 * b2n r.ver2 + 2 ^ 8 * (min r.missed 255) + 2 ^ 16 * r.keyGen), sat32 r.txCnt, sat32 r.rxMark,
       word (low 8 r.rssi + 2 ^ 8 * (r.lqi % 256))]))
  -- RAD_PARTNER_STATUS
  ∧ (∀ x : Partner, d.accepts .radPartnerStatus c = true → p < d.nPorts → x = d.partner (partnerKey p (argF c 0 3 6)) →
    x.st ≠ .none →
    exec (.radPartnerStatus c) s = .next (s.replied c d
      [word (ptCode x.st + 4 * x.misses + 2 ^ 16 * (d.guardOf x / 1000)), word (low 32 x.drift), sat32 x.sigma,
       word (x.nextWake d.gen.epochFull)]))

/-- Chapter 09: reception (rests on R260, R266), the raw queues (rests on R288), acknowledgement deadlines (rests on R266,
R271), sleeping partners (rests on R278 to R281), the downlink plan (rests on R270), launch gates of the radio (rests on 02 R68)
and followers (rests on R283, R284). -/
def Obligations.RadioEvents : Prop :=
  ∀ (s : State) (d : Dev), s.dev = d →
  -- RXQ_DATA_READ and TXTS_DATA_READ of word 0 take the head of the queue, and answer it
  (∀ (m : Master) (p : Fin 8) (x : QItem RxItem) (xs : List (QItem RxItem)), p.val < d.nPorts →
    (d.rport p).rxq.items = x :: xs →
    ∃ t, exec (.rxqDataRead m p 0) s = .next t ∧ t.dev.reply.words = [word (rxWord x)])
  ∧ (∀ (m : Master) (p : Fin 8) (x : QItem TxItem) (xs : List (QItem TxItem)), p.val < d.nPorts →
    (d.rport p).txts.items = x :: xs →
    ∃ t, exec (.txtsDataRead m p 0) s = .next t ∧ t.dev.reply.words = [word (txWord x)])
  -- FRAME_RECEIVE of an aborted frame counts it
  ∧ (∀ (p : Fin 8) (f : RxFrame), d.serves p = true → f.aborted = true → (d.rport p).rawSel = 0 →
    exec (.frameReceive p f) s = .next (s.after (d.rportMod p fun r => { r with aborted := min (r.aborted + 1) 0xFFFFFFFF })))
  -- FRAME_RECEIVE of the awaited acknowledgement
  ∧ (∀ (p : Fin 8) (f : RxFrame) (g : DlFrame), d.serves p = true → f.aborted = false → f.isAck = true → f.fcsOk = true →
    (d.rport p).awaiting = some g → f.seq = g.seq → exec (.frameReceive p f) s = .next (s.after (d.frameAcked p g)))
  -- FRAME_RECEIVE of a frame that fails check 1, 2 or 3 drops it under the check's number
  ∧ (∀ (p : Fin 8) (f : RxFrame), d.serves p = true → f.aborted = false → f.isAck = false → (d.rport p).rawSel = 0 →
    (f.beacon = false ∨ f.src ≠ 0) →
    (f.fcsOk = false → exec (.frameReceive p f) s = .next (s.after (d.rxDrop p 1)))
    ∧ (f.fcsOk = true → f.dataV2 = false → exec (.frameReceive p f) s = .next (s.after (d.rxDrop p 2)))
    ∧ (f.fcsOk = true → f.dataV2 = true → (f.pan ≠ d.rad.pan ∨ f.dst ≠ 0) →
      exec (.frameReceive p f) s = .next (s.after (d.rxDrop p 3))))
  -- BASE_ACK_TIMEOUT at the deadline of the awaited frame
  ∧ (∀ (p : Fin 8) (f : DlFrame) (r : RPort), (d.rport p).awaiting = some f → r = d.rport p →
    exec (.baseAckTimeout p) s = .next (s.after
      ((d.advanceTo (d.slotStart + (f.at_ + r.tStart + r.air f.len + 120 + r.tStart + r.shr + 25) * usU)).frameLost p f)))
  -- PARTNER_WAKE_WINDOW in the partner's wake epoch
  ∧ (∀ (p : Fin 8) (i : Fin 64) (x : Partner) (lo hi mid : Int), x = d.partner (partnerKey p i) → d.serves p = true →
    x.st ≠ .none → 0 < x.period → d.gen.epochFull % x.period = x.phase → x.lastWake ≠ some d.gen.epochFull →
    mid = x.due (d.rport p) + x.drift * d.sincePoll x / 10 ^ 9 →
    lo = max (mid - d.guardOf x) ((25 + (d.rport p).dlSlots) * 2500000) → hi = min (mid + d.guardOf x) 100000000 →
    exec (.partnerWakeWindow p i) s = .next (s.after
      ((d.advanceTo (d.gen.epochFull * epU + lo.toNat * nsU)).partnerMod (partnerKey p i) fun x =>
        { x with window := some (lo, hi, d.guardOf (d.partner (partnerKey p i))), lastWake := some d.gen.epochFull })))
  -- PARTNER_MISS of a partner with fewer than 3 misses before: MISSED, and a guard twice as wide, 4 ms at most
  ∧ (∀ (p : Fin 8) (i : Fin 64) (x : Partner) (w : Int × Int × Nat), x = d.partner (partnerKey p i) → x.window = some w →
    x.misses < 3 →
    exec (.partnerMiss p i) s = .next (s.after
      ((d.advanceTo (d.gen.epochFull * epU + w.2.1.toNat * nsU)).partnerMod (partnerKey p i) fun y =>
        { y with window := none, misses := x.misses + 1, guard := some (min (2 * w.2.2) 4000000), st := .missed })))
  -- DOWNLINK_PLAN, once in an epoch, by 62 ms into it
  ∧ (d.tbs.en = true → d.rad.planFor ≠ some d.gen.epochFull →
    ∃ x : Dev, x = d.advanceTo (d.gen.epochFull * epU + 62 * msU) ∧
    exec .downlinkPlan s = .next (s.after ((List.range 8).foldl (fun y p =>
      if y.serves p && y.airLive p then y.planPort p else y)
      { x with rad := { x.rad with planFor := some d.gen.epochFull } })))
  -- LAUNCH_GATE_FIRE of a radio gate strobes the frame planned in the present slot
  ∧ (∀ (p : Fin 8) (f : DlFrame) (fs : List DlFrame), (d.rport p).plan = f :: fs → d.airLive p = true → d.serves p = true →
    f.air = d.gen.slot → (d.rport p).awaiting = none → d.tbs.winEnded = true →
    exec (.launchGateFire (.radio p)) s = .next (s.after ((d.rportMod p fun r => { r with plan := fs }).strobe p f)))
  -- FOLLOWER_BEACON: the second in a row ends the holdover and relays again
  ∧ (∀ b : BeaconIn, d.rad.follower = true → d.airLive d.rad.followPort = true → d.gen.slot = 0 → d.rad.heard = false →
    b.fcsOk = true → b.pan = d.rad.pan → b.src = 0 → b.epoch = d.epoch → d.tbs.steer ≠ 1 → 1 ≤ d.rad.goodBeacons →
    exec (.followerBeacon b) s = .next (s.after { d with rad := { d.rad with
      heard := true, missedBeacons := 0, goodBeacons := 2, holdover := false, relaying := true } }))
  -- FOLLOWER_HOLDOVER after three epochs without a beacon; a standby is promoted at the next boundary
  ∧ (d.rad.follower = true → d.rad.missedBeacons = 3 → d.rad.holdover = false →
    ∃ t, exec .followerHoldover s = .next t ∧ t.dev.rad = { d.rad with
      holdover := true, relaying := false, promoteNext := d.rad.standby })

/-- Chapter 09: the checks of a unicast frame to the base, in an uplink air slot while no window of a partner is open: the first
that fails decides, and a frame that passes is accepted with its source and containers; whatever the slot, no frame is accepted
whose tag fails or whose counter is not above the mark of its source (rests on R260, R269). -/
def Obligations.UplinkChecksInOrder : Prop :=
  (∀ (d : Dev) (p : Nat) (f : RxFrame) (k : Nat) (r : RSlot), d.openPartner p = none → k = 24 * p + d.gen.slot - 1 → r = d.rslot k →
  (d.inUplinkWindow p f.tsNs = false → d.rxChecks p f = .inl 4)
  ∧ (d.blw.st = PwrSt.night → d.rxChecks p f = .inl 4)
  ∧ (d.inUplinkWindow p f.tsNs = true → d.blw.st ≠ PwrSt.night →
    (f.src.toNat ≠ slotAddr k ∨ d.nSlots ≤ k → d.rxChecks p f = .inl 5)
    ∧ (f.src.toNat = slotAddr k → k < d.nSlots →
      (r.st = .unbound → d.rxChecks p f = .inl 6)
      ∧ (r.st ≠ .unbound →
        (f.authOk = false → d.rxChecks p f = .inl 7)
        ∧ (f.authOk = true → f.counter ≤ r.rxMark → d.rxChecks p f = .inl 8)
        ∧ (f.authOk = true → r.rxMark < f.counter →
          (d.acceptable true k f.payload = none → d.rxChecks p f = .inl 9)
          ∧ (∀ cs, d.acceptable true k f.payload = some cs → d.rxChecks p f = .inr (slotAddr k, cs))))))
  )
  ∧ (∀ (d : Dev) (p : Nat) (f : RxFrame) (src : Nat) (cs : List (Nat × List Byte)), d.rxChecks p f = .inr (src, cs) →
    src = f.src.toNat ∧ f.authOk = true ∧ (d.addrCounts src).2 < f.counter)

/-- Chapter 10: what each command of the switch does once its checks pass (rests on R292, R294, R299 to R307, R310 to R315). -/
def Obligations.SwitchCommandsRun : Prop :=
  ∀ (c : Cmd) (s : State) (d : Dev) (p : Nat), s.dev = d → argF c 0 0 3 = p →
  -- SW_PORT_CFG of a disabled port, with a mode of its kind
  (d.accepts .swPortCfg c = true → (d.eport p).en = false → (p < 2 ↔ argF c 0 3 2 < 2) → portCfg c (d.eport p) ≠ d.eport p →
    exec (.swPortCfg c) s = .next (s.replied c (d.eportMod p fun _ => portCfg c (d.eport p)) []))
  -- SW_PORT_CFG of an enabled port with other values is refused
  ∧ (d.accepts .swPortCfg c = true → (d.eport p).en = true → (p < 2 ↔ argF c 0 3 2 < 2) → portCfg c (d.eport p) ≠ d.eport p →
    exec (.swPortCfg c) s = .next (s.turnedDown .swPortCfg c 8 .notHalted))
  -- SW_PORT_EN, on and off: a disabled port's link is down
  ∧ (d.accepts .swPortEn c = true →
    (argB c 0 3 = true → exec (.swPortEn c) s = .next (s.replied c (d.eportMod p fun e => { e with en := true }) []))
    ∧ (argB c 0 3 = false → exec (.swPortEn c) s = .next (s.replied c
        ((d.portDown p).eportMod p fun e => { e with en := false }) [])))
  -- SW_GLOBAL_CFG
  ∧ (d.accepts .swGlobalCfg c = true →
    exec (.swGlobalCfg c) s = .next (s.waits .swGlobalCfg c []) ∧
    d.runOp .swGlobalCfg c = done (Dev.setAge { d with sw := { d.sw with mgmtVid := argF c 0 0 12 } } (argF c 0 12 20)) [])
  -- SW_VLAN_CFG
  ∧ (d.accepts .swVlanCfg c = true →
    exec (.swVlanCfg c) s = .next (s.waits .swVlanCfg c []) ∧
    d.runOp .swVlanCfg c = done (d.vlanMod (argF c 0 0 12) fun _ => {
      en := argB c 0 12, learn := argB c 0 13
      members := BitVec.ofNat 8 (argF c 0 16 8), untag := BitVec.ofNat 8 (argF c 1 0 8) }) [])
  -- SW_QOS_CFG of a port, with thresholds in order and 8,192 shared cells left
  ∧ (∀ new : EPort, d.accepts .swQosCfg c = true → argB c 0 31 = false → new = { d.eport p with
      pcpMap := (List.range 8).map fun i => argF c 0 (3 + 3 * i) 3
      weights := (List.range 6).map fun i => argF c (1 + i / 4) (7 * (i % 4)) 7
      qlimit := argF c 2 16 14, headroom := argF c 3 0 14, xoffCells := argF c 3 16 14, xonCells := argF c 4 0 14 } →
    new.xonCells < new.xoffCells → 8192 ≤ sharedCells (d.eportMod p fun _ => new).eports →
    exec (.swQosCfg c) s = .next (s.waits .swQosCfg c []) ∧ d.runOp .swQosCfg c = done (d.eportMod p fun _ => new) [])
  -- SW_QOS_CFG that leaves fewer is refused
  ∧ (∀ new : EPort, d.accepts .swQosCfg c = true → argB c 0 31 = false → new = { d.eport p with
      pcpMap := (List.range 8).map fun i => argF c 0 (3 + 3 * i) 3
      weights := (List.range 6).map fun i => argF c (1 + i / 4) (7 * (i % 4)) 7
      qlimit := argF c 2 16 14, headroom := argF c 3 0 14, xoffCells := argF c 3 16 14, xonCells := argF c 4 0 14 } →
    new.xonCells < new.xoffCells → sharedCells (d.eportMod p fun _ => new).eports < 8192 →
    exec (.swQosCfg c) s = .next (s.turnedDown .swQosCfg c 8 .swBuffer))
  -- SW_L2_ADD: a present key becomes static; an absent one whose first position in bank order is empty stands there
  ∧ (∀ e : L2, d.accepts .swL2Add c = true → e = {
      mac := argMac c 0, vid := argF c 1 16 12, mask := BitVec.ofNat 8 (argF c 2 0 8), static := true
      drop := argB c 2 8, cpu := argB c 2 9 } →
    (∀ x, d.l2Find e.mac e.vid = some x → exec (.swL2Add c) s = .next (s.replied c (d.l2Set x.1 (some e))
      [word (x.1 + 2 ^ 16 * d.sw.moveGen)]))
    ∧ (∀ n, d.l2Find e.mac e.vid = none → ((l2Cands e.mac e.vid).find? fun n => (d.l2At n).isNone) = some n →
      exec (.swL2Add c) s = .next (s.replied c (d.l2Set n (some e)) [word (n + 2 ^ 16 * d.sw.moveGen)])))
  -- SW_L2_DEL of a present key, and of an absent one
  ∧ (d.accepts .swL2Del c = true →
    (∀ x, d.l2Find (argMac c 0) (argF c 1 16 12) = some x →
      exec (.swL2Del c) s = .next (s.replied c (d.l2Set x.1 none) []))
    ∧ (d.l2Find (argMac c 0) (argF c 1 16 12) = none →
      exec (.swL2Del c) s = .next (s.turnedDown .swL2Del c 8 .l2Absent)))
  -- SW_L2_SEARCH opens the lowest free walk
  ∧ (∀ h, d.accepts .swL2Search c = true → ((List.range 4).find? fun h => (tget none d.sw.walks h).isNone) = some h →
    exec (.swL2Search c) s = .next (s.replied c (d.walkSet h (some {
      vid := if argB c 0 12 then some (argF c 0 0 12) else none, ports := BitVec.ofNat 8 (argF c 0 13 8)
      typ := argF c 0 21 2, used := d.tbs.mono })) [word h]))
  -- SW_L2_NEXT of an open walk on an empty table closes it
  ∧ (∀ w : Walk, d.accepts .swL2Next c = true → tget none d.sw.walks (argF c 0 0 2) = some w → d.sw.l2 = [] → w.carry = [] →
    d.sw.heldIns = [] →
    exec (.swL2Next c) s = .next (s.replied c ((d.toBuffer c.path (arg64 c 1) []).walkSet (argF c 0 0 2) none)
      [word (2 ^ 16 + 2 ^ 17 * b2n w.moved), word d.sw.moveGen]))
  -- SW_L2_NEXT of a closed walk is refused
  ∧ (d.accepts .swL2Next c = true → tget none d.sw.walks (argF c 0 0 2) = none →
    exec (.swL2Next c) s = .next (s.turnedDown .swL2Next c 8 .swWalkClosed))
  -- SW_FLUSH_BY_PORT: the flush joins the queue, and FLUSH_DONE completes the command
  ∧ (d.accepts .swFlushByPort c = true →
    exec (.swFlushByPort c) s = .next (s.underway c { d with sw := { d.sw with flushQ := d.sw.flushQ ++ [{
      port := argF c 0 0 3, static := argB c 0 3, vid := if argB c 0 16 then some (argF c 0 4 12) else none
      cmd := some (c.path, c.tag) }] } }))
  -- SW_RIF_CFG while a router interface is free
  ∧ (d.accepts .swRifCfg c = true → d.sw.rifs.length < 16 →
    exec (.swRifCfg c) s = .next (s.waits .swRifCfg c []) ∧
    d.runOp .swRifCfg c = done { d with sw := { d.sw with
      rifs := tset none d.sw.rifs (argF c 0 0 12) (if argB c 0 12 then some (argMac c 1) else none) } } [])
  -- SW_NH_SET
  ∧ (d.accepts .swNhSet c = true →
    exec (.swNhSet c) s = .next (s.replied c { d with sw := { d.sw with
      nhs := tset none d.sw.nhs (argF c 0 0 10) (some { port := argF c 0 10 3, vid := argF c 0 13 12, mac := argMac c 1 }) } } []))
  -- SW_ROUTE_ADD of a new prefix with a next hop that is set
  ∧ (∀ r : Route, d.accepts .swRouteAdd c = true →
    r = { pfx := arg c 0, plen := argF c 1 0 6, vid := argF c 1 6 12, nh := argF c 1 18 10 } →
    (tget none d.sw.nhs r.nh).isSome = true → d.routeFind r.pfx r.plen r.vid = none → d.sw.tcam.length < 4096 →
    exec (.swRouteAdd c) s = .next (s.replied c (d.routeInsert r) []))
  -- SW_ROUTE_ADD with a next hop that is not set is refused
  ∧ (d.accepts .swRouteAdd c = true → tget none d.sw.nhs (argF c 1 18 10) = none →
    exec (.swRouteAdd c) s = .next (s.turnedDown .swRouteAdd c 8 .nhUnset))
  -- SW_ROUTE_DEL
  ∧ (∀ (i : Nat) (r : Route), d.accepts .swRouteDel c = true → d.routeFind (arg c 0) (argF c 1 0 6) (argF c 1 6 12) = some i →
    d.sw.tcam[i]? = some r →
    exec (.swRouteDel c) s = .next (s.replied c (d.routeDelete i r) []))
  -- SW_MACSEC_SA: installs a transmit SA on E0 or E1 whose key slot may serve the switch; or removes one
  ∧ (d.accepts .swMacsecSa c = true → p < 2 → argB c 0 3 = false →
    (argB c 0 7 = true → (d.kslot (argF c 0 8 6)).dest.getLsbD 1 = true →
      exec (.swMacsecSa c) s = .next (s.replied c (d.eportMod p fun e => { e with
        sas := tset none e.sas (argF c 0 6 1)
          (some { sci := BitVec.ofNat 64 (arg64 c 1), slot := argF c 0 8 6, pn := (arg c 3).toNat })
        txAn := argF c 0 6 1 }) []))
    ∧ (argB c 0 7 = true → (d.kslot (argF c 0 8 6)).dest.getLsbD 1 = false →
      exec (.swMacsecSa c) s = .next (s.turnedDown .swMacsecSa c 8 .keyDest))
    ∧ (argB c 0 7 = false →
      exec (.swMacsecSa c) s = .next (s.replied c (d.eportMod p fun e => { e with
        sas := tset none e.sas (argF c 0 6 1) none }) [])))
  -- SW_DIGEST_READ and SW_BLOCK_READ: entries go to the buffer, within its length, and nothing else changes
  ∧ (d.accepts .swDigestRead c = true → ∃ bs, bs.length ≤ (arg c 3).toNat ∧
    exec (.swDigestRead c) s = .next (s.replied c (d.toBuffer c.path (arg64 c 1) bs) [word bs.length]))
  ∧ (d.accepts .swBlockRead c = true → (argB c 0 0 = false ∨ argF c 0 1 10 < 64) → ∃ bs, bs.length ≤ (arg c 3).toNat ∧
    exec (.swBlockRead c) s = .next (s.replied c (d.toBuffer c.path (arg64 c 1) bs) [word bs.length]))
  -- SW_STATUS page 0: the read clears DIGEST_ERR
  ∧ (d.accepts .swStatus c = true → argF c 0 8 2 = 0 →
    exec (.swStatus c) s = .next (s.replied c { d with sw := { d.sw with digestErr := false } }
      [word (b2n (d.portUp p) + 2 * (d.eport p).speed + 8 * b2n d.sw.digestErr), sat32 (d.eport p).rx, sat32 (d.eport p).tx,
       word d.sw.moveGen, sat32 d.sw.l2.length, sat32 d.sw.tcam.length, sat32 (d.eport p).flushes, sat32 (d.eport p).xoffSent]))

/-- Chapter 10: frames, links, flow control, learning, ageing, walks, flushes and the digest sweep (rests on R292, R294, R300 to
R305, R309, R314). -/
def Obligations.SwitchEvents : Prop :=
  ∀ (s : State) (d : Dev), s.dev = d →
  -- ETH_FRAME_RECEIVE at a port that is up: a runt is counted and goes no further
  (∀ (p : Fin 8) (f : EthFrame), d.portUp p = true → f.len < 64 →
    exec (.ethFrameReceive p f) s = .next (s.after
      ((d.eportMod p fun e => { e with rx := min (e.rx + 1) 0xFFFFFFFF }).swCount p 0)))
  ∧ (∀ (p : Fin 8) (f : EthFrame), d.portUp p = true → exec (.ethFrameReceive p f) s = .next (s.after (d.classify p none f).1))
  -- LINK_DOWN: the port's queues are dropped, and with AUTO_FLUSH a flush is due
  ∧ (∀ p : Fin 8, exec (.linkDown p) s = .next (s.after (d.portDown p)))
  -- LINK_UP of an enabled port E2 to E5 outside NIGHT and BACKUP
  ∧ (∀ (p : Fin 8) (v : Fin 4), 2 ≤ p.val → p.val < 6 → (d.eport p).en = true → d.blw.st ≠ PwrSt.night → d.blw.backup = false →
    exec (.linkUp p v) s = .next (s.after (d.eportMod p fun e => { e with
      link := true, speed := if e.mode = 3 then 2 else v.val % 2 })))
  -- AUTO_FALLBACK of an enabled 10GBASE-R port without a link
  ∧ (∀ p : Fin 2, (d.eport p).en = true → (d.eport p).fallback = true → (d.eport p).mode = 0 → (d.eport p).link = false →
    exec (.autoFallback p) s = .next (s.after (d.eportMod p fun e =>
      if e.en && e.fallback && e.mode == 0 && !e.link then { e with fellBack := true } else e)))
  -- XOFF_REFRESH of a standing XOFF, and PAUSE_QUANTA_EXPIRY
  ∧ (∀ p q : Fin 8, exec (.xoffRefresh p q) s = .next (s.after (d.eportMod p fun e =>
      if e.xoff.getLsbD q then { e with xoffSent := min (e.xoffSent + 1) 0xFFFFFFFF } else e)))
  ∧ (∀ p q : Fin 8, exec (.pauseQuantaExpiry p q) s = .next (s.after (d.eportMod p fun e =>
      { e with stopped := e.stopped &&& ~~~(BitVec.ofNat 8 (2 ^ q.val)) })))
  -- LEARN_NOTICE of an absent key with an empty position: the entry is learned there
  ∧ (∀ (mac : BitVec 48) (vid p n : Nat) (ns : List (BitVec 48 × Nat × Nat)), d.sw.notices = (mac, vid, p) :: ns →
    d.l2Find mac vid = none → ((l2Cands mac vid).find? fun n => (d.l2At n).isNone) = some n →
    exec .learnNotice s = .next (s.after (Dev.l2Set { d with sw := { d.sw with notices := ns } } n
      (some { mac := mac, vid := vid, mask := BitVec.ofNat 8 (2 ^ p) }))))
  -- LEARN_DEFER_TIMEOUT: an insertion of a command fails with L2_DEFERRED, a learned one is counted
  ∧ (∀ (h : HeldIns) (hs : List HeldIns), d.sw.heldIns = h :: hs →
    (∀ q, h.cmd = some q → exec .learnDeferTimeout s = .next (s.after
      (Dev.owe { d with sw := { d.sw with heldIns := hs } } q.1 q.2 .swL2Add .l2Deferred [])))
    ∧ (h.cmd = none → exec .learnDeferTimeout s = .next (s.after
      (Dev.swCount { d with sw := { d.sw with heldIns := hs } } h.port 15))))
  -- L2_AGE_TICK: every age rises; dynamic entries as old as AGE_S go
  ∧ (∃ x : Dev, x = { d with sw := { d.sw with l2 := d.sw.l2.map fun y : Nat × Option L2 =>
      (y.1, y.2.map fun e : L2 => { e with age := min (e.age + 1) 65535 }) } } ∧
    exec .l2AgeTick s = .next (s.after (x.l2Remove fun e =>
      !e.static && decide ((d.sw.ageS + (if d.sw.ageS ≤ 65535 then 1 else 16) - 1) / (if d.sw.ageS ≤ 65535 then 1 else 16) ≤ e.age))))
  -- WALK_IDLE_CLOSE, 10 s after the walk was used last
  ∧ (∀ (h : Fin 4) (w : Walk), tget none d.sw.walks h = some w →
    exec (.walkIdleClose h) s = .next (s.after ((d.advanceMono (w.used + 10 * secU)).walkSet h none).retryHeld))
  -- FLUSH_DONE on an empty table: the flush is counted and its command completes with no entry removed
  ∧ (∀ (f : Flush) (fs : List Flush) (q : Path × BitVec 8), d.sw.flushQ = f :: fs → f.cmd = some q → d.sw.l2 = [] →
    exec .flushDone s = .next (s.after (Dev.owe
      (Dev.eportMod { d with sw := { d.sw with flushQ := fs } } f.port fun e => { e with flushes := min (e.flushes + 1) 0xFFFFFFFF })
      q.1 q.2 .swFlushByPort .success [0])))
  -- DIGEST_SWEEP of a TCAM block with another digest: DIGEST_ERR
  ∧ (∀ (b : Fin 1024) (w : Word), b.val < 64 → w ≠ word (d.digest true b) →
    ∃ t, exec (.digestSweep true b w) s = .next t ∧ t.dev.sw = { d.sw with digestErr := true })

/-- 10 R307: the routes stand in order of falling length; adding one and deleting one keep that order, and change the set of
routes by that one alone. -/
def Obligations.RoutesStayInOrder : Prop :=
  ∀ d : Dev, d.sw.tcam.Pairwise (fun x y => y.plen ≤ x.plen) →
  (∀ r : Route, (d.routeInsert r).sw.tcam.Pairwise (fun x y => y.plen ≤ x.plen)
    ∧ (d.routeInsert r).sw.tcam.Perm (r :: d.sw.tcam))
  ∧ (∀ (i : Nat) (r : Route), d.sw.tcam[i]? = some r →
    (d.routeDelete i r).sw.tcam.Pairwise (fun x y => y.plen ≤ x.plen) ∧ (r :: (d.routeDelete i r).sw.tcam).Perm d.sw.tcam)

/-- 10 R306: in that order a lookup returns a route of the longest matching prefix, in the VID asked for or for every VID. -/
def Obligations.LookupReturnsLongestPrefix : Prop :=
  ∀ (d : Dev) (a : Word) (vid : Nat) (r : Route), d.sw.tcam.Pairwise (fun x y => y.plen ≤ x.plen) → d.lpm a vid = some r →
    r ∈ d.sw.tcam ∧ (r.vid = 0 ∨ r.vid = vid) ∧ prefixHit r.pfx r.plen a = true
    ∧ ∀ x ∈ d.sw.tcam, (x.vid = 0 ∨ x.vid = vid) → prefixHit x.pfx x.plen a = true → x.plen ≤ r.plen

/-- Chapter 11: what each power and scheduler command does once its checks pass (rests on R331, R336, R340, R344, R353). -/
def Obligations.PowerCommandsRun : Prop :=
  ∀ (c : Cmd) (s : State) (d : Dev), s.dev = d →
  -- PWR_CFG with the floor above the critical charge
  (d.accepts .pwrCfg c = true → argF c 1 23 7 < argF c 1 16 7 →
    exec (.pwrCfg c) s = .next (s.waits .pwrCfg c []) ∧
    d.runOp .pwrCfg c = done (Dev.setCaps { d with blw := { d.blw with cfg := {
      source := argF c 0 0 2, cap := argF c 0 2 14, other := argF c 0 16 16, draw := argF c 1 0 16, floor := argF c 1 16 7
      crit := argF c 1 23 7, chgAddr := argF c 2 0 7, chgCmd := argF c 2 7 8, pinLsb := argF c 2 16 8
      grace := argF c 3 0 10, warm := argF c 3 10 10, gate := argB c 3 20, v3 := argF c 3 21 6 } } }) [])
  -- PWR_SET to DOZE or NIGHT with a wake, 2 to 600 epochs ahead, with the fleet inactive and no change pending
  ∧ (∀ t w : Nat, d.accepts .pwrSet c = true → argF c 0 0 2 ≠ 0 → t = fullOf d.gen.epochFull (arg c 1) →
    w = (arg c 2 - arg c 1).toNat → arg c 2 ≠ 0xFFFFFFFF → 10 ≤ w → w ≤ 864000 → d.gen.epochFull + 2 ≤ t →
    t ≤ d.gen.epochFull + 600 → d.fleetActive = false → d.blw.change = none →
    exec (.pwrSet c) s = .next (s.replied c
      { d with blw := { d.blw with change := some ⟨if argF c 0 0 2 = 1 then .doze else .night, t, some (t + w)⟩ } } []))
  -- PWR_SET to RUN is a wake
  ∧ (d.accepts .pwrSet c = true → argF c 0 0 2 = 0 → d.blw.change = none →
    exec (.pwrSet c) s = .next (s.replied c (d.wake 2) []))
  -- PWR_SET while the fleet is active is refused
  ∧ (∀ t : Nat, d.accepts .pwrSet c = true → argF c 0 0 2 ≠ 0 → t = fullOf d.gen.epochFull (arg c 1) → arg c 2 = 0xFFFFFFFF →
    d.gen.epochFull + 2 ≤ t → t ≤ d.gen.epochFull + 600 → d.fleetActive = true →
    exec (.pwrSet c) s = .next (s.turnedDown .pwrSet c 8 .pwrFleetActive))
  -- PWR_WAKE_CFG, and the wake bit of GPIO31 while Bellows drives that pin
  ∧ (d.accepts .pwrWakeCfg c = true →
    ((d.blw.cfg.gate = false ∨ argB c 1 31 = false) → exec (.pwrWakeCfg c) s = .next (s.waits .pwrWakeCfg c []) ∧
      d.runOp .pwrWakeCfg c = done
        { d with blw := { d.blw with wakeCap := BitVec.ofNat 16 (argF c 0 0 16), wakeGpio := arg c 1 } } [])
    ∧ (d.blw.cfg.gate = true → argB c 1 31 = true →
      exec (.pwrWakeCfg c) s = .next (s.turnedDown .pwrWakeCfg c 8 .gpioInUse)))
  -- SCH_CLASS_CFG
  ∧ (d.accepts .schClassCfg c = true →
    exec (.schClassCfg c) s = .next (s.waits .schClassCfg c []) ∧
    d.runOp .schClassCfg c = done { d with sch := { d.sch with cls := tset none d.sch.cls (argF c 0 0 3) (some {
      mask := BitVec.ofNat 16 (argF c 0 4 16), sup := argB c 0 20, wait := argF c 0 21 8, quota := argF c 1 0 16 }) } } [])
  -- SCH_STATUS: the read clears the peaks and the longest SAFETY time
  ∧ (d.accepts .schStatus c = true → ∃ a b x y z, exec (.schStatus c) s = .next (s.replied c
      { d with sch := { d.sch with peaks := [], longest := 0 } }
      [a, b, sat32 d.sch.dispatched, sat32 d.sch.preemptions, sat32 d.sch.migrations, x, y, z]))
  -- PWR_STATUS, both selections
  ∧ (d.accepts .pwrStatus c = true →
    (argB c 0 0 = false → ∃ a b, exec (.pwrStatus c) s = .next (s.replied c d
      [d.blwStatus, a, b, sat32 d.blw.nLevel, sat32 d.blw.nCrit, sat32 d.blw.nSmb, word d.blw.wakeCause, 0]))
    ∧ (argB c 0 0 = true → exec (.pwrStatus c) s = .next (s.replied c d
      ((d.blw.times.map fun t => sat32 (t / secU)) ++ [0, 0, 0, 0, 0]))))

/-- Chapter 11: budget windows, readings, the grace of CRITICAL, and the steps of NIGHT (rests on R337, R343, R345, R348, R349).
-/
def Obligations.PowerEvents : Prop :=
  ∀ (s : State) (d : Dev), s.dev = d →
  -- BUDGET_WINDOW at the next TAI second: the readings, the level, and the budget of the next window
  (∀ (w : WindowIn) (x : Dev), d.tbs.en = true → d.tbs.resync = false →
    x = (let y := d.advanceTo (nextFire secU 0 d.tbs.time d.blw.winAt)
         { y with blw := { y.blw with winAt := some (nextFire secU 0 d.tbs.time d.blw.winAt) } }) →
    exec (.budgetWindow w) s = .next (s.after ((x.windowEnd w).windowLevel.newBudget.restoreShed.setCaps.blwIrq d)))
  -- the budget is at most the cap and, for the window, at most the heat cap
  ∧ d.newBudget.blw.b ≤ d.blw.cfg.cap ∧ d.newBudget.blw.beff ≤ d.newBudget.blw.b ∧ d.newBudget.blw.beff ≤ d.blw.h
  -- CRIT_GRACE_EXPIRY clears the fleet-enable latch, and no stop arises
  ∧ (d.blw.critical = true → ∃ t, exec .critGraceExpiry s = .next t ∧ t.dev.blw.graceOver = true ∧ t.dev.bgl.enable = false
      ∧ t.dev.bgl.stops = d.bgl.stops)
  -- SMBUS_READ_DONE: a charger reading, a battery reading, a failed one
  ∧ (d.blw.cfg.source = 2 →
    (∀ w, exec (.smbusReadDone false (some w)) s = .next (s.after
      { d with blw := { d.blw with charger := (w.toNat * d.blw.cfg.pinLsb :: d.blw.charger).take 10 } }))
    ∧ (∀ w, exec (.smbusReadDone true (some w)) s = .next (s.after { d with blw := { d.blw with battery := min w.toNat 100 } }))
    ∧ (∀ b, exec (.smbusReadDone b none) s = .next (s.after
      { d with blw := { d.blw with failNow := true, nSmb := min (d.blw.nSmb + 1) 0xFFFFFFFF } })))
  -- THERM_PEAK_READ answers T_C and T_PEAK and clears the peak
  ∧ (∀ (m : Master) (k : Fin 16), exec (.thermPeakRead m k) s = .next (s.after
      ((d.thermMod k fun x => { x with peak := 0 }).readOut [word (low 8 (d.therm k).t + 2 ^ 8 * low 8 (d.therm k).peak)])))
  -- NIGHT_CALIBRATE, 1 s before NIGHT
  ∧ (∀ (i : BitVec 47) (ch : PwrChg), d.blw.change = some ch → ch.st = PwrSt.night → d.tbs.en = true →
    ∃ t, exec (.nightCalibrate i) s = .next t ∧ t.dev.tbs.incr32 = i.toNat
      ∧ t.dev.tbs.time = max d.tbs.time (ch.target * epU - secU))
  -- NIGHT_WAKE_PREPARE drives GPIO31; NIGHT_DOMAIN_RESTORE, 2 ms before the wake boundary
  ∧ (∀ w, d.wakeEpoch = some w →
    (∃ t, exec .nightWakePrepare s = .next t ∧ t.dev.blw.gpio31 = true)
    ∧ (∃ t, exec .nightDomainRestore s = .next t ∧ t.dev.blw.restored = true)
    -- NIGHT_REFCLK_CHECK: without edges the wake boundary moves one epoch, up to 100 times
    ∧ (∃ t, exec (.nightRefclkCheck true) s = .next t ∧ t.dev.gen.refclkOk = true ∧ t.dev.blw.wakeAt = d.blw.wakeAt)
    ∧ (d.blw.postponed < 100 → ∃ t, exec (.nightRefclkCheck false) s = .next t ∧ t.dev.gen.refclkOk = false
        ∧ t.dev.blw.wakeAt = some (w + 1) ∧ t.dev.blw.postponed = d.blw.postponed + 1))

/-- Chapter 11: the event scheduler's admission, its affinity wait and its trace; an event that dispatch starts on a free core
is the only one that runs there (rests on R326 to R332). -/
def Obligations.SchedulerEvents : Prop :=
  (∀ (s : State) (d : Dev), s.dev = d →
  -- EVENT_ADMIT of an event of a domain that R324 gives, whose class finds an entry free
  (∀ (e : EventIn) (x : Ent) (p : Nat), d.domainOk e.domain = true →
    x = { cls := e.cls.val, domain := e.domain.val, source := e.source.val, pool := 3, order := 0, at_ := 0 } → e.source.val ≠ 1 → e.source.val ≠ 2 →
    d.poolFor e.cls false = some p → exec (.eventAdmit e) s = .next (s.after (d.admitIn p x)))
  -- of a domain that it does not give
  ∧ (∀ e : EventIn, d.domainOk e.domain = false → exec (.eventAdmit e) s = .next (s.after d))
  -- AFFINITY_WAIT_EXPIRY of an event that waits
  ∧ (∀ (n : Fin 1024) (e : Ent), tget none d.sch.ents n.val = some e → e.waiting = true →
    exec (.affinityWaitExpiry n) s = .next (s.after ((d.entMod n fun e => { e with expired := true }).dispatch)))
  -- TRC_DATA_READ: word 0 takes an item and latches it; the other words come from the latch
  ∧ (∀ m : Master, exec (.trcDataRead m 0) s = .next (s.after (Dev.readOut { d with sch := { d.sch with
      trc := d.sch.trc.pop.2, trcLatch := tset 0 d.sch.trcLatch (masterKey m) ((d.sch.trc.pop.1.map trcWord).getD 0) } }
        [word ((d.sch.trc.pop.1.map trcWord).getD 0)])))
  ∧ (∀ (m : Master) (w : Fin 5), w.val ≠ 0 → w.val ≠ 4 → exec (.trcDataRead m w) s = .next (s.after
      (d.readOut [word (tget 0 d.sch.trcLatch (masterKey m) / 2 ^ (32 * w.val))])))
  )
  ∧ (∀ (d : Dev) (k core reason : Nat) (e : Ent), d.coreFree core = true →
    ∀ x ∈ (d.startOn k core reason e).ents, x.2.core = some core → x.1 = k)

/-- Chapter 12: what each command of the local interfaces does once its checks pass (rests on R369 to R377, R380, R381). -/
def Obligations.InterfaceCommandsRun : Prop :=
  ∀ (c : Cmd) (s : State) (d : Dev) (p : Nat), s.dev = d → argF c 0 0 2 = p →
  -- CAN_PORT_CFG with EN of a disabled port that is not in ISOBUS mode: ERROR-ACTIVE at the rates given
  (∀ n : Can, d.accepts .canPortCfg c = true → argB c 0 2 = true → argB c 0 3 = false → (d.can p).en = false →
    (d.can p).isb = false → 50 ≤ argF c 0 4 7 → argF c 0 4 7 ≤ 90 → canRate (arg c 1).toNat = true →
    125000 ≤ (arg c 1).toNat → (arg c 1).toNat ≤ 1000000 →
    n = { d.can p with
      en := true, fdEn := false, nomSp := argF c 0 4 7, dataSp := argF c 0 11 7
      nomBps := (arg c 1).toNat, dataBps := (arg c 2).toNat, st := .active } →
    exec (.canPortCfg c) s = .next (s.replied c (d.canMod p fun _ => n) []))
  -- CAN_PORT_CFG with EN = 0 disables the port in any state
  ∧ (d.accepts .canPortCfg c = true → argB c 0 2 = false →
    exec (.canPortCfg c) s = .next (s.replied c (d.canMod p fun k => { k with en := false }) []))
  -- CAN_FILTER
  ∧ (d.accepts .canFilter c = true →
    exec (.canFilter c) s = .next (s.waits .canFilter c []) ∧
    d.runOp .canFilter c = done (d.canMod p fun k => { k with filts := tset {} k.filts (argF c 0 2 5) ({
      en := argB c 0 7, ide := argB c 0 8, id := (arg c 1).toNat, mask := (arg c 2).toNat } : CanFilt) }) [])
  -- CAN_SEND of a length that the format has, while the port is not in BUS-OFF and has room
  ∧ (d.accepts .canSend c = true → canLen (argB c 0 2) (argF c 0 6 7) = true → (d.can p).st ≠ .busOff → (d.can p).txq.length < 32 →
    exec (.canSend c) s = .next (s.underway c (d.canMod p fun k => { k with txq := k.txq ++ [{
      id := (arg c 1).toNat, ide := argB c 0 4, rtr := argB c 0 5, fd := argB c 0 2, brs := argB c 0 3, isb := false
      data := fitTo (argF c 0 6 7) (d.withArea .canSend c).data, path := c.path, tag := c.tag }] })))
  -- CAN_SEND while the port is in BUS-OFF is refused
  ∧ (d.accepts .canSend c = true → canLen (argB c 0 2) (argF c 0 6 7) = true → (d.can p).st = .busOff →
    exec (.canSend c) s = .next (s.turnedDown .canSend c 8 .canBusOff))
  -- CAN_READ, ISB_READ and ADC_READ of an empty queue wait for data
  ∧ (d.accepts .canRead c = true → (d.can p).rxq.items = [] → (d.reads.filter fun r => r.path == c.path).length < 16 →
    exec (.canRead c) s = .next (s.underway c { d with reads := d.reads ++
      [{ kind := .can (Fin.ofNat 4 p), path := c.path, tag := c.tag, addr := arg64 c 1, len := (arg c 3).toNat, at_ := d.tbs.mono }] }))
  ∧ (d.accepts .isbRead c = true → (d.can p).isbq.items = [] → (d.reads.filter fun r => r.path == c.path).length < 16 →
    exec (.isbRead c) s = .next (s.underway c { d with reads := d.reads ++
      [{ kind := .isb (Fin.ofNat 4 p), path := c.path, tag := c.tag, addr := arg64 c 1, len := (arg c 3).toNat, at_ := d.tbs.mono }] }))
  ∧ (d.accepts .adcRead c = true → d.ifc.adcq.items = [] → (d.reads.filter fun r => r.path == c.path).length < 16 →
    exec (.adcRead c) s = .next (s.underway c { d with reads := d.reads ++
      [{ kind := .adc, path := c.path, tag := c.tag, addr := arg64 c 1, len := (arg c 3).toNat, at_ := d.tbs.mono }] }))
  -- ADC_READ of one queued block that fits is answered at once
  ∧ (∀ b : AdcBlk, d.accepts .adcRead c = true → d.ifc.adcq.items = [.data b true] → 16 + 2 * b.words.length ≤ (arg c 3).toNat →
    exec (.adcRead c) s = .next (s.replied c
      (Dev.toBuffer { d with ifc := { d.ifc with adcq := d.ifc.adcq.pop.2 } } c.path (arg64 c 1) (adcRecord (.data b true)))
      [word (16 + 2 * b.words.length), 0, d.epoch, 0]))
  -- ISB_CFG of a disabled port
  ∧ (∀ n : Can, d.accepts .isbCfg c = true → (d.can p).en = false → n = { d.can p with
      isb := argB c 0 2, pref := argF c 0 3 8, name := BitVec.ofNat 64 (arg64 c 1), alts := (argBytes c 3 2).map BitVec.toNat
      pgns := tset none (d.can p).pgns (argF c 5 18 3) (if argB c 5 21 then some (argF c 5 0 18) else none) } → n ≠ d.can p →
    exec (.isbCfg c) s = .next (s.replied c (d.canMod p fun _ => n) []))
  -- ISB_SEND from a port with an address
  ∧ (d.accepts .isbSend c = true → (d.can p).isb = true → (d.can p).addr ≠ 254 → (arg c 3).toNat ≤ 1048576 →
    ∃ x : CanTx, exec (.isbSend c) s = .next (s.underway c (d.canMod p fun k => { k with txq := k.txq ++ [x] }))
      ∧ x.isb = true ∧ x.data = fitTo (arg c 3).toNat (d.withArea .isbSend c).data ∧ x.path = c.path ∧ x.tag = c.tag)
  -- ISB_SEND without an address is refused
  ∧ (d.accepts .isbSend c = true → (d.can p).addr = 254 →
    exec (.isbSend c) s = .next (s.turnedDown .isbSend c 8 .isbNoAddress))
  -- SMB_XFER queues on its master
  ∧ (d.accepts .smbXfer c = true →
    exec (.smbXfer c) s = .next (s.underway c (d.smbMod (argF c 0 0 1) fun m => { m with q := m.q ++ [{
      path := c.path, tag := c.tag, addr := argF c 0 1 7, wlen := argF c 0 8 6, rlen := argF c 0 14 6
      pec := argB c 0 20, fast := argB c 0 21, buf := arg64 c 1 }] })))
  -- GPIO_CFG of pins other than pin 31 in Bellows' use
  ∧ (d.accepts .gpioCfg c = true → (d.blw.cfg.gate = false ∨ argB c 0 31 = false) →
    exec (.gpioCfg c) s = .next (s.replied c ((List.range 32).foldl (fun (y : Dev) k =>
      if argB c 0 k then y.pinMod k fun _ => { dir := argF c 1 0 2, pull := argF c 1 2 2, edge := argF c 1 4 2 } else y) d) []))
  -- GPIO_WRITE: set and clear; a pin in both masks is refused
  ∧ (d.accepts .gpioWrite c = true →
    (arg c 0 &&& arg c 1 = 0 → (d.blw.cfg.gate = false ∨ (argB c 0 31 = false ∧ argB c 1 31 = false)) →
      exec (.gpioWrite c) s = .next (s.replied c { d with ifc := { d.ifc with drive := (d.ifc.drive ||| arg c 0) &&& ~~~(arg c 1) } } []))
    ∧ (arg c 0 &&& arg c 1 ≠ 0 → exec (.gpioWrite c) s = .next (s.turnedDown .gpioWrite c 8 .reservedValue)))
  -- GPIO_READ: the levels of the pins
  ∧ (d.accepts .gpioRead c = true → ∃ w : Word, exec (.gpioRead c) s = .next (s.replied c d [w])
      ∧ w = word ((List.range 32).foldl (fun n k => n + 2 ^ k * b2n (d.pinLevel k)) 0))
  -- ADC_CFG of a period that is a divisor or a multiple of 100 ms, with the sequence inside it
  ∧ (d.accepts .adcCfg c = true → (100000 % argF c 0 5 20 = 0 ∨ argF c 0 5 20 % 100000 = 0) →
    argF c 1 0 20 ≤ argF c 0 5 20 - 16 →
    exec (.adcCfg c) s = .next (s.waits .adcCfg c []) ∧
    d.runOp .adcCfg c = done { d with ifc := { d.ifc with
      adcN := argF c 0 0 5, adcPeriod := argF c 0 5 20, adcOffset := argF c 1 0 20
      adcSeq := (List.range 16).map fun i => if i < 10 then argF c 2 (3 * i) 3 else argF c 3 (3 * (i - 10)) 3
      adcLim := tset {} d.ifc.adcLim (argF c 4 0 3) { en := argB c 4 28, lo := argF c 4 4 12, hi := argF c 4 16 12 } } } [])
  -- UART_CFG
  ∧ (d.accepts .uartCfg c = true →
    exec (.uartCfg c) s = .next (s.replied c { d with ifc := { d.ifc with baud := argF c 0 0 22 } } []))
  -- IF_STATUS of the network port: the state's encoding is open, the counts are those of R381
  ∧ (d.accepts .ifStatus c = true → argF c 0 0 4 = 1 →
    exec (.ifStatus c) s = .next (s.replied c d
      [Config.ifState 1 0 0, sat32 ((List.range 16).map fun r => (d.nq r).q.drops).sum,
       sat32 ((List.range 16).map fun r => (d.nq r).errs).sum, 0, 0, 0, 0, 0]))

/-- Chapter 12: the events of PCIe, of the network rings, and of CAN, ISOBUS, SMBus, GPIO, captures and the ADC. -/
def Obligations.InterfaceEvents : Prop :=
  ∀ (s : State) (d : Dev), s.dev = d →
  -- MSIX_UNMASK of a vector whose message waits: it is sent
  (∀ v : Fin 48, tget false d.gen.msixPba v = true →
    ∃ t, exec (.msixUnmask false v) s = .next t ∧ t.dev.gen.msixOpen = tset false d.gen.msixOpen v true)
  -- PCIE_LINK_UP
  ∧ (∀ g w : Fin 5, g.val ≠ 0 → w.val ≠ 0 → w.val ≠ 3 →
    ∃ t, exec (.pcieLinkUp g w) s = .next t ∧ t.dev.ifc.pcie = true ∧ t.dev.ifc.pcieGen = g ∧ t.dev.ifc.pcieWidth = w
      ∧ t.dev.sw.ports = tmod {} d.sw.ports 6 fun e => { e with link := true })
  -- ITR_EXPIRY: the held message is sent when ITR_US has passed since the one before
  ∧ (∀ r : Fin 16, (d.nq r).held = true →
    exec (.itrExpiry r) s = .next (s.after ((d.advanceMono ((d.nq r).msgAt.getD 0 + (d.nq r).itr * usU)).nqSignal r)))
  -- NQ_TAIL_WRITE
  ∧ (∀ (r : Fin 16) (v : Word), exec (.nqTailWrite r v) s = .next (s.after (d.nqMove r fun n => { n with tail := wbits v 0 12 })))
  -- NQ_ENABLE of a stopped ring without ERR, of a legal LOG2, ITR_US up to 1,000; NQ_DISABLE
  ∧ (∀ (r : Fin 16) (v : Word) (x : Dev), wbits v 4 10 ≤ 1000 → wbit v 0 = true →
    x = d.nqMod r (fun n => { n with itr := wbits v 4 10, err := n.err && !wbit v 1 }) →
    (x.nq r).stopped = true → (x.nq r).err = false → 6 ≤ (x.nq r).log2 → (x.nq r).log2 ≤ 12 → d.ifc.pcie = false →
    exec (.nqEnable r v) s = .next (s.after (x.nqMod r fun n => { n with en := true, stopped := false })))
  ∧ (∀ (r : Fin 16) (v : Word), wbits v 4 10 ≤ 1000 → wbit v 0 = false →
    exec (.nqDisable r v) s = .next (s.after
      ((d.nqMod r fun n => { n with itr := wbits v 4 10, err := n.err && !wbit v 1 }).nqStop r)))
  -- TX_WRITEBACK of a frame in one buffer that no port takes: status NO_DEST
  ∧ (∀ (r : Fin 8) (l : Nat) (f : EthFrame), (d.nq r).en = true → (d.nq r).stopped = false → (d.nq r).tsWait = none →
    1 ≤ (d.nq r).level → 0 < l → (d.classify 6 (if f.tsReq || f.oneStep then some r.val else none) f).2 = [] →
    exec (.txWriteback r [l] false f) s = .next (s.after
      ((d.classify 6 (if f.tsReq || f.oneStep then some r.val else none) f).1.txBacks r 0 3 0 0 [l])))
  -- TX_WRITEBACK of a frame that enters the switch and asks for no timestamp
  ∧ (∀ (r : Fin 8) (ls : List Nat) (f : EthFrame) (q : Nat) (qs : List Nat), (d.nq r).en = true → (d.nq r).stopped = false →
    (d.nq r).tsWait = none → ls ≠ [] → ls.length ≤ (d.nq r).level → ls.length ≤ 8 → 0 < ls.sum → f.tsReq = false →
    f.oneStep = false → (d.classify 6 none f).2 = q :: qs →
    exec (.txWriteback r ls false f) s = .next (s.after ((d.classify 6 none f).1.txBacks r 0 0 f.len 0 ls)))
  -- TX_TS_TIMEOUT, 10 ms after the frame entered the switch
  ∧ (∀ (r : Fin 8) (w : TsWait), (d.nq r).tsWait = some w →
    exec (.txTsTimeout r) s = .next (s.after (((d.advanceMono (w.since + 10 * msU)).txBacks r 0 6 0 0 w.lens).nqMod r fun n =>
      { n with tsWait := none })))
  -- ETH_FRAME_TRANSMIT of a frame that no ring waits for
  ∧ (∀ (p : Fin 8) (f : QFrame), p.val ≠ 6 → (d.sendNext p).2 = some f → f.tsRing = none →
    exec (.ethFrameTransmit p) s = .next (s.after (d.sendNext p).1))
  -- RX_FRAME_DELIVER: the oldest frame of the queue fills the posted buffers
  ∧ (∀ (q : Fin 8) (bs : List (Nat × Nat)) (f : QFrame) (fs : List QFrame), tget [] (d.eport 6).queues q = f :: fs →
    (d.nq (8 + q)).en = true → (d.nq (8 + q)).stopped = false → d.portUp 6 = true →
    f.frame.len ≤ ((bs.take (d.nq (8 + q)).level).map Prod.snd).sum →
    ∃ x : Dev, x = d.eportMod 6 (fun e => { e with queues := tset [] e.queues q fs, tx := min (e.tx + 1) 0xFFFFFFFF }) ∧
    exec (.rxFrameDeliver q bs) s = .next (s.after
      (((x.release f).rxBacks (8 + q) f (d.nq (8 + q)).drops true f.frame.len (bs.take (d.nq (8 + q)).level)).nqMod (8 + q)
        fun n => { n with drops := 0, q := { n.q with drops := min (n.q.drops + (d.nq (8 + q)).drops) 0xFFFFFFFF } })))
  -- PF1_FUNCTION_RESET
  ∧ exec .pf1FunctionReset s = .next (s.after d.pf1Reset)
  -- CAN_TX_COMPLETE of a frame of CAN_SEND: its command completes with the timestamp
  ∧ (∀ (p : Fin 4) (n : Nat) (x : CanTx), canFirst (d.can p).txq = some x → (d.can p).en = true → (d.can p).st ≠ .busOff →
    x.isb = false →
    exec (.canTxComplete p n) s = .next (s.after ((d.canMod p fun k => { k with
      txq := k.txq.erase x, sent := min (k.sent + 1) 0xFFFFFFFF, retries := min (k.retries + n) 0xFFFFFFFF }).owe
      x.path x.tag .canSend .success (stampWords d.tbs.time ++ [sat32 n]))))
  -- CAN_FRAME_RECEIVE of a frame that no filter takes changes nothing
  ∧ (∀ (p : Fin 4) (f : CanFrame), (d.can p).en = true → (d.can p).st ≠ .busOff →
    ((d.can p).filts.any fun x => x.2.takes f) = false → f.isb = none → exec (.canFrameReceive p f) s = .next (s.after d))
  -- CAN_FRAME_RECEIVE of a frame that a filter takes, with no read pending: it enters the receive queue
  ∧ (∀ (p : Fin 4) (f : CanFrame), (d.can p).en = true → (d.can p).st ≠ .busOff →
    ((d.can p).filts.any fun x => x.2.takes f) = true → f.isb = none → d.reads = [] →
    exec (.canFrameReceive p f) s = .next (s.after
      ((d.canMod p fun k => { k with rxq := ((d.can p).rxq.push { ts := d.tbs.time, frame := f } true).1 }).irqIf 10
        ((d.can p).rxq.push { ts := d.tbs.time, frame := f } true).2)))
  -- CAN_BUS_OFF and CAN_BUS_OFF_RECOVERY
  ∧ (∀ p : Fin 4, (d.can p).en = true → (d.can p).st = .active →
    exec (.canBusOff p) s = .next (s.after
      ((d.canMod p fun k => { k with st := .busOff, offs := min (k.offs + 1) 0xFFFFFFFF }).irq 10)))
  ∧ (∀ p : Fin 4, (d.can p).st = .busOff →
    exec (.canBusOffRecovery p) s = .next (s.after
      ((d.canMod p fun k => { k with st := .active }).log (fwCode 1 0x0C 0x11) (leBytes 1 p.val))))
  -- ISB_CLAIM_LOST: the next alternate; 254 when none is left
  ∧ (∀ p : Fin 4, (d.can p).en = true → (d.can p).isb = true → (d.can p).addr ≠ 254 →
    (∀ a, ((d.can p).alts.filter fun a => a != 0xFF)[(d.can p).nextAlt]? = some a →
      exec (.isbClaimLost p) s = .next (s.after
        ((d.canMod p fun k => { k with addr := a, nextAlt := k.nextAlt + 1 }).irqIf 10 (a != (d.can p).addr))))
    ∧ (((d.can p).alts.filter fun a => a != 0xFF)[(d.can p).nextAlt]? = none →
      exec (.isbClaimLost p) s = .next (s.after
        (((d.canMod p fun k => { k with addr := 254 }).irq 10).log (fwCode 1 0x0C 0x12) (leBytes 1 p.val)))))
  -- SMB_XFER_DONE: data, and the end without an acknowledgement
  ∧ (∀ (m : Fin 2) (x : SmbReq) (xs : List SmbReq), (d.smb m).q = x :: xs →
    (∀ bs, exec (.smbXferDone m (.ok bs)) s = .next (s.after
      (((d.smbMod m fun y => { y with q := xs }).toBufferAt x.path x.buf 32 (fitTo x.rlen bs)).owe x.path x.tag .smbXfer .success
        (word x.rlen :: packWords (fitTo 12 (fitTo x.rlen bs))))))
    ∧ exec (.smbXferDone m .nack) s = .next (s.after
      (((d.smbMod m fun y => { y with q := xs }).smbMod m fun y => { y with fails := tinc y.fails 0 }).owe x.path x.tag
        .smbXfer .smbNack [])))
  -- GPIO_EDGE of a selected edge that no wake names
  ∧ (∀ p : Fin 32, p.val ≠ 31 → (d.pin p).edge = 3 → d.blw.wakeGpio.getLsbD p = false →
    exec (.gpioEdge p true) s = .next (s.after (Dev.irq { d with ifc := { d.ifc with
      level := d.ifc.level ||| BitVec.ofNat 32 (2 ^ p.val) } } 11)))
  -- CAP_EDGE: the capture, dt after now
  ∧ (∀ (n : Fin 16) (f : Bool) (dt : Nat), d.blw.wakeCap.getLsbD n = false →
    exec (.capEdge n f dt) s = .next (s.after ((d.advance dt).capture n f)))
  -- ADC_SEQUENCE, at the next instant of the grid
  ∧ (∀ (codes : List (Fin 4096)), d.tbs.en = true → d.tbs.resync = false → d.ifc.adcN ≠ 0 → d.reads = [] →
    ∃ t, exec (.adcSequence codes) s = .next t ∧ t.dev.tbs.mono = d.tbs.mono +
        (nextFire (d.ifc.adcPeriod * usU) (d.ifc.adcOffset * usU) d.tbs.time d.ifc.adcAt - d.tbs.time)
      ∧ t.dev.ifc.adcAt = some (nextFire (d.ifc.adcPeriod * usU) (d.ifc.adcOffset * usU) d.tbs.time d.ifc.adcAt))

/-- Chapter 13: the four states of a mailbox slot, its doorbells and its timeouts, for a master that is bound to the channel; an
access by a master that is not bound has no effect there (rests on R384, R387 to R394). -/
def Obligations.MailboxEvents : Prop :=
  (∀ (s : State) (d : Dev) (m : Master) (ch : Fin 32) (b : Bool), s.dev = d → d.endOf ch.val m = some b →
  -- MBX_POST of a free slot posts the message and rings the peer; of a slot that is not free, WRITE_REJECT
  (∀ h : Word, (d.mboxEnd ch b).full = false →
    exec (.mbxPost m ch h) s = .next (s.after (d.mbxPost ch b (withHeader (d.mboxEnd ch b).msg h)))
    ∧ (∀ u, s.after (d.mbxPost ch b (withHeader (d.mboxEnd ch b).msg h)) = u → (u.dev.mboxEnd ch b).full = true
      ∧ (u.dev.mboxEnd ch b).taken = false ∧ (u.dev.mboxEnd ch b).dueAt = some (d.tbs.mono + (d.mboxEnd ch b).tmo * msU)))
  ∧ (∀ h : Word, (d.mboxEnd ch b).full = true → exec (.mbxPost m ch h) s = .next (s.after (d.mbxReject ch b)))
  -- MBX_WAITING
  ∧ (∀ on, exec (.mbxWaiting m ch on) s = .next (s.after
      ((d.mboxMod ch b fun e => { e with waiting := on }).crossCheck d ch)))
  -- MBX_TAKE with nothing posted, or a message already held: ACK_ERR
  ∧ (∀ data w, (d.mboxEnd ch !b).posted = false →
    exec (.mbxTake m ch data w) s = .next (s.after (d.mboxMod ch b fun k => { k with ackErr := true })))
  -- MBX_TAKE of a message that carries no command to firmware
  ∧ (∀ data w, (d.mboxEnd ch !b).posted = true → (b = false ∨ cmdChan ch = false) →
    exec (.mbxTake m ch data w) s = .next (s.after (d.mboxMod ch (!b) fun e => { e with taken := true })))
  -- MBX_TAKE by firmware of a command it serves, with an entry of its class free
  ∧ (∀ data w (a : Arrival), b = true → cmdChan ch = true → (d.mboxEnd ch false).posted = true → d.hears (.mbx ch) = true →
    a = arrivalOf (.mbx ch) ((d.mboxEnd ch false).msg.getD 0 0) ((d.mboxEnd ch false).msg.drop 1) data true →
    (d.poolFor (classOf (opOfCode a.code)) true).isSome = true →
    exec (.mbxTake m ch data w) s = .next (s.after
      ((d.mboxMod ch false fun e => { e with taken := true }).takeIn a (288 + ch) w)))
  -- MBX_ACK of a message held, with DONE: the sender's OUT_ACK and its DB_IN.ACK
  ∧ (∀ v : Word, (d.mboxEnd ch !b).held = true → wbit v 31 = true →
    exec (.mbxAck m ch v) s = .next (s.after
      ((d.mboxMod ch (!b) fun e => { e with ack := v &&& 0x8FFFFFFF, dueAt := none }).dbSet ch (!b) 2)))
  -- MBX_ACK of no held message: ACK_ERR
  ∧ (∀ v : Word, (d.mboxEnd ch !b).held = false →
    exec (.mbxAck m ch v) s = .next (s.after (d.mboxMod ch b fun e => { e with ackErr := true })))
  -- MBX_FREE of an acknowledged message
  ∧ ((d.mboxEnd ch b).done = true →
    exec (.mbxFree m ch) s = .next (s.after (d.mboxMod ch b fun e =>
      { e with ack := e.ack &&& 0x7FFFFFFF, full := false, taken := false })))
  -- MBX_RING: software bits 3 to 31 of the peer's DB_IN
  ∧ (∀ v : Word, exec (.mbxRing m ch v) s = .next (s.after (d.dbSet ch (!b) (v &&& 0xFFFFFFF8))))
  -- a slot of firmware's end that is not posted again: MBX_ACK_TIMEOUT withdraws a message that nobody took
  ∧ (∀ t, (d.mboxEnd ch b).dueAt = some t → (d.mboxEnd ch b).posted = true → m ≠ .sup → m ≠ .sec →
    exec (.mbxAckTimeout ch b) s = .next (s.after
      ((((d.advanceMono t).mboxMod ch b fun e => { e with full := false, timeout := true, dueAt := none }).dbSet ch b 4).pathCntMod
        ch fun n => { n with timeout := min (n.timeout + 1) 0xFFFFFFFF })))
  -- a message that was taken stays, with TAKEN_LATE
  ∧ (∀ t, (d.mboxEnd ch b).dueAt = some t → (d.mboxEnd ch b).posted = false →
    exec (.mbxAckTimeout ch b) s = .next (s.after
      ((((d.advanceMono t).mboxMod ch b fun e => { e with late := true, dueAt := none }).dbSet ch b 4).pathCntMod
        ch fun n => { n with late := min (n.late + 1) 0xFFFFFFFF })))
  )
  ∧ (∀ (s : State) (d : Dev) (m : Master) (ch : Fin 32), s.dev = d → d.endOf ch.val m = none →
    (∀ h, exec (.mbxPost m ch h) s = .next (s.after (d.turnAway m)))
    ∧ (∀ on, exec (.mbxWaiting m ch on) s = .next (s.after (d.turnAway m)))
    ∧ (∀ l w, exec (.mbxTake m ch l w) s = .next (s.after (d.turnAway m)))
    ∧ (∀ v, exec (.mbxAck m ch v) s = .next (s.after (d.turnAway m)))
    ∧ exec (.mbxFree m ch) s = .next (s.after (d.turnAway m))
    ∧ (∀ v, exec (.mbxRing m ch v) s = .next (s.after (d.turnAway m)))
    ∧ (d.turnAway m).mbx = d.mbx)

/-- Chapters 12, 13 and 14: command rings, the UART bridge, management frames, completions and the loss of the host (rests on
R357, R358, R366, R369, R395, R399 to R405, R411, R460, 01 R44). -/
def Obligations.HostPathEvents : Prop :=
  ∀ (s : State) (d : Dev), s.dev = d →
  -- UART_FRAME with a wrong CRC is counted; a good one of one header word posts on channel 12 where the bridge is its end
  (∀ (bs : List Byte) (crc : BitVec 16), crc16 bs ≠ crc.toNat →
    exec (.uartFrame bs crc) s = .next (s.after { d with ifc := { d.ifc with uartErrs := min (d.ifc.uartErrs + 1) 0xFFFFFFFF } }))
  -- COAL_EXPIRY of a held message
  ∧ (∀ r : Fin 16, (d.ring r).held = true →
    exec (.coalExpiry r) s = .next (s.after ((d.advanceMono ((d.ring r).msgAt.getD 0 + (d.ring r).coal * usU)).crSignal r)))
  -- CMD_TIMEOUT: the host is told, the count rises, and the tag stays in flight as lost
  ∧ (∀ (r : Fin 16) (tag : BitVec 8) (f : Flight) (t : Nat), (d.ring r).byTag tag = some f → f.dueAt = some t → f.discard = false →
    ∃ x : Dev, x = ((d.advanceMono t).ringMod r (fun k => { k with
        flight := k.flight.map fun g => if g.tag = tag then { g with dueAt := none, lost := true } else g })).pathCntMod (32 + r.val)
        (fun n => { n with cmdTmo := min (n.cmdTmo + 1) 0xFFFFFFFF }) ∧
    exec (.cmdTimeout r tag) s = .next (s.after ((x.crComplete r f.idx tag .cmdTimeout 0 [] x.epoch).log (fwCode 1 0x0D 0x12)
      (leBytes 1 r.val ++ leBytes 1 tag.toNat ++ leBytes 2 f.op))))
  -- CR_SQ_TAIL_WRITE and CR_CQ_HEAD_WRITE
  ∧ (∀ (r : Fin 16) (v : Word), exec (.crSqTailWrite r v) s = .next (s.after
      ((d.ringMod r fun k => { k with sqTail := wbits v 0 12 }).throttle r)))
  ∧ (∀ (r : Fin 16) (v : Word), exec (.crCqHeadWrite r v) s = .next (s.after
      ((d.ringMove r fun k => { k with cqHead := wbits v 0 12 }).throttle r)))
  -- CR_ENABLE with legal values of a stopped ring of legal sizes, without ERR
  ∧ (∀ (r : Fin 16) (v : Word) (x : Dev), wbit v 0 = true → wbits v 1 10 ≤ 1000 → 10 ≤ wbits v 11 14 → wbits v 11 14 ≤ 10000 →
    x = d.ringMod r (fun k => { k with coal := wbits v 1 10, tmo := wbits v 11 14 }) → (x.ring r).en = false → (x.ring r).err = false →
    4 ≤ (x.ring r).sqLog → (x.ring r).sqLog ≤ 12 → 4 ≤ (x.ring r).cqLog → (x.ring r).cqLog ≤ 12 →
    exec (.crEnable r v) s = .next (s.after ((x.ringMod r fun k => { k with en := true }).throttle r)))
  -- CR_ENABLE with an illegal coalescing time or timeout: CFG_REJECT
  ∧ (∀ (r : Fin 16) (v : Word), 1000 < wbits v 1 10 ∨ wbits v 11 14 < 10 ∨ 10000 < wbits v 11 14 →
    exec (.crEnable r v) s = .next (s.after d.cfgReject))
  -- CR_DISABLE: fetching stops, commands in flight run on
  ∧ (∀ (r : Fin 16) (v : Word), wbit v 0 = false → wbits v 1 10 ≤ 1000 → 10 ≤ wbits v 11 14 → wbits v 11 14 ≤ 10000 →
    exec (.crDisable r v) s = .next (s.after
      (((d.ringMod r fun k => { k with coal := wbits v 1 10, tmo := wbits v 11 14 }).ringMod r fun k => { k with en := false }).throttle r)))
  -- DMA_ERROR of an enabled command ring: it stops with ERR, its completions discarded
  ∧ (∀ k : Fin 16, (d.ring k).en = true →
    exec (.dmaError (.cr k)) s = .next (s.after
      (((d.crDiscard k).ringMod k fun n => { n with err := true }).log (fwCode 2 0x0D 0x14) (leBytes 1 k.val))))
  -- EVENT_COMPLETE of an event that runs: without an answer to deliver, with one, and after a restart of its service
  ∧ (∀ (n : Fin 1024) (r : Bool) (e : Ent) (k : Nat), tget none d.sch.ents n.val = some e → e.core = some k →
    (e.due = none → exec (.eventComplete n r) s = .next (s.after (d.finish n r)))
    ∧ (∀ x, e.due = some x → r = false → exec (.eventComplete n r) s = .next (s.after ((d.finish n false).deliver x)))
    ∧ (∀ x, e.due = some x → r = true → exec (.eventComplete n r) s = .next (s.after
        ((d.finish n true).deliver { x with code := .serviceRestart, words := [] }))))
  -- ASYNC_DONE delivers the oldest completion that can be delivered
  ∧ (∀ x, d.asyncQ.find? d.canDeliver = some x →
    exec .asyncDone s = .next (s.after ({ d with asyncQ := d.asyncQ.erase x }.deliverFinal x)))
  -- PF0_FUNCTION_RESET, and the loss of the link, which PERST_N brings too, for both functions
  ∧ exec .pf0FunctionReset s = .next (s.after d.pf0Reset)
  ∧ (∀ u, s.after (Dev.pf1Reset (Dev.pf0Reset { d with ifc := { d.ifc with pcie := false } })) = u →
    exec .pcieLinkLoss s = .next u ∧ exec .perst s = .next u)
  -- CR_FETCH: of an enabled ring with room, no FENCE, a fresh tag and an entry free: the entry leaves the queue for flight
  ∧ (∀ (r : Fin 16) (ws : List Word) (data : List Byte) (w : Option Word) (a : Arrival), a = arrivalOf (.ring r) (ws.getD 0 0) (ws.drop 1) data true →
    (d.ring r).en = true → (d.ring r).ready = true → d.ifc.pcie = true → d.hears (.ring r) = true → d.ringRoom (d.ring r) = true →
    wbit (ws.getD 0 0) 28 = false → (d.ring r).byTag a.cmd.tag = none → (d.poolFor (classOf (opOfCode a.code)) true).isSome = true →
    exec (.crFetch r ws data w) s = .next (s.after (Dev.throttle (Dev.takeIn
      ((d.ringMod r fun k => { k.fetched with
        flight := k.flight ++ [{
          tag := a.cmd.tag
          op := a.code
          idx := (d.ring r).sqHead % 2 ^ (d.ring r).sqLog
          dueAt := some (d.tbs.mono + k.tmo * msU) }] }).pathCntMod
        (32 + r.val) fun q => { q with peak := max q.peak ((d.ring r).flight.length + 1) }) a (272 + r.val) w) r)))
  -- CR_FETCH of a tag in flight: TAG_BUSY at once
  ∧ (∀ (r : Fin 16) (ws : List Word) (data : List Byte) (w : Option Word) (tag : BitVec 8),
    tag = BitVec.ofNat 8 (wbits (ws.getD 0 0) 16 8) →
    (d.ring r).en = true → (d.ring r).ready = true → d.ifc.pcie = true → d.hears (.ring r) = true → d.ringRoom (d.ring r) = true →
    wbit (ws.getD 0 0) 28 = false → ((d.ring r).byTag tag).isSome = true →
    exec (.crFetch r ws data w) s = .next (s.after (((d.ringMod r Ring.fetched).crComplete r
      ((d.ring r).sqHead % 2 ^ (d.ring r).sqLog) tag .tagBusy 0 [] d.epoch).throttle r)))
  -- MGMT_FRAME of HPF1 on the management VID, its SEQ not answered within 1 s and a tag free: it runs
  ∧ (∀ f : MgmtIn, f.hpf1 = true → f.onMgmtVid = true → f.version = 1 → 4 ≤ f.len → d.hears .mgmt = true →
    (d.sw.replies.find? fun r => r.hpf1 == f.hpf1 && r.seq == f.seq && decide (d.tbs.mono ≤ r.at_ + secU)) = none →
    (d.sw.mgmtBusy.filter fun b => b.hpf1 == f.hpf1).length < 64 → d.tagsUsed < 1024 →
    exec (.mgmtFrame f) s = .next (s.after (d.mgmtRun f (arrivalOf .mgmt f.header f.words f.data true))))
  -- MGMT_FRAME of SITE without a validated SA is dropped and counted
  ∧ (∀ f : MgmtIn, f.hpf1 = false → f.validated = false → d.hears .site = true →
    exec (.mgmtFrame f) s = .next (s.after d.mgmtDrop))
  -- MGMT_FRAME whose SEQ was answered within 1 s: the stored reply again
  ∧ (∀ (f : MgmtIn) (r : MgmtRep), f.hpf1 = true → f.onMgmtVid = true → f.version = 1 → 4 ≤ f.len → d.hears .mgmt = true →
    (d.sw.replies.find? fun r => r.hpf1 == f.hpf1 && r.seq == f.seq && decide (d.tbs.mono ≤ r.at_ + secU)) = some r →
    exec (.mgmtFrame f) s = .next (s.after (d.answer r.code r.tag r.words d.epoch)))
  -- TXN_EXPIRY: 10 s after TXN_BEGIN the open transaction is rolled back
  ∧ (∀ p : Fin 5, (d.tport p).st = .opened →
    exec (.txnExpiry p) s = .next (s.after (((((d.advanceMono ((d.tport p).beganAt + 10 * secU)).dropStaged p .txnDiscarded).tportMod p
      fun t => { t with st := .expired }).log (fwCode 1 1 0x10) (leBytes 1 p.val)))))

/-- Chapter 15: the key commands once their checks pass: generation, import, export, derivation, zeroization and reading of
slots (rests on R427 to R430, R432, R435). -/
def Obligations.KeyCommandsRun : Prop :=
  ∀ (c : Cmd) (s : State) (d : Dev) (k w : Nat), s.dev = d → argF c 0 0 6 = k → argF c 0 6 6 = w →
  -- KEY_GENERATE into an empty user slot of attributes that the type allows: a fresh key
  (∀ v : KSlot, d.accepts .keyGenerate c = true → keyGate false d = none → 8 ≤ k →
    attrsOk (argF c 0 8 4) (argF c 1 0 8) (argF c 1 8 8) = true → (d.kslot k).full = false → d.sec.condFlaw = false →
    v = keySlot (argF c 0 8 4) (BitVec.ofNat 8 (argF c 1 0 8)) (BitVec.ofNat 8 (argF c 1 8 8)) (argB c 1 16) (argB c 1 17) false
      (fitTo (keyLen (argF c 0 8 4)) (Config.freshKey (argF c 0 8 4) d.free)) d.taiSec →
    exec (.keyGenerate c) s = .next (s.replied c ({ d with free := d.free + 1 }.enterKey k v) [v.kcv]))
  -- KEY_GENERATE into a slot below 8, or with attributes that R429 forbids
  ∧ (d.accepts .keyGenerate c = true → keyGate false d = none →
    (k < 8 ∨ attrsOk (argF c 0 8 4) (argF c 1 0 8) (argF c 1 8 8) = false) →
    exec (.keyGenerate c) s = .next (s.turnedDown .keyGenerate c 8 .keyUsage))
  -- KEY_GENERATE into a full slot
  ∧ (d.accepts .keyGenerate c = true → keyGate false d = none → 8 ≤ k →
    attrsOk (argF c 0 8 4) (argF c 1 0 8) (argF c 1 8 8) = true → (d.kslot k).full = true →
    exec (.keyGenerate c) s = .next (s.turnedDown .keyGenerate c 8 .resourceBusy))
  -- KEY_IMPORT of a public key in plain form
  ∧ (∀ (b : List Byte) (v : KSlot), b = (d.withArea .keyImport c).data → d.accepts .keyImport c = true → keyGate false d = none →
    8 ≤ k → (d.kslot k).full = false → argB c 0 12 = true → blobHeaderOk b = true → 8 ≤ leAt b 1 1 → b.length = 8 + leAt b 6 2 →
    attrsOk (leAt b 1 1) (leAt b 2 1) (leAt b 3 1) = true → v = blobSlot b (b.drop 8) false d.taiSec →
    exec (.keyImport c) s = .next (s.replied c (d.enterKey k v) [v.kcv]))
  -- KEY_EXPORT of an exportable slot under a user slot that may wrap: the sealed blob goes to the buffer
  ∧ (∀ (v : KSlot) (nonce : List Byte), d.accepts .keyExport c = true → keyGate false d = none → v = d.kslot k → v.full = true →
    v.exportable = true → (d.kslot w).full = true → (d.kslot w).usage.getLsbD 5 = true → 8 ≤ w → 36 + keyLen v.typ ≤ (arg c 3).toNat →
    nonce = leBytes 4 (Config.freeWord d.free).toNat ++ leBytes 4 (Config.freeWord (d.free + 1)).toNat
      ++ leBytes 4 (Config.freeWord (d.free + 2)).toNat →
    exec (.keyExport c) s = .next (s.replied c
      ((({ d with free := d.free + 3 }.useKey k).useKey w).toBuffer c.path (arg64 c 1) (blobHeader v ++ nonce ++
        fitTo (keyLen v.typ + 16) (Config.gcmSeal (d.kslot w).key nonce (blobHeader v) v.key))) [word (36 + keyLen v.typ)]))
  -- KEY_EXPORT of a slot that is not EXPORTABLE
  ∧ (d.accepts .keyExport c = true → keyGate false d = none → (d.kslot k).full = true → (d.kslot k).exportable = false →
    exec (.keyExport c) s = .next (s.turnedDown .keyExport c 8 .keyNoExport))
  -- KEY_DERIVE of kind USER from a full user slot that may derive, into an empty user slot
  ∧ (∀ v : KSlot, d.accepts .keyDerive c = true → keyGate false d = none → (d.kslot k).full = true → 8 ≤ k → 8 ≤ w →
    (d.kslot w).full = false → attrsOk (argF c 1 18 4) (argF c 1 0 8) (argF c 1 8 8) = true → argF c 0 12 2 = 0 →
    (d.kslot k).usage.getLsbD 4 = true → argF c 1 18 4 < 8 →
    v = keySlot (argF c 1 18 4) (BitVec.ofNat 8 (argF c 1 0 8)) (BitVec.ofNat 8 (argF c 1 8 8)) (argB c 1 16) (argB c 1 17) false
      (d.derive (d.kslot k).key "PQ-USER" (beBytes 4 (arg c 2).toNat) (keyLen (argF c 1 18 4))) d.taiSec →
    exec (.keyDerive c) s = .next (s.replied c ((d.useKey k).enterKey w v) [v.kcv]))
  -- KEY_DERIVE from an empty slot
  ∧ (d.accepts .keyDerive c = true → keyGate false d = none → (d.kslot k).full = false →
    exec (.keyDerive c) s = .next (s.turnedDown .keyDerive c 8 .keyEmpty))
  -- KEY_ZEROIZE of a full user slot that the persistent area does not hold; and of one that it holds, which completes later
  ∧ (d.accepts .keyZeroize c = true → keyGate false d = none → argB c 0 8 = false → 8 ≤ k → (d.kslot k).full = true →
    (tget none d.sec.stored k = none →
      exec (.keyZeroize c) s = .next (s.replied c ((d.kslotMod k fun _ => {}).log (fwCode 1 0x0E 0x10) (leBytes 1 k)) []))
    ∧ (∀ x, tget none d.sec.stored k = some x →
      exec (.keyZeroize c) s = .next (s.underway c
        (((d.kslotMod k fun _ => {}).log (fwCode 1 0x0E 0x10) (leBytes 1 k)).zeroPersistent [k] [(c.path, c.tag, .keyZeroize)]))))
  -- KEY_INFO, in any state of the life cycle
  ∧ (d.accepts .keyInfo c = true → d.sec.testFail = false →
    exec (.keyInfo c) s = .next (s.replied c d [word ((d.kslot k).typ + 2 ^ 4 * (d.kslot k).dest.toNat
      + 2 ^ 12 * (d.kslot k).usage.toNat + 2 ^ 20 * b2n (d.kslot k).exportable + 2 ^ 21 * b2n (d.kslot k).persist
      + 2 ^ 22 * b2n (d.kslot k).nonapp + 2 ^ 23 * b2n (d.kslot k).full),
      if (d.kslot k).full then (d.kslot k).kcv else 0, sat32 (d.kslot k).uses, word (d.kslot k).loaded]))
  -- KEY_PUBLIC of a slot that has a public key, with room for it
  ∧ (∀ p, d.accepts .keyPublic c = true → keyGate false d = none → (d.kslot k).full = true → (d.kslot k).pub = some p →
    p.length ≤ (arg c 3).toNat →
    exec (.keyPublic c) s = .next (s.replied c (d.toBuffer c.path (arg64 c 1) p) [word p.length]))
  -- KEY_PUBLIC of a slot that has none
  ∧ (d.accepts .keyPublic c = true → keyGate false d = none → (d.kslot k).full = true → (d.kslot k).pub = none →
    exec (.keyPublic c) s = .next (s.turnedDown .keyPublic c 8 .keyUsage))

/-- Chapter 15: the life cycle, debug unlock, self-tests and tamper (rests on R422 to R424, R432 to R440). -/
def Obligations.SecurityCommandsRun : Prop :=
  ∀ (c : Cmd) (s : State) (d : Dev), s.dev = d →
  -- LC_ADVANCE to a target that the state allows, GO inactive, confirmed, with nothing in the persistent area
  (d.accepts .lcAdvance c = true → d.sec.advance = none → (lcTargets d.sec.lc).contains (argF c 0 0 3) = true → d.goActive = false →
    d.bgl.enable = false → arg c 1 = d.lcConfirm (argF c 0 0 3) → d.sec.stored = [] →
    ∃ x : Dev, x = d.zeroVolatile ∧
    exec (.lcAdvance c) s = .next (s.replied c { x with sec := { x.sec with advance := some (argF c 0 0 3) } } []))
  -- LC_ADVANCE to another target, or while GO is active, is refused
  ∧ (d.accepts .lcAdvance c = true → ((lcTargets d.sec.lc).contains (argF c 0 0 3) = false ∨ d.goActive = true) →
    exec (.lcAdvance c) s = .next (s.turnedDown .lcAdvance c 8 .lcIllegal))
  -- LC_STATUS draws a new challenge
  ∧ (d.accepts .lcStatus c = true → exec (.lcStatus c) s = .next (s.replied c
      { d with free := d.free + 1, sec := { d.sec with challenge := Config.freeWord d.free } }
      (word (d.sec.lc + 8 * b2n d.bgl.testRoot + 16 * b2n d.debugOpen + 32 * b2n d.approved + 64 * b2n d.sec.advance.isSome
        + 2 ^ 8 * d.sec.tmpFuses + 2 ^ 13 * d.lcFuses) :: words64 d.gen.deviceId.toNat ++ [Config.freeWord d.free])))
  -- DBG_UNLOCK with a token that verifies, in DEPLOYED: every volatile slot is zeroized and the test root derives the fixed slots
  ∧ (∀ x : Dev, d.accepts .dbgUnlock c = true → (d.sec.lc = 1 ∨ d.sec.lc = 2) → d.goActive = false → d.bgl.enable = false →
    d.sec.advance = none → d.tokenOk (d.withArea .dbgUnlock c).data = true → (d.withArea .dbgUnlock c).sigOk = true →
    x = d.zeroVolatile →
    exec (.dbgUnlock c) s = .next (s.replied c
      ({ x with sec := { x.sec with debug := true }, bgl := { x.bgl with testRoot := true } } : Dev).deriveFixed []))
  -- DBG_UNLOCK while GO is active, or in LOCKED, is refused
  ∧ (d.accepts .dbgUnlock c = true → (d.sec.lc = 4 ∨ d.goActive = true) →
    exec (.dbgUnlock c) s = .next (s.turnedDown .dbgUnlock c 8 .debugLocked))
  -- SELFTEST_RUN: the tests of MASK pass; or some fail, and key commands fail from then on
  ∧ (d.accepts .selftestRun c = true → argF c 0 0 14 &&& d.sec.flaws.toNat = 0 →
    exec (.selftestRun c) s = .next (s.replied c d [0]))
  ∧ (∀ f, d.accepts .selftestRun c = true → f = argF c 0 0 14 &&& d.sec.flaws.toNat → f ≠ 0 →
    exec (.selftestRun c) s = .next (s.after (((({ d with sec := { d.sec with testFail := true } } : Dev).log 0x8F03
      (leBytes 2 f)).countOrder c.path 8).answer .selftestFail c.tag [word f] d.epoch)))
  -- TAMPER_CFG: it applies at the next reset; in DEPLOYED it may disable no enabled source
  ∧ (∀ en : BitVec 12, d.accepts .tamperCfg c = true → en = BitVec.ofNat 12 (argF c 0 0 12) →
    (d.sec.lc ≠ 2 ∨ d.sec.tmp.en &&& ~~~en = 0 →
      exec (.tamperCfg c) s = .next (s.replied c { d with sec := { d.sec with tmpNext := some {
        en := en, level := BitVec.ofNat 4 (argF c 1 0 4), act01 := argB c 1 4, act23 := argB c 1 5 } } } []))
    ∧ (d.sec.lc = 2 → d.sec.tmp.en &&& ~~~en ≠ 0 →
      exec (.tamperCfg c) s = .next (s.turnedDown .tamperCfg c 8 .lcIllegal)))
  -- TAMPER_STATUS
  ∧ (d.accepts .tamperStatus c = true → exec (.tamperStatus c) s = .next (s.replied c d
      [word (d.sec.latched.toNat + 2 ^ 12 * d.sec.first), word d.sec.latchAt, word d.sec.tmpFuses, word d.sec.live.toNat]))

/-- Chapter 15: the end of a persistent zeroization, and a tamper latch (rests on R435 to R438). -/
def Obligations.SecurityEvents : Prop :=
  ∀ (s : State) (d : Dev), s.dev = d →
  -- ZEROIZE_PERSISTENT_DONE whose readback passes: the slots are gone, and the commands that waited complete
  (d.sec.zeroizing = true → exec (.zeroizePersistentDone true) s = .next (s.after
      (d.sec.zeroAsk.foldl (fun (x : Dev) (a : Path × BitVec 8 × Op) => x.owe a.1 a.2.1 a.2.2 .success [])
        { d with sec := { d.sec with stored := d.sec.zeroSlots.foldl (fun t k => tset none t k none) d.sec.stored
                                     zeroizing := false, zeroSlots := [], zeroAsk := [] } })))
  -- a readback that fails: a record, and the zeroization goes on
  ∧ (d.sec.zeroizing = true → exec (.zeroizePersistentDone false) s = .next (s.after (d.log (fwCode 1 0x0E 0x12) []))
      ∧ (d.log (fwCode 1 0x0E 0x12) []).sec.zeroizing = true)
  -- TAMPER_LATCH of the first source in RUN or DOZE: the latch, and the response of R438
  ∧ (∀ src : Fin 12, d.sec.tmp.watches src = true → d.sec.latched = 0 → d.blw.backup = false → d.blw.off = false →
    d.gen.phase = .ready → d.blw.st ≠ PwrSt.night →
    exec (.tamperLatch src) s = .next (s.after (Dev.tamperResponse { d with sec := { d.sec with
      latched := BitVec.ofNat 12 (2 ^ src.val), live := d.sec.live ||| BitVec.ofNat 12 (2 ^ src.val), first := src
      latchAt := d.opSec } })))
  -- a later source only latches
  ∧ (∀ src : Fin 12, d.sec.tmp.watches src = true → d.sec.latched ≠ 0 →
    exec (.tamperLatch src) s = .next (s.after { d with sec := { d.sec with
      latched := d.sec.latched ||| BitVec.ofNat 12 (2 ^ src.val), live := d.sec.live ||| BitVec.ofNat 12 (2 ^ src.val) } }))
  -- in BACKUP the key cache is zeroized
  ∧ (∀ src : Fin 12, d.sec.tmp.watches src = true → d.sec.latched = 0 → d.blw.backup = true →
    ∃ t, exec (.tamperLatch src) s = .next t ∧ t.dev.sec.cache = [] ∧ t.dev.sec.first = src)

/-- Chapter 15: the response to a tamper latch empties every key slot and the key cache and holds the device with the alert
raised; a boot that finds a watched source set releases no core and keeps no key (rests on R436 to R438). -/
def Obligations.TamperZeroizes : Prop :=
  (∀ d : Dev, d.tamperResponse.sec.slots = [] ∧ d.tamperResponse.sec.cache = [] ∧ d.tamperResponse.gen.tamper = true
    ∧ d.tamperResponse.gen.phase = .tamperHold ∧ d.tamperResponse.gen.irqStatus.getLsbD 0 = true
  )
  ∧ (∀ (d : Dev) (cause : Nat) (b : BootIn), (d.atReset cause b).tampered ≠ 0 →
    (d.boot cause b).gen.phase = .tamperHold ∧ (d.boot cause b).gen.tamper = true ∧ (d.boot cause b).sec.slots = []
      ∧ (d.boot cause b).sec.cache = [] ∧ (d.boot cause b).bgl.up = false)

/-- Chapter 16: the commands of the event recorder once their checks pass (rests on R446, R449, R456, R457). -/
def Obligations.RecorderCommandsRun : Prop :=
  ∀ (c : Cmd) (s : State) (d : Dev) (e : Recorder), s.dev = d → e = { d.evr with taiEn := argB c 2 0 } →
  -- REC_CFG waits for the boundary; its effect there for the scopes ALL, CODE and SEVERITY
  (d.accepts .recCfg c = true →
    ((argF c 0 16 2 = 2 ∨ argF c 0 0 16 / 2 ^ 14 = 3 ∨ (argF c 1 0 8 ≠ 0 ∧ argF c 1 16 16 ≠ 0)) →
      exec (.recCfg c) s = .next (s.waits .recCfg c []))
    ∧ (argF c 0 16 2 = 2 → d.runOp .recCfg c = done
      { d with evr := { e with sevCfg := [], buckets := refill e.buckets fun _ => true } } [])
    ∧ (argF c 0 16 2 = 0 → argF c 0 0 16 / 2 ^ 14 ≠ 3 → argF c 1 0 8 ≠ 0 → argF c 1 16 16 ≠ 0 →
      d.runOp .recCfg c = done { d with evr := { e with
        buckets := tmod {} e.buckets (argF c 0 0 16) fun b => { b with own := some (argF c 1 0 8, argF c 1 16 16), missing := 0 } } } [])
    ∧ (argF c 0 16 2 = 1 → argF c 0 0 16 / 2 ^ 14 ≠ 3 → argF c 1 0 8 ≠ 0 → argF c 1 16 16 ≠ 0 →
      d.runOp .recCfg c = done { d with evr := { e with
        sevCfg := tset none e.sevCfg (argF c 0 0 16 / 2 ^ 14) (some (argF c 1 0 8, argF c 1 16 16))
        buckets := refill e.buckets fun k => k / 2 ^ 14 == argF c 0 0 16 / 2 ^ 14 } } [])
    ∧ (argF c 0 16 2 ≠ 2 → argF c 0 0 16 / 2 ^ 14 ≠ 3 → (argF c 1 0 8 = 0 ∨ argF c 1 16 16 = 0) →
      exec (.recCfg c) s = .next (s.turnedDown .recCfg c 8 .reservedValue)))
  -- REC_HIST_CFG of a histogram and of an extreme tracker: CLEAR keeps the configuration, a new one clears
  ∧ (∀ k, d.accepts .recHistCfg c = true → argF c 0 1 7 = k → (argB c 0 0 = true ∨ k < 64) →
    ((argB c 0 30 = true ∨ (argF c 0 16 8 ≤ paramMax (argF c 0 8 8) ∧ (argB c 0 0 = true ∨ argF c 0 24 6 ≠ 0))) →
      exec (.recHistCfg c) s = .next (s.waits .recHistCfg c []))
    ∧ (argB c 0 30 = true → argB c 0 0 = false →
      d.runOp .recHistCfg c = done (d.setHist k { d.hist k with bins := [], cleared := d.opSec }) [])
    ∧ (argB c 0 30 = true → argB c 0 0 = true →
      d.runOp .recHistCfg c = done (d.setExt k { d.ext k with min := none, max := none }) [])
    ∧ (argB c 0 30 = false → argB c 0 0 = false → argF c 0 24 6 ≠ 0 → argF c 0 16 8 ≤ paramMax (argF c 0 8 8) →
      d.runOp .recHistCfg c = done (d.setHist k {
        en := argB c 0 31, source := argF c 0 8 8, param := argF c 0 16 8, nbins := argF c 0 24 6, lo := argI c 1
        width := (arg c 2).toNat, cleared := d.opSec }) [])
    ∧ (argB c 0 30 = false → argB c 0 0 = true → argF c 0 16 8 ≤ paramMax (argF c 0 8 8) →
      d.runOp .recHistCfg c = done (d.setExt k {
        en := argB c 0 31, source := argF c 0 8 8, param := argF c 0 16 8 }) []))
  -- REC_HIST_READ of trackers: whole entries of 24 bytes, as many as the buffer holds
  ∧ (∀ bs, d.accepts .recHistRead c = true → argB c 0 0 = true → bs = takeWhole (arg c 3).toNat
      ((((List.range 128).drop (argF c 0 1 7)).take (if argF c 0 8 8 = 0 then 128 else argF c 0 8 8)).map d.extBytes) →
    exec (.recHistRead c) s = .next (s.replied c (d.toBuffer c.path (arg64 c 1) bs) [word bs.length])
      ∧ bs.length ≤ (arg c 3).toNat)
  -- REC_HIST_READ of histograms: whole entries, within the buffer
  ∧ (d.accepts .recHistRead c = true → argB c 0 0 = false → argF c 0 1 7 < 64 → ∃ bs, bs.length ≤ (arg c 3).toNat ∧
    exec (.recHistRead c) s = .next (s.replied c
      (Dev.toBuffer { d with free := d.free + 64 } c.path (arg64 c 1) bs) [word bs.length]))
  -- REC_FLUSH starts a flush; while one runs it is refused
  ∧ (d.accepts .recFlush c = true →
    (d.evr.flushing = false → exec (.recFlush c) s = .next (s.replied c d.flush []))
    ∧ (d.evr.flushing = true → exec (.recFlush c) s = .next (s.turnedDown .recFlush c 8 .resourceBusy)))
  -- REC_CLEAR issues a challenge
  ∧ (d.accepts .recClear c = true → d.evr.clear = none → d.evr.clearing = false →
    exec (.recClear c) s = .next (s.replied c { d with
      free := d.free + 1, evr := { d.evr with clear := some (Config.freeWord d.free, d.tbs.mono) } } [Config.freeWord d.free]))
  ∧ (d.accepts .recClear c = true → (d.evr.clear.isSome = true ∨ d.evr.clearing = true) →
    exec (.recClear c) s = .next (s.turnedDown .recClear c 8 .resourceBusy))
  -- REC_CLEAR_CONFIRM of the challenge within 10 s clears
  ∧ (∀ x, d.accepts .recClearConfirm c = true → d.evr.clear = some x → x.1 = arg c 0 → d.tbs.mono ≤ x.2 + 10 * secU →
    exec (.recClearConfirm c) s = .next (s.replied c { d with evr := { d.evr with clear := none, clearing := true } } []))
  -- otherwise AUTH_FAIL, and the clear is abandoned
  ∧ (∀ x, d.accepts .recClearConfirm c = true → d.evr.clear = some x → (x.1 ≠ arg c 0 ∨ x.2 + 10 * secU < d.tbs.mono) →
    exec (.recClearConfirm c) s = .next (s.after (((Dev.log { d with evr := { d.evr with clear := none } }
      (fwCode 1 0x0E 0x11) (leBytes 2 (opInfo .recClearConfirm).code)).countOrder c.path 8).answer .authFail c.tag
        (refusalWords .recClearConfirm) d.epoch)))

/-- Chapter 16: records, buckets, flushes, staging pages, the reading window and a clear (rests on R446, R449, R452 to R456). -/
def Obligations.RecorderEvents : Prop :=
  ∀ (s : State) (d : Dev), s.dev = d →
  -- RECORD_COMMIT
  (∀ r : RecIn, exec (.recordCommit r) s = .next (s.after (d.recordRaw r.code.toNat r.slot r.payload)))
  -- REC_BUCKET_REFILL: one token
  ∧ (∀ k : BitVec 16, exec (.recBucketRefill k) s = .next (s.after (d.bucketMod k.toNat fun b => { b with missing := b.missing - 1 })))
  -- REC_FLUSH_DONE of a running flush, by its end
  ∧ (d.evr.flushing = true →
    exec (.recFlushDone .ok) s = .next (s.after d.flushOk)
    ∧ exec (.recFlushDone .program) s = .next (s.after (d.storeFail 0))
    ∧ (d.evr.badPage = false → exec (.recFlushDone .readback) s = .next (s.after { d with evr := { d.evr with badPage := true } }))
    ∧ (d.evr.badPage = true → exec (.recFlushDone .readback) s = .next (s.after (d.storeFail 1)))
    ∧ exec (.recFlushDone .timeout) s = .next (s.after (d.storeFail 2)))
  -- REC_FLUSH_TIMER fires at the next whole 10 minutes of TAI
  ∧ (d.tbs.en = true → d.tbs.resync = false → ∃ t x, exec .recFlushTimer s = .next t ∧ t.dev.evr.timerAt = some x
      ∧ t.dev.evr.flushing = true ∧ d.tbs.time ≤ x ∧ x % tenMin = 0 ∧ ∀ l, d.evr.timerAt = some l → l < x)
  -- STAGING_PAGE_FAIL of a page that is not retired
  ∧ (∀ p : Fin 32, d.evr.retired.getLsbD p = false →
    ∃ t, exec (.stagingPageFail p) s = .next t ∧ t.dev.evr.retired = d.evr.retired ||| BitVec.ofNat 32 (2 ^ p.val))
  -- REC_CURSOR_LOAD and REC_CURSOR_NEXT by a master that reaches the block; by another
  ∧ (∀ (m : Master) (lo hi : Option Word), d.reaches m = true →
    exec (.recCursorLoad m lo hi) s = .next (s.after (d.cursorWrite lo hi)))
  ∧ (∀ (m : Master) (hi : Word), d.reaches m = true →
    exec (.recCursorNext m hi) s = .next (s.after (d.cursorWrite none (some hi))))
  ∧ (∀ (m : Master) (lo hi : Option Word) (w : Word), d.reaches m = false →
    exec (.recCursorLoad m lo hi) s = .next (s.after (d.turnAway m)) ∧ exec (.recCursorNext m w) s = .next (s.after (d.turnAway m)))
  -- REC_CLEAR_EXPIRY
  ∧ (∀ x, d.evr.clear = some x → ∃ t, exec .recClearExpiry s = .next t ∧ t.dev.evr.clear = none
      ∧ t.dev.tbs.mono = max d.tbs.mono (x.2 + 10 * secU))
  -- REC_CLEAR_DONE: the records that must stay are committed again, in their old order, then CIRC_CLEARED, then what waited
  ∧ (∀ e, d.evr.clearing = true → e = { d.evr with circ := [], clearing := false, waiting := [] } →
    exec .recClearDone s = .next (s.after (d.evr.waiting.foldl (fun (y : Dev) (r : RecIn) => y.recordRaw r.code.toNat r.slot r.payload)
      (((d.evr.circ.reverse.filter Rec.keeps).foldl (fun (y : Dev) (r : Rec) =>
        y.commitRec { r with retained := true, page := none }) { d with evr := { e with staged := e.stagedRecs.length } }).log 0x5004
          (leBytes 4 (d.evr.circ.length - (d.evr.circ.reverse.filter Rec.keeps).length)
            ++ leBytes 4 (d.evr.circ.reverse.filter Rec.keeps).length)))))

/-- Chapter 16: NEXT goes on by the records in the window, a load before the oldest record starts there and sets LOST, the
window holds at most eight records; the circulating area holds at most 16,384 records and the founding area 1,024, whatever is
recorded (rests on R455 and the areas of chapter 16). -/
def Obligations.WindowFollowsTheCursor : Prop :=
  (∀ (d : Dev) (lo hi : Option Word),
    (∀ h, hi = some h → wbit h 1 = true → rnumAfter d.evr.oldest ((d.evr.index + d.evr.count) % 2 ^ 32) = false →
      (d.cursorWrite lo hi).evr.index = (d.evr.index + d.evr.count) % 2 ^ 32)
    ∧ (∀ h, hi = some h → wbit h 1 = false → lo = none → d.evr.circ ≠ [] → rnumAfter d.evr.oldest d.evr.index = true → wbit h 0 = false →
      (d.cursorWrite lo hi).evr.index = d.evr.oldest ∧ (d.cursorWrite lo hi).evr.lost = true)
    ∧ d.loadWindow.evr.window.length ≤ 8 ∧ d.loadWindow.evr.count = d.loadWindow.evr.window.length
  )
  ∧ (∀ (d : Dev) (code : Nat) (slot : Byte) (payload : List Byte), d.evr.circ.length ≤ 16384 →
    d.evr.founding.length ≤ 1024 → d.evr.founding.length ≤ d.evr.total →
    (d.recordRaw code slot payload).evr.circ.length ≤ 16384 ∧ (d.recordRaw code slot payload).evr.founding.length ≤ 1024)

/-- Chapter 17: the update commands and BOOT_RESET once their checks pass (rests on R460, R468, R470, R471, R475, R477, R481).
-/
def Obligations.UpdateCommandsRun : Prop :=
  ∀ (c : Cmd) (s : State) (d : Dev) (p : Nat), s.dev = d → pathPort c.path = p →
  -- UPD_BEGIN through HPF0 with a header that passes checks 2 to 5: it contends for the lock at the next tick
  (∀ x, d.accepts .updBegin c = true → p ≠ 2 → p ≠ 4 → attached c.path = false →
    d.checkHeader (d.withArea .updBegin c) ((d.withArea .updBegin c).data.take (arg c 3).toNat) = .ok x →
    exec (.updBegin c) s = .next (s.underway c { d with upd := { d.upd with contend := d.upd.contend ++
      [{ path := c.path, tag := c.tag, sess := x }] } }))
  -- UPD_BEGIN with a header that fails one of them
  ∧ (∀ e, d.accepts .updBegin c = true → p ≠ 2 → p ≠ 4 → attached c.path = false →
    d.checkHeader (d.withArea .updBegin c) ((d.withArea .updBegin c).data.take (arg c 3).toNat) = .error e →
    exec (.updBegin c) s = .next (s.turnedDown .updBegin c 8 e))
  -- UPD_BEGIN from SPIH, whose path carries no update
  ∧ (d.hears c.path = true → d.defers .updBegin = false → d.gen.phase = .ready → d.secPath c.path = false → c.words.length = 4 →
    p = 2 → exec (.updBegin c) s = .next (s.turnedDown .updBegin c 5 .noDmaPath))
  -- UPD_DATA at the offset that the session awaits, whole words, not attached
  ∧ (∀ x : Sess, d.accepts .updData c = true → d.upd.idlePort ≠ some p → d.upd.sess = some x → x.port = p → x.commit = none →
    attached c.path = false → 4 ≤ (arg c 3).toNat → (arg c 3).toNat ≤ 65536 → (arg c 3).toNat % 4 = 0 →
    ((arg c 0).toNat = x.accepted →
      exec (.updData c) s = .next (s.replied c { d with upd := { d.upd with 
        sess := some ({ x.feed d.runBank.len (fitTo (arg c 3).toNat (d.withArea .updData c).data) with
          accepted := x.accepted + (arg c 3).toNat, at_ := d.tbs.mono } : Sess) } } [word (x.accepted + (arg c 3).toNat)]))
    ∧ ((arg c 0).toNat ≠ x.accepted →
      exec (.updData c) s = .next (s.after ((d.countOrder c.path 8).answer .updOffset c.tag [word x.accepted] d.epoch))))
  -- UPD_DATA without a session of the port
  ∧ (d.accepts .updData c = true → d.upd.idlePort ≠ some p → d.upd.sess = none →
    exec (.updData c) s = .next (s.turnedDown .updData c 8 .updNoSession))
  -- UPD_COMMIT of the port's session: the checks start
  ∧ (∀ x : Sess, d.accepts .updCommit c = true → d.upd.idlePort ≠ some p → d.upd.sess = some x → x.port = p → x.commit = none →
    argF c 0 0 16 = x.id →
    exec (.updCommit c) s = .next (s.after ((Dev.countAccepted { d with upd := { d.upd with
      sess := some { x with commit := some (c.path, c.tag) } } } c.path).answer .acceptedAsync c.tag [] d.epoch)))
  -- UPD_ABORT of the port's session
  ∧ (∀ x : Sess, d.accepts .updAbort c = true → d.upd.idlePort ≠ some p → d.upd.sess = some x → x.port = p → x.commit = none →
    argF c 0 0 16 = x.id →
    exec (.updAbort c) s = .next (s.replied c
      (Dev.log { d with upd := { d.upd with sess := none } } 0x5103 (leBytes 1 x.port ++ leBytes 1 0)) []))
  -- UPD_CONFIRM on trial, and otherwise
  ∧ (d.accepts .updConfirm c = true → d.onTrial = true →
    ∃ x : Dev, x.upd.bank d.upd.running = { d.runBank with st := .confirmed } ∧ x.upd.active = d.upd.running
      ∧ x.upd.bank (!d.upd.running) = d.upd.bank (!d.upd.running) ∧
      exec (.updConfirm c) s = .next (s.replied c (x.log 0x1105 (leBytes 1 (b2n d.upd.running) ++ [0, 0, 0]
        ++ leBytes 4 d.runBank.version.toNat)) []))
  ∧ (d.accepts .updConfirm c = true → d.onTrial = false →
    exec (.updConfirm c) s = .next (s.turnedDown .updConfirm c 8 .updNotTrial))
  -- UPD_ROLLBACK: at the next reset; refused while the fleet is active, and where the other bank cannot serve
  ∧ (d.accepts .updRollback c = true →
    (d.fleetActive = true → exec (.updRollback c) s = .next (s.turnedDown .updRollback c 8 .pwrFleetActive))
    ∧ (d.fleetActive = false → d.rollbackOk = false → exec (.updRollback c) s = .next (s.turnedDown .updRollback c 8 .updNoRollback))
    ∧ (d.fleetActive = false → d.rollbackOk = true → exec (.updRollback c) s = .next (s.replied c
      { d with upd := { d.upd with rollback := true } } [])))
  -- UPD_STATUS without a session, outside a trial and without a PENDING bank
  ∧ (d.accepts .updStatus c = true → d.upd.sess = none → d.onTrial = false → d.upd.bankA.st ≠ .pending → d.upd.bankB.st ≠ .pending →
    exec (.updStatus c) s = .next (s.replied c d [word (64 * b2n d.rollbackOk), 0, 0, 0,
      if d.upd.bankValid then d.runBank.version else 0, (d.upd.bank !d.upd.running).version, word d.upd.gen,
      word (if d.upd.bankValid then d.runBank.sfn else 0)]))
  -- BOOT_RESET while the fleet is active is refused; otherwise the reset follows its completion
  ∧ (d.accepts .bootReset c = true → d.fleetActive = true → d.upd.bootKind = none →
    exec (.bootReset c) s = .next (s.turnedDown .bootReset c 8 .pwrFleetActive))
  ∧ (∀ x : Dev, d.accepts .bootReset c = true → d.fleetActive = false →
    x = (Dev.countAccepted { d with upd := { d.upd with bootKind := some (argF c 0 0 2) } } c.path).answer .success c.tag [] d.epoch →
    exec (.bootReset c) s = .next (s.after (x.boot 3 x.bootInputs)))

/-- Chapters 11, 17 and 18: resets, the watchdog, trials, power and heat, and the ends of an update (rests on R341, R342, R350,
R458 to R461, R470, R471, R476, R484). -/
def Obligations.BootEvents : Prop :=
  ∀ (s : State) (d : Dev), s.dev = d →
  -- POWER_ON_RESET, and DEBUG_RESET through the open debug port
  (∀ b : BootIn, exec (.powerOnReset b) s = .next (s.after (d.boot 1 b)))
  ∧ (∀ b : BootIn, d.debugOpen = true → exec (.debugReset b) s = .next (s.after (d.boot 5 b)))
  -- WATCHDOG_KICK, WATCHDOG_EXPIRY 2 s after the latest, and WATCHDOG_RESET 10 ms later
  ∧ exec .watchdogKick s = .next (s.after { d with upd := { d.upd with wdAt := d.tbs.mono } })
  ∧ (∀ x : Dev, x = d.advanceMono (d.upd.wdAt + 2 * secU) →
    exec .watchdogExpiry s = .next (s.after (Dev.fleetStop { x with upd := { x.upd with wdOver := true } } 2)))
  ∧ (∀ b : BootIn, d.upd.wdOver = true →
    exec (.watchdogReset b) s = .next (s.after ((d.advanceMono (d.upd.wdAt + 2 * secU + 10 * msU)).boot 2 b)))
  -- TRIAL_EXPIRY, and TRIAL_RESET once no slot has moved for 1 s
  ∧ (∀ x : Dev, d.onTrial = true → d.upd.trialOver = false →
    x = d.advance (d.upd.trialStart + d.upd.trialS * secU - d.evr.opTime) →
    exec .trialExpiry s = .next (s.after (Dev.fleetStop { x with upd := { x.upd with
      trialOver := true, trialOverAt := x.tbs.mono } } 2)))
  ∧ (∀ b : BootIn, d.upd.trialOver = true → ((List.range d.nSlots).any d.moving) = false →
    exec (.trialReset b) s = .next (s.after ((d.advanceMono (d.upd.trialOverAt + secU)).boot 4 b)))
  -- PFW_ASSERT: a fleet stop, dispatch halted, and the power-fail flush; PFW_DEASSERT resumes
  ∧ (∃ t, exec .pfwAssert s = .next t ∧ t.dev.blw.pfw = true ∧ t.dev.sch.halted = true ∧ t.dev.evr.pfwFlush = true
      ∧ t.dev.evr.flushing = true)
  ∧ (d.blw.pfw = true → ∃ t, exec (.pfwDeassert true) s = .next t ∧ t.dev.blw.pfw = false ∧ t.dev.sch.halted = false)
  ∧ (d.blw.pfw = true → exec (.pfwDeassert false) s = .next (s.after d))
  -- POWER_LOSS: BACKUP; every volatile state is lost
  ∧ (∀ x : Dev, x = d.lose → exec .powerLoss s = .next (s.after { x with blw := { x.blw with backup := true } }))
  -- VBAT_LOW below 1.15 V on a day that already has its record
  ∧ (∀ mv, d.blw.backup = false → mv < 1150 → d.blw.vbatDay = some (d.tbs.mono / (86400 * secU)) →
    exec (.vbatLow mv) s = .next (s.after { d with gen := { d.gen with
      vbatLow := true, supply := d.gen.supply.take 4 ++ [mv] } }))
  -- THERMAL_TRIP at 10 °C above Tj_max: a fleet stop; THERMAL_POWER_OFF 10 ms later; THERMAL_RECOVER below Tj_max − 10 °C
  ∧ (∀ (t : Int) (x : Dev), d.blw.trip = false → d.blw.off = false → d.tjMax + 10 ≤ t →
    x = d.thermMod 15 (fun y => { y with t := t, peak := max y.peak t }) →
    exec (.thermalTrip t) s = .next (s.after (Dev.fleetStop { x with blw := { x.blw with trip := true } } 2)))
  ∧ (d.blw.trip = true → d.blw.off = false → ∃ t, exec .thermalPowerOff s = .next t ∧ t.dev.blw.off = true ∧ t.dev.blw.trip = true)
  ∧ (∀ (t : Int) (b : BootIn), d.blw.off = true → t < d.tjMax - 10 →
    exec (.thermalRecover t b) s = .next (s.after ((d.boot 1 b).log 0xCB03
      (leBytes 1 15 ++ leBytes 1 (low 8 (d.therm 15).t)))))
  -- UPD_COMMIT_DONE: the bank becomes PENDING with its predecessor's generation; or UPD_TO_HASH
  ∧ (∀ (r : CommitIn) (x : Sess) (a : Path × BitVec 8), d.upd.sess = some x → x.commit = some a →
    (x.good r = true → d.gen.phase ≠ .recovery →
      exec (.updCommitDone r) s = .next (s.after ((Dev.log { d with upd := { (d.upd.bankMod x.bank fun k => { k with
          st := .pending, version := x.version, sfn := x.sfn, gen := d.runBank.gen, len := x.toLen, hash := x.toHash }) with
            sess := none, trialS := x.trialS } } 0x1104
          (leBytes 1 (b2n x.bank) ++ [0, 0, 0] ++ leBytes 4 x.version.toNat)).owe a.1 a.2 .updCommit .success [x.version])))
    ∧ (x.good r = false → exec (.updCommitDone r) s = .next (s.after ((d.closeSession 3).owe a.1 a.2 .updCommit .updToHash []))))
  -- UPD_IDLE_TIMEOUT: 120 s after the latest accepted data the session ends
  ∧ (∀ x : Sess, d.upd.sess = some x → x.commit = none → ∃ t, exec .updIdleTimeout s = .next t ∧ t.dev.upd.sess = none
      ∧ t.dev.upd.idlePort = some x.port ∧ t.dev.tbs.mono = max d.tbs.mono (x.at_ + 120 * secU))

/-- Chapter 17 R458, R461, R462: what a boot with nothing wrong leaves: READY, the cause, a running bank, the safety island
running, and no stop in force. -/
def Obligations.BootReachesReady : Prop :=
  ∀ (d x : Dev) (cause : Nat) (b : BootIn) (k : Bool) (u : Upd) (l : List LogItem), x = d.atReset cause b →
    x.tampered = 0 → x.sec.latched = 0 → b.fuseOk = true → b.failedTests = 0 → x.upd.bootKind = none →
    Upd.bootBank { x.upd with bankA := x.upd.bankA.read b.bankA, bankB := x.upd.bankB.read b.bankB, bootKind := none, lostSess := false }
      cause x.evr.opTime b = (some k, u, l) →
    (d.boot cause b).gen.phase = .ready ∧ (d.boot cause b).gen.cause = cause ∧ (d.boot cause b).upd.running = k
      ∧ (d.boot cause b).bgl.up = true ∧ (d.boot cause b).bgl.stops = []

/-- Chapter 17 R458: what a reset keeps. -/
def Obligations.ResetKeepsWhatItMust : Prop :=
  ∀ d : Dev, d.lose.sec.lc = d.sec.lc ∧ d.lose.sec.tmpFuses = d.sec.tmpFuses ∧ d.lose.sec.stored = d.sec.stored
    ∧ d.lose.sec.slots = [] ∧ d.lose.bgl.markGo = d.bgl.markGo ∧ d.lose.bgl.markStop = d.bgl.markStop
    ∧ d.lose.upd.bankA = d.upd.bankA ∧ d.lose.upd.bankB = d.upd.bankB ∧ d.lose.orc.store = [] ∧ d.lose.txn.committed = []
    ∧ (∀ r ∈ d.lose.evr.circ, r ∈ d.evr.circ ∧ r.page.isSome)
    ∧ (∀ r ∈ d.evr.circ, r.page.isSome → r ∈ d.lose.evr.circ)
end

