-- ==== Sys2Proof/Laws/Command.lean ====
section
/-! SUPPORT. What taking up a command of the catalogue can do, once for all of them (13 R397, 01 R39). -/
namespace Sys2Proof.Machine

theorem rcAccepted_success : rcAccepted .success = true := rfl

theorem Dev.withArea_path (d : Dev) (op : Op) (c : Cmd) : (d.withArea op c).path = c.path := by
  unfold Dev.withArea; split <;> (try split) <;> rfl

theorem Dev.withArea_words (d : Dev) (op : Op) (c : Cmd) : (d.withArea op c).words = c.words := by
  unfold Dev.withArea; split <;> (try split) <;> rfl

theorem Dev.withArea_tag (d : Dev) (op : Op) (c : Cmd) : (d.withArea op c).tag = c.tag := by
  unfold Dev.withArea; split <;> (try split) <;> rfl

/-- A command without a buffer is taken as it comes. -/
theorem Dev.withArea_none (d : Dev) (op : Op) (c : Cmd) (h : (opInfo op).buf = .none) : d.withArea op c = c := by
  unfold Dev.withArea; split <;> simp [h]

/-- The checks before a command's own pass: it runs. -/
theorem Dev.accepts_take {d : Dev} {op : Op} {c : Cmd} (h : d.accepts op c = true) :
    d.hears c.path = true ∧ d.take op c =
      (let r := d.runNow op (d.withArea op c)
       if r.code.all rcAccepted then { r with st := r.st.countAccepted c.path }
       else { r with st := r.st.countOrder c.path 8 }) := by
  simp only [Dev.accepts, Bool.and_eq_true, Bool.not_eq_true', decide_eq_true_eq, Option.isNone_iff_eq_none] at h
  obtain ⟨⟨⟨⟨⟨⟨h1, h2⟩, h3⟩, h4⟩, h5⟩, h6⟩, -⟩ := h
  refine ⟨h1, ?_⟩
  simp [Dev.take, h2, Dev.handle, h3, Dev.lateChecks, h4, h5, h6, Dev.withArea_path]

/-- An accepted command that is no EPOCH write and whose own meaning succeeds. -/
theorem Dev.command_done {d : Dev} {op : Op} {c : Cmd} {st : Dev} {ws : List Word} (h : d.accepts op c = true)
    (hc : (opInfo op).cls ≠ .epoch) (hr : d.runOp op (d.withArea op c) = done st ws) :
    d.command op c = (st.countAccepted c.path).answer .success c.tag ws d.epoch := by
  obtain ⟨h1, h2⟩ := Dev.accepts_take h
  have hl : (opInfo op).cls = .none ∨ d.locked op (d.withArea op c) = false := by
    simp only [Dev.accepts, Bool.and_eq_true, Bool.or_eq_true, Bool.not_eq_true', decide_eq_true_eq] at h
    exact h.2
  have hn : d.runNow op (d.withArea op c) = done st ws := by
    unfold Dev.runNow
    rw [if_neg (by rintro ⟨a, b⟩; rcases hl with h | h <;> simp_all), hr]
    simp [hc, done, rcAccepted_success]
  simp [Dev.command, h1, h2, hn, done, rcAccepted_success, Dev.replyEpoch, hc]

/-- An accepted EPOCH write whose own checks succeed waits in the shadow. -/
theorem Dev.command_waits {d : Dev} {op : Op} {c : Cmd} {st : Dev} {ws : List Word} (h : d.accepts op c = true)
    (hc : (opInfo op).cls = .epoch) (hb : (opInfo op).buf = .none) (hr : d.runOp op c = done st ws) :
    d.command op c = ((d.shadowed op c).countAccepted c.path).answer .success c.tag ws (epoch32 d.applyEpoch) := by
  obtain ⟨h1, h2⟩ := Dev.accepts_take h
  have hl : d.locked op c = false := by
    simp only [Dev.accepts, Bool.and_eq_true, Bool.or_eq_true, Bool.not_eq_true', decide_eq_true_eq] at h
    simpa [hc, Dev.withArea_none d op c hb] using h.2
  have hn : d.runNow op c = done (d.shadowed op c) ws := by
    unfold Dev.runNow
    rw [if_neg (by simp [hl]), hr]
    simp [hc, done, rcAccepted_success]
  rw [Dev.withArea_none d op c hb] at h2
  have ht : op ≠ .txnCommit := by rintro rfl; simp [opInfo] at hc
  simp [Dev.command, h1, h2, hn, done, rcAccepted_success, Dev.replyEpoch, hc, ht]

/-- An accepted command that completes later. -/
theorem Dev.command_later {d : Dev} {op : Op} {c : Cmd} {st : Dev} (h : d.accepts op c = true)
    (hc : (opInfo op).cls ≠ .epoch) (hr : d.runOp op (d.withArea op c) = later' st) :
    d.command op c = { st.countAccepted c.path with reply := { tag := c.tag, epoch := d.epoch, pendingDone := true } } := by
  obtain ⟨h1, h2⟩ := Dev.accepts_take h
  have hl : (opInfo op).cls = .none ∨ d.locked op (d.withArea op c) = false := by
    simp only [Dev.accepts, Bool.and_eq_true, Bool.or_eq_true, Bool.not_eq_true', decide_eq_true_eq] at h
    exact h.2
  have hn : d.runNow op (d.withArea op c) = ⟨none, [], st⟩ := by
    unfold Dev.runNow
    rw [if_neg (by rintro ⟨a, b⟩; rcases hl with h | h <;> simp_all), hr]
    simp [hc, later']
  simp [Dev.command, h1, h2, hn]

/-- A command of a family other than transactions and Orchard: its own meaning decides. -/
theorem Dev.runOp_plain {d st : Dev} {op : Op} {c : Cmd} {ws : List Word} (h6 : opGroup op ≠ 6) (h1 : opGroup op ≠ 1)
    (h : runPlain op c d = done st ws) : d.runOp op c = done st ws := by
  unfold Dev.runOp
  split
  · exact absurd rfl h1
  · exact absurd rfl h1
  · exact absurd rfl h1
  · exact absurd rfl h1
  · simp [h, done, rcAccepted_success, Dev.afterOrc, h6]

/-- The same for a command that completes later. -/
theorem Dev.runOp_later {d st : Dev} {op : Op} {c : Cmd} (h6 : opGroup op ≠ 6) (h1 : opGroup op ≠ 1)
    (h : runPlain op c d = later' st) : d.runOp op c = later' st := by
  unfold Dev.runOp
  split
  · exact absurd rfl h1
  · exact absurd rfl h1
  · exact absurd rfl h1
  · exact absurd rfl h1
  · simp [h, later', Dev.afterOrc, h6]

/-- A command of Orchard: its own meaning, and then S_LIM of the holder's channel (07 R207). -/
theorem Dev.runOp_orc {d st : Dev} {op : Op} {c : Cmd} {ws : List Word} (h1 : opGroup op ≠ 1)
    (h : runPlain op c d = done st ws) : d.runOp op c = done (st.afterOrc op c) ws := by
  unfold Dev.runOp
  split
  · exact absurd rfl h1
  · exact absurd rfl h1
  · exact absurd rfl h1
  · exact absurd rfl h1
  · simp [h, done, rcAccepted_success]

/-- A command that its own checks refuse. -/
theorem Dev.runOp_refuse {d : Dev} {op : Op} {c : Cmd} {e : Rc} (h1 : opGroup op ≠ 1) (he : rcAccepted e = false)
    (h : runPlain op c d = refuse d e) : d.runOp op c = refuse d e := by
  unfold Dev.runOp
  split
  · exact absurd rfl h1
  · exact absurd rfl h1
  · exact absurd rfl h1
  · exact absurd rfl h1
  · simp [h, refuse, he]

/-- An accepted command that its own checks refuse: the eighth order, and nothing else changes. -/
theorem Dev.command_refused {d : Dev} {op : Op} {c : Cmd} {e : Rc} (h : d.accepts op c = true)
    (hr : d.runOp op (d.withArea op c) = refuse d e) (he : rcAccepted e = false) :
    d.command op c = (d.countOrder c.path 8).answer e c.tag (refusalWords op) d.epoch := by
  obtain ⟨h1, h2⟩ := Dev.accepts_take h
  have hl : (opInfo op).cls = .none ∨ d.locked op (d.withArea op c) = false := by
    simp only [Dev.accepts, Bool.and_eq_true, Bool.or_eq_true, Bool.not_eq_true', decide_eq_true_eq] at h
    exact h.2
  have hn : d.runNow op (d.withArea op c) = ⟨some e, refusalWords op, d⟩ := by
    unfold Dev.runNow
    rw [if_neg (by rintro ⟨a, b⟩; rcases hl with h | h <;> simp_all), hr]
    simp [refuse, he]
  have hs : e ≠ .success := by rintro rfl; simp [rcAccepted_success] at he
  have ha : e ≠ .acceptedAsync := by rintro rfl; exact absurd he (by decide)
  simp [Dev.command, h1, h2, hn, he, Dev.replyEpoch, hs, ha]

/-- What a step answers is the machine after what it makes of the device. -/
theorem act_next {s : State} {f : Dev → Dev} {t : State} (h : s.after (f s.dev) = t) : act s f = .next t := by
  simp [act, h]

end Sys2Proof.Machine
end

