-- ==== Sys2Proof/WellFormed.lean ====
section
/-! DEFINITION. Which steps are well formed: the checks on operands that no type makes. A command or a value that the device
itself refuses is well formed; these are the bounds of what can arrive at all. -/
namespace Sys2Proof

/-- A command message carries at most 15 request words after its header (13 R388). -/
def Cmd.wf (c : Cmd) : Bool := decide (c.words.length ≤ 15)

/-- A CAN frame: identifier, DLC and data lengths (12 R371, R372). -/
def CanFrame.wf (f : CanFrame) : Bool :=
  decide (f.id < if f.ide then 2 ^ 29 else 2 ^ 11) && decide (f.dlc < 16) && decide (f.data.length ≤ 64)

/-- An Ethernet frame: its tag, SecTAG and PFC fields (10 R294, R314, R315). (DESIGN CHOICE: log entry 108.) -/
def EthFrame.wf (f : EthFrame) : Bool :=
  f.tag.all (fun t => decide (t.1 < 4096) && decide (t.2 < 8))
    && f.macsec.all (fun m => decide (m.an < 4) && decide (m.pn < 2 ^ 32))
    && (f.pause.all fun p => decide (p.1 < 256) && decide (p.2 < 65536))
    && decide (f.lane ≤ 256) && decide (f.body.length + (if f.tag.isSome then 18 else 14) = f.len)

/-- A radio frame: no MPDU exceeds 1,024 bytes (09 R254), the CCM* counter has 32 bits (09 R258) and the link quality 8. -/
def RxFrame.wf (f : RxFrame) : Bool :=
  decide (f.payload.length ≤ 1024) && decide (f.mpdu.length ≤ 1024) && decide (f.counter < 2 ^ 32) && decide (f.lqi < 256)

/-- The record of a channel in a measurement block: the widths of 03 R106 and 04 R131. -/
def MeasRec.wf (r : MeasRec) : Bool := decide (r.chan < 1536) && decide (r.cn0 < 256)

/-- A budget window brings the energy of the 12 domains, 16 die sensors and the core time of the 5 classes (11 R343, R349). -/
def WindowIn.wf (w : WindowIn) : Bool :=
  decide (w.energy.length ≤ 12) && decide (w.temps.length ≤ 16) && decide (w.coreTime.length ≤ 5)

/-- A tick brings the load of the four quads and of FLEET, in percent (11 R334). -/
def TickIn.wf (u : TickIn) : Bool :=
  decide (u.busy.length ≤ 5) && decide (u.waited.length ≤ 5) && u.busy.all fun b => decide (b ≤ 100)

/-- A record carries at most 16 bytes of payload (16 R442). -/
def RecIn.wf (r : RecIn) : Bool := decide (r.payload.length ≤ 16)

/-- The command of the catalogue that a step carries. -/
def Instr.cmd? : Instr → Option (Op × Cmd)
  | .nop c => some (.nop, c)
  | .genInfo c => some (.genInfo, c)
  | .txnBegin c => some (.txnBegin, c)
  | .txnCommit c => some (.txnCommit, c)
  | .txnRollback c => some (.txnRollback, c)
  | .txnStatus c => some (.txnStatus, c)
  | .gnsLaneCfg c => some (.gnsLaneCfg, c)
  | .gnsLaneEn c => some (.gnsLaneEn, c)
  | .gnsMonCfg c => some (.gnsMonCfg, c)
  | .gnsMeasCfg c => some (.gnsMeasCfg, c)
  | .gnsChanAlloc c => some (.gnsChanAlloc, c)
  | .gnsChanFree c => some (.gnsChanFree, c)
  | .gnsPlan c => some (.gnsPlan, c)
  | .gnsAcq c => some (.gnsAcq, c)
  | .gnsLaneStatus c => some (.gnsLaneStatus, c)
  | .gnsChanStatus c => some (.gnsChanStatus, c)
  | .gnsMeasRead c => some (.gnsMeasRead, c)
  | .refArpSurvey c => some (.refArpSurvey, c)
  | .refArpSet c => some (.refArpSet, c)
  | .refAntCfg c => some (.refAntCfg, c)
  | .refSteerCfg c => some (.refSteerCfg, c)
  | .refOutCfg c => some (.refOutCfg, c)
  | .refSchedSet c => some (.refSchedSet, c)
  | .refZflCfg c => some (.refZflCfg, c)
  | .refNtripCfg c => some (.refNtripCfg, c)
  | .refNtripUser c => some (.refNtripUser, c)
  | .refIntegCfg c => some (.refIntegCfg, c)
  | .refStatus c => some (.refStatus, c)
  | .refCorrRead c => some (.refCorrRead, c)
  | .radGlobalCfg c => some (.radGlobalCfg, c)
  | .radPortCfg c => some (.radPortCfg, c)
  | .radScriptLoad c => some (.radScriptLoad, c)
  | .radPortEn c => some (.radPortEn, c)
  | .radSlotCfg c => some (.radSlotCfg, c)
  | .radDeregister c => some (.radDeregister, c)
  | .radPartnerCfg c => some (.radPartnerCfg, c)
  | .radRoleCfg c => some (.radRoleCfg, c)
  | .radAppSend c => some (.radAppSend, c)
  | .radRawSel c => some (.radRawSel, c)
  | .radStatus c => some (.radStatus, c)
  | .radSlotStatus c => some (.radSlotStatus, c)
  | .radPartnerStatus c => some (.radPartnerStatus, c)
  | .fixCfg c => some (.fixCfg, c)
  | .fixGlobalCfg c => some (.fixGlobalCfg, c)
  | .fixReset c => some (.fixReset, c)
  | .fixStatus c => some (.fixStatus, c)
  | .fixRead c => some (.fixRead, c)
  | .brmStatus c => some (.brmStatus, c)
  | .orcGridCfg c => some (.orcGridCfg, c)
  | .orcGlobalCfg c => some (.orcGlobalCfg, c)
  | .orcSlotCfg c => some (.orcSlotCfg, c)
  | .orcZoneCfg c => some (.orcZoneCfg, c)
  | .orcRequest c => some (.orcRequest, c)
  | .orcRelease c => some (.orcRelease, c)
  | .orcReleaseFrozen c => some (.orcReleaseFrozen, c)
  | .orcTileRead c => some (.orcTileRead, c)
  | .orcStatus c => some (.orcStatus, c)
  | .prfChanCfg c => some (.prfChanCfg, c)
  | .prfLagCfg c => some (.prfLagCfg, c)
  | .prfSegPush c => some (.prfSegPush, c)
  | .prfFlush c => some (.prfFlush, c)
  | .prfRetarget c => some (.prfRetarget, c)
  | .prfDecel c => some (.prfDecel, c)
  | .prfClear c => some (.prfClear, c)
  | .prfStatus c => some (.prfStatus, c)
  | .trkLoad c => some (.trkLoad, c)
  | .trkDelete c => some (.trkDelete, c)
  | .trkInfo c => some (.trkInfo, c)
  | .bglStop c => some (.bglStop, c)
  | .bglRelease c => some (.bglRelease, c)
  | .bglEnable c => some (.bglEnable, c)
  | .bglDisable c => some (.bglDisable, c)
  | .bglAnchorRead c => some (.bglAnchorRead, c)
  | .swPortCfg c => some (.swPortCfg, c)
  | .swPortEn c => some (.swPortEn, c)
  | .swGlobalCfg c => some (.swGlobalCfg, c)
  | .swVlanCfg c => some (.swVlanCfg, c)
  | .swQosCfg c => some (.swQosCfg, c)
  | .swL2Add c => some (.swL2Add, c)
  | .swL2Del c => some (.swL2Del, c)
  | .swL2Search c => some (.swL2Search, c)
  | .swL2Next c => some (.swL2Next, c)
  | .swFlushByPort c => some (.swFlushByPort, c)
  | .swRifCfg c => some (.swRifCfg, c)
  | .swNhSet c => some (.swNhSet, c)
  | .swRouteAdd c => some (.swRouteAdd, c)
  | .swRouteDel c => some (.swRouteDel, c)
  | .swMacsecSa c => some (.swMacsecSa, c)
  | .swDigestRead c => some (.swDigestRead, c)
  | .swBlockRead c => some (.swBlockRead, c)
  | .swStatus c => some (.swStatus, c)
  | .pwrCfg c => some (.pwrCfg, c)
  | .pwrSet c => some (.pwrSet, c)
  | .pwrWakeCfg c => some (.pwrWakeCfg, c)
  | .schClassCfg c => some (.schClassCfg, c)
  | .schStatus c => some (.schStatus, c)
  | .pwrStatus c => some (.pwrStatus, c)
  | .uartCfg c => some (.uartCfg, c)
  | .canPortCfg c => some (.canPortCfg, c)
  | .canFilter c => some (.canFilter, c)
  | .canSend c => some (.canSend, c)
  | .canRead c => some (.canRead, c)
  | .isbCfg c => some (.isbCfg, c)
  | .isbSend c => some (.isbSend, c)
  | .isbRead c => some (.isbRead, c)
  | .smbXfer c => some (.smbXfer, c)
  | .gpioCfg c => some (.gpioCfg, c)
  | .gpioWrite c => some (.gpioWrite, c)
  | .gpioRead c => some (.gpioRead, c)
  | .adcCfg c => some (.adcCfg, c)
  | .adcRead c => some (.adcRead, c)
  | .ifStatus c => some (.ifStatus, c)
  | .mbxBindSet c => some (.mbxBindSet, c)
  | .cmdPathStatus c => some (.cmdPathStatus, c)
  | .keyGenerate c => some (.keyGenerate, c)
  | .keyImport c => some (.keyImport, c)
  | .keyExport c => some (.keyExport, c)
  | .keyDerive c => some (.keyDerive, c)
  | .keyZeroize c => some (.keyZeroize, c)
  | .keyInfo c => some (.keyInfo, c)
  | .keyPublic c => some (.keyPublic, c)
  | .lcAdvance c => some (.lcAdvance, c)
  | .lcStatus c => some (.lcStatus, c)
  | .dbgUnlock c => some (.dbgUnlock, c)
  | .selftestRun c => some (.selftestRun, c)
  | .tamperCfg c => some (.tamperCfg, c)
  | .tamperStatus c => some (.tamperStatus, c)
  | .recCfg c => some (.recCfg, c)
  | .recHistCfg c => some (.recHistCfg, c)
  | .recHistRead c => some (.recHistRead, c)
  | .recFlush c => some (.recFlush, c)
  | .recClear c => some (.recClear, c)
  | .recClearConfirm c => some (.recClearConfirm, c)
  | .updBegin c => some (.updBegin, c)
  | .updData c => some (.updData, c)
  | .updCommit c => some (.updCommit, c)
  | .updAbort c => some (.updAbort, c)
  | .updConfirm c => some (.updConfirm, c)
  | .updRollback c => some (.updRollback, c)
  | .updStatus c => some (.updStatus, c)
  | .bootReset c => some (.bootReset, c)
  | .asyncDone => none
  | .txnExpiry _ => none
  | .txnRecheck => none
  | .beaconFreeze => none
  | .epochCutoff => none
  | .epochBoundary _ => none
  | .slotStart => none
  | .stopWindowEnd => none
  | .profileTick _ => none
  | .measurementInstant => none
  | .adcSequence _ => none
  | .ppsOutPulse _ => none
  | .launchGateFire _ => none
  | .partnerWakeWindow _ _ => none
  | .partnerMiss _ _ => none
  | .budgetWindow _ => none
  | .critGraceExpiry => none
  | .smbusReadDone _ _ => none
  | .recFlushTimer => none
  | .firmwareTimer _ => none
  | .tbsEn _ _ => none
  | .tbsRefsel _ _ => none
  | .tbsSteer _ _ => none
  | .tbsIncrWrite _ _ => none
  | .tbsAdjWrite _ _ => none
  | .tbsSyncWrite _ _ => none
  | .holdoverEntry => none
  | .timeValidLoss => none
  | .tbsTimeRead _ _ => none
  | .tbsPpsiRead _ _ _ => none
  | .genEpochRead _ _ => none
  | .ppsInEdge _ _ => none
  | .ppsMissing _ => none
  | .capEdge _ _ _ => none
  | .capDataRead _ _ _ => none
  | .lgArm _ _ _ => none
  | .lgDisarm _ _ _ => none
  | .refclkLoss => none
  | .oscCheck _ => none
  | .islandFault => none
  | .rateMonitorWindow _ _ => none
  | .genRateminRestart _ _ _ => none
  | .scrubPass _ _ => none
  | .memoryUe _ _ => none
  | .ledgerCheck _ => none
  | .qwmWrite _ _ _ => none
  | .qctlDropPacket _ _ => none
  | .qctlClrCount _ _ => none
  | .registerWrite _ _ _ => none
  | .sampleBlock _ => none
  | .surgeHoldEnd => none
  | .coherentLatch _ _ => none
  | .laneClockLost _ => none
  | .laneClockReturn _ => none
  | .coastLimit _ => none
  | .correlatorDump _ => none
  | .acqComplete _ _ _ => none
  | .acqRetry _ => none
  | .measBlockReady _ => none
  | .readTimeout _ => none
  | .surveyTimeout => none
  | .ntripRequest _ => none
  | .frameReceive _ _ => none
  | .baseAckTimeout _ => none
  | .downlinkPlan => none
  | .followerBeacon _ => none
  | .followerHoldover => none
  | .rxqDataRead _ _ _ => none
  | .txtsDataRead _ _ _ => none
  | .filterUpdate _ _ => none
  | .refWaitTimeout => none
  | .brambleSearchDone _ => none
  | .slimRecompute => none
  | .orchardAudit => none
  | .orchardOpOverrun => none
  | .heartbeat _ => none
  | .burstConfirm _ => none
  | .burstConfirmTimeout _ => none
  | .chainBuilt _ => none
  | .goGenBuildStart => none
  | .markFlush => none
  | .estopStop _ => none
  | .estopRun _ => none
  | .estopDiscrepancy => none
  | .pinCycleDue => none
  | .ethFrameReceive _ _ => none
  | .mgmtFrame _ => none
  | .learnNotice => none
  | .learnDeferTimeout => none
  | .l2AgeTick => none
  | .walkIdleClose _ => none
  | .digestSweep _ _ _ => none
  | .linkDown _ => none
  | .autoFallback _ => none
  | .xoffRefresh _ _ => none
  | .flushDone => none
  | .eventAdmit _ => none
  | .eventComplete _ _ => none
  | .affinityWaitExpiry _ => none
  | .trcDataRead _ _ => none
  | .nightCalibrate _ => none
  | .nightWakePrepare => none
  | .nightDomainRestore => none
  | .nightRefclkCheck _ => none
  | .pfwAssert => none
  | .pfwDeassert _ => none
  | .powerLoss => none
  | .vbatLow _ => none
  | .thermalTrip _ => none
  | .thermalRecover _ _ => none
  | .thermPeakRead _ _ => none
  | .pf0FunctionReset => none
  | .pf1FunctionReset => none
  | .pcieLinkLoss => none
  | .perst => none
  | .msixUnmask _ _ => none
  | .nqTailWrite _ _ => none
  | .nqEnable _ _ => none
  | .nqDisable _ _ => none
  | .rxFrameDeliver _ _ => none
  | .txWriteback _ _ _ _ => none
  | .txTsTimeout _ => none
  | .itrExpiry _ => none
  | .dmaError _ => none
  | .spihWrite _ _ _ => none
  | .spihRead _ _ => none
  | .spihStatus => none
  | .uartFrame _ _ => none
  | .canFrameReceive _ _ => none
  | .canTxComplete _ _ => none
  | .canBusOff _ => none
  | .canBusOffRecovery _ => none
  | .isbClaimLost _ => none
  | .gpioEdge _ _ => none
  | .mbxPost _ _ _ => none
  | .mbxTake _ _ _ _ => none
  | .mbxWaiting _ _ _ => none
  | .mbxAck _ _ _ => none
  | .mbxFree _ _ => none
  | .mbxRing _ _ _ => none
  | .mbxAckTimeout _ _ => none
  | .crSqTailWrite _ _ => none
  | .crFetch _ _ _ _ => none
  | .crCqHeadWrite _ _ => none
  | .crEnable _ _ => none
  | .crDisable _ _ => none
  | .cmdTimeout _ _ => none
  | .coalExpiry _ => none
  | .tamperLatch _ => none
  | .zeroizePersistentDone _ => none
  | .recordCommit _ => none
  | .recBucketRefill _ => none
  | .recFlushDone _ => none
  | .stagingPageFail _ => none
  | .recClearExpiry => none
  | .recClearDone => none
  | .recCursorLoad _ _ _ => none
  | .recCursorNext _ _ => none
  | .updCommitDone _ => none
  | .updIdleTimeout => none
  | .trialExpiry => none
  | .trialReset _ => none
  | .watchdogKick => none
  | .watchdogExpiry => none
  | .watchdogReset _ => none
  | .debugReset _ => none
  | .powerOnReset _ => none
  | .linkUp _ _ => none
  | .pcieLinkUp _ _ => none
  | .ethFrameTransmit _ => none
  | .pauseQuantaExpiry _ _ => none
  | .smbXferDone _ _ => none
  | .thermalPowerOff => none
  | .refclkReturn => none

/-- The checks on what an event brings. -/
def Instr.eventWf : Instr → Bool
  | .nop _ => true
  | .genInfo _ => true
  | .asyncDone => true
  | .txnBegin _ => true
  | .txnCommit _ => true
  | .txnRollback _ => true
  | .txnStatus _ => true
  | .txnExpiry _ => true
  | .txnRecheck => true
  | .beaconFreeze => true
  | .epochCutoff => true
  | .epochBoundary m => decide (m.length ≤ 8) && m.all fun x => decide (x.blanked ≤ 65536)
  | .slotStart => true
  | .stopWindowEnd => true
  | .profileTick u => u.wf
  | .measurementInstant => true
  | .adcSequence l => decide (l.length ≤ 16)
  | .ppsOutPulse _ => true
  | .launchGateFire _ => true
  | .partnerWakeWindow _ _ => true
  | .partnerMiss _ _ => true
  | .budgetWindow w => w.wf
  | .critGraceExpiry => true
  | .smbusReadDone _ _ => true
  | .recFlushTimer => true
  | .firmwareTimer _ => true
  | .tbsEn _ _ => true
  | .tbsRefsel _ _ => true
  | .tbsSteer _ _ => true
  | .tbsIncrWrite _ _ => true
  | .tbsAdjWrite _ _ => true
  | .tbsSyncWrite _ _ => true
  | .holdoverEntry => true
  | .timeValidLoss => true
  | .tbsTimeRead _ _ => true
  | .tbsPpsiRead _ _ _ => true
  | .genEpochRead _ _ => true
  | .ppsInEdge _ _ => true
  | .ppsMissing _ => true
  | .capEdge _ _ _ => true
  | .capDataRead _ _ _ => true
  | .lgArm _ _ _ => true
  | .lgDisarm _ _ _ => true
  | .refclkLoss => true
  | .oscCheck _ => true
  | .islandFault => true
  | .rateMonitorWindow _ _ => true
  | .genRateminRestart _ _ _ => true
  | .scrubPass _ _ => true
  | .memoryUe _ _ => true
  | .ledgerCheck _ => true
  | .qwmWrite _ _ _ => true
  | .qctlDropPacket _ _ => true
  | .qctlClrCount _ _ => true
  | .registerWrite _ _ _ => true
  | .sampleBlock _ => true
  | .surgeHoldEnd => true
  | .coherentLatch _ _ => true
  | .laneClockLost _ => true
  | .laneClockReturn _ => true
  | .coastLimit _ => true
  | .correlatorDump _ => true
  | .acqComplete _ _ _ => true
  | .acqRetry _ => true
  | .measBlockReady b => b.recs.all MeasRec.wf
  | .readTimeout _ => true
  | .surveyTimeout => true
  | .ntripRequest r => decide (r.mount.length ≤ 32)
  | .gnsLaneCfg _ => true
  | .gnsLaneEn _ => true
  | .gnsMonCfg _ => true
  | .gnsMeasCfg _ => true
  | .gnsChanAlloc _ => true
  | .gnsChanFree _ => true
  | .gnsPlan _ => true
  | .gnsAcq _ => true
  | .gnsLaneStatus _ => true
  | .gnsChanStatus _ => true
  | .gnsMeasRead _ => true
  | .refArpSurvey _ => true
  | .refArpSet _ => true
  | .refAntCfg _ => true
  | .refSteerCfg _ => true
  | .refOutCfg _ => true
  | .refSchedSet _ => true
  | .refZflCfg _ => true
  | .refNtripCfg _ => true
  | .refNtripUser _ => true
  | .refIntegCfg _ => true
  | .refStatus _ => true
  | .refCorrRead _ => true
  | .frameReceive _ f => f.wf
  | .baseAckTimeout _ => true
  | .downlinkPlan => true
  | .followerBeacon _ => true
  | .followerHoldover => true
  | .radGlobalCfg _ => true
  | .radPortCfg _ => true
  | .radScriptLoad _ => true
  | .radPortEn _ => true
  | .radSlotCfg _ => true
  | .radDeregister _ => true
  | .radPartnerCfg _ => true
  | .radRoleCfg _ => true
  | .radAppSend _ => true
  | .radRawSel _ => true
  | .radStatus _ => true
  | .radSlotStatus _ => true
  | .radPartnerStatus _ => true
  | .rxqDataRead _ _ _ => true
  | .txtsDataRead _ _ _ => true
  | .filterUpdate _ _ => true
  | .refWaitTimeout => true
  | .brambleSearchDone _ => true
  | .fixCfg _ => true
  | .fixGlobalCfg _ => true
  | .fixReset _ => true
  | .fixStatus _ => true
  | .fixRead _ => true
  | .brmStatus _ => true
  | .orcGridCfg _ => true
  | .orcGlobalCfg _ => true
  | .orcSlotCfg _ => true
  | .orcZoneCfg _ => true
  | .orcRequest _ => true
  | .orcRelease _ => true
  | .orcReleaseFrozen _ => true
  | .orcTileRead _ => true
  | .orcStatus _ => true
  | .slimRecompute => true
  | .orchardAudit => true
  | .orchardOpOverrun => true
  | .prfChanCfg _ => true
  | .prfLagCfg _ => true
  | .prfSegPush _ => true
  | .prfFlush _ => true
  | .prfRetarget _ => true
  | .prfDecel _ => true
  | .prfClear _ => true
  | .prfStatus _ => true
  | .trkLoad _ => true
  | .trkDelete _ => true
  | .trkInfo _ => true
  | .bglStop _ => true
  | .bglRelease _ => true
  | .bglEnable _ => true
  | .bglDisable _ => true
  | .bglAnchorRead _ => true
  | .heartbeat _ => true
  | .burstConfirm _ => true
  | .burstConfirmTimeout _ => true
  | .chainBuilt _ => true
  | .goGenBuildStart => true
  | .markFlush => true
  | .estopStop _ => true
  | .estopRun _ => true
  | .estopDiscrepancy => true
  | .pinCycleDue => true
  | .ethFrameReceive _ f => f.wf
  | .mgmtFrame f => decide (f.words.length ≤ 15) && decide (f.version < 256) && decide (f.seq < 65536)
  | .learnNotice => true
  | .learnDeferTimeout => true
  | .l2AgeTick => true
  | .walkIdleClose _ => true
  | .digestSweep _ _ _ => true
  | .linkDown _ => true
  | .autoFallback _ => true
  | .xoffRefresh _ _ => true
  | .flushDone => true
  | .swPortCfg _ => true
  | .swPortEn _ => true
  | .swGlobalCfg _ => true
  | .swVlanCfg _ => true
  | .swQosCfg _ => true
  | .swL2Add _ => true
  | .swL2Del _ => true
  | .swL2Search _ => true
  | .swL2Next _ => true
  | .swFlushByPort _ => true
  | .swRifCfg _ => true
  | .swNhSet _ => true
  | .swRouteAdd _ => true
  | .swRouteDel _ => true
  | .swMacsecSa _ => true
  | .swDigestRead _ => true
  | .swBlockRead _ => true
  | .swStatus _ => true
  | .eventAdmit _ => true
  | .eventComplete _ _ => true
  | .affinityWaitExpiry _ => true
  | .trcDataRead _ _ => true
  | .pwrCfg _ => true
  | .pwrSet _ => true
  | .pwrWakeCfg _ => true
  | .schClassCfg _ => true
  | .schStatus _ => true
  | .pwrStatus _ => true
  | .nightCalibrate _ => true
  | .nightWakePrepare => true
  | .nightDomainRestore => true
  | .nightRefclkCheck _ => true
  | .pfwAssert => true
  | .pfwDeassert _ => true
  | .powerLoss => true
  | .vbatLow _ => true
  | .thermalTrip _ => true
  | .thermalRecover _ _ => true
  | .thermPeakRead _ _ => true
  | .pf0FunctionReset => true
  | .pf1FunctionReset => true
  | .pcieLinkLoss => true
  | .perst => true
  | .msixUnmask _ _ => true
  | .nqTailWrite _ _ => true
  | .nqEnable _ _ => true
  | .nqDisable _ _ => true
  | .rxFrameDeliver _ l => l.all fun b => decide (b.1 < 2 ^ 64) && decide (256 ≤ b.2) && decide (b.2 ≤ 16383)
  | .txWriteback _ l _ f => f.wf && l.all fun n => decide (n ≤ 16383)
  | .txTsTimeout _ => true
  | .itrExpiry _ => true
  | .dmaError _ => true
  | .spihWrite _ l _ => decide (l.length ≤ 64)
  | .spihRead _ n => decide (4 ≤ n.val)
  | .spihStatus => true
  | .uartFrame _ _ => true
  | .uartCfg _ => true
  | .canFrameReceive _ f => f.wf
  | .canTxComplete _ _ => true
  | .canBusOff _ => true
  | .canBusOffRecovery _ => true
  | .isbClaimLost _ => true
  | .canPortCfg _ => true
  | .canFilter _ => true
  | .canSend _ => true
  | .canRead _ => true
  | .isbCfg _ => true
  | .isbSend _ => true
  | .isbRead _ => true
  | .smbXfer _ => true
  | .gpioCfg _ => true
  | .gpioWrite _ => true
  | .gpioRead _ => true
  | .gpioEdge _ _ => true
  | .adcCfg _ => true
  | .adcRead _ => true
  | .ifStatus _ => true
  | .mbxPost _ _ _ => true
  | .mbxTake _ _ _ _ => true
  | .mbxWaiting _ _ _ => true
  | .mbxAck _ _ _ => true
  | .mbxFree _ _ => true
  | .mbxRing _ _ _ => true
  | .mbxAckTimeout _ _ => true
  | .mbxBindSet _ => true
  | .cmdPathStatus _ => true
  | .crSqTailWrite _ _ => true
  | .crFetch _ e _ _ => decide (e.length = 16)
  | .crCqHeadWrite _ _ => true
  | .crEnable _ _ => true
  | .crDisable _ _ => true
  | .cmdTimeout _ _ => true
  | .coalExpiry _ => true
  | .keyGenerate _ => true
  | .keyImport _ => true
  | .keyExport _ => true
  | .keyDerive _ => true
  | .keyZeroize _ => true
  | .keyInfo _ => true
  | .keyPublic _ => true
  | .lcAdvance _ => true
  | .lcStatus _ => true
  | .dbgUnlock _ => true
  | .selftestRun _ => true
  | .tamperCfg _ => true
  | .tamperStatus _ => true
  | .tamperLatch _ => true
  | .zeroizePersistentDone _ => true
  | .recordCommit r => r.wf
  | .recBucketRefill _ => true
  | .recFlushDone _ => true
  | .stagingPageFail _ => true
  | .recCfg _ => true
  | .recHistCfg _ => true
  | .recHistRead _ => true
  | .recFlush _ => true
  | .recClear _ => true
  | .recClearConfirm _ => true
  | .recClearExpiry => true
  | .recClearDone => true
  | .recCursorLoad _ _ _ => true
  | .recCursorNext _ _ => true
  | .updBegin _ => true
  | .updData _ => true
  | .updCommit _ => true
  | .updCommitDone _ => true
  | .updAbort _ => true
  | .updConfirm _ => true
  | .updRollback _ => true
  | .updStatus _ => true
  | .updIdleTimeout => true
  | .bootReset _ => true
  | .trialExpiry => true
  | .trialReset _ => true
  | .watchdogKick => true
  | .watchdogExpiry => true
  | .watchdogReset _ => true
  | .debugReset _ => true
  | .powerOnReset _ => true
  | .linkUp _ _ => true
  | .pcieLinkUp _ _ => true
  | .ethFrameTransmit _ => true
  | .pauseQuantaExpiry _ _ => true
  | .smbXferDone _ _ => true
  | .thermalPowerOff => true
  | .refclkReturn => true

/-- A step whose operands can arrive. -/
def Instr.wf (i : Instr) : Bool := (i.cmd?.all fun x => x.2.wf) && i.eventWf

end Sys2Proof
end

