-- ==== Sys2Proof/Laws/Exec.lean ====
section
/-! SUPPORT. What any step can do, once for all of them: exec answers a next state that the step's effect on the device makes, and
the steps that carry a command of the catalogue take that command up. -/
namespace Sys2Proof.Machine

/-- Every step is an effect on the device, whatever the state. -/
theorem exec_is_act (i : Instr) : ∃ f : Dev → Dev, ∀ s, exec i s = act s f := by
  cases i <;> simp only [exec] <;> exact ⟨_, fun _ => rfl⟩

/-- A step that carries a command of the catalogue takes that command up; after BOOT_RESET a reset follows as well. -/
theorem exec_command (i : Instr) (op : Op) (c : Cmd) (h : i.cmd? = some (op, c)) (hb : op ≠ .bootReset) (s : State) :
    exec i s = act s fun d => d.command op c := by
  cases i <;> simp only [Instr.cmd?, Option.some.injEq, Prod.mk.injEq, reduceCtorEq] at h <;>
    (obtain ⟨rfl, rfl⟩ := h; first | rfl | exact absurd rfl hb)

/-- No step stops the machine. -/
theorem exec_next (i : Instr) (s : State) : ∃ t, exec i s = .next t := by
  obtain ⟨f, h⟩ := exec_is_act i
  exact ⟨_, h s⟩

/-- A step leaves the queue as it stands, and no write over. -/
theorem exec_pending {i : Instr} {s t : State} (h : exec i s = .next t) : t.pending = s.pending ∧ t.dev.writes = [] := by
  obtain ⟨f, hf⟩ := exec_is_act i
  rw [hf s] at h
  cases h
  exact ⟨rfl, rfl⟩

end Sys2Proof.Machine
end

