-- ==== Sys2Proof/Laws/Memory.lean ====
section
/-! SUPPORT. Host memory: every operation keeps its canonical form, a byte reads as it was written last, and a write leaves every
other address alone (log entry 9). -/
namespace Sys2Proof.Machine

theorem Memory.wf_nil : Memory.wf [] = true := rfl

/-- The canonical form in terms of the library's order predicate. -/
theorem Memory.wf_iff (m : List Host.Cell) : Memory.wf m = true ↔ m.Pairwise (fun x y => x.1 < y.1) := by
  induction m with
  | nil => simp [Memory.wf]
  | cons x m ih =>
    cases m with
    | nil => simp [Memory.wf]
    | cons y m =>
      simp only [Memory.wf, Bool.and_eq_true, decide_eq_true_eq, ih]
      constructor
      · rintro ⟨h, p⟩
        refine List.Pairwise.cons ?_ p
        intro z hz
        rcases List.mem_cons.mp hz with rfl | hz
        · exact h
        · exact Nat.lt_trans h ((List.pairwise_cons.mp p).1 z hz)
      · intro p
        exact ⟨(List.pairwise_cons.mp p).1 y (by simp), (List.pairwise_cons.mp p).2⟩

/-- The addresses after a byte is set: those before, and its own. -/
theorem cellSet_mem {m : List Host.Cell} {a : Nat} {b : Byte} {c : Host.Cell} (h : c ∈ cellSet m a b) :
    c = (a, b) ∨ c ∈ m := by
  induction m with
  | nil => simpa [cellSet] using h
  | cons x m ih =>
    simp only [cellSet] at h
    split at h
    · rcases List.mem_cons.mp h with h | h
      · exact .inl h
      · exact .inr h
    · split at h
      · rcases List.mem_cons.mp h with h | h
        · exact .inl h
        · exact .inr (List.mem_cons_of_mem _ h)
      · rcases List.mem_cons.mp h with h | h
        · exact .inr (by simp [h])
        · rcases ih h with h | h
          · exact .inl h
          · exact .inr (List.mem_cons_of_mem _ h)

theorem cellSet_wf {m : List Host.Cell} (h : Memory.wf m = true) (a : Nat) (b : Byte) : Memory.wf (cellSet m a b) = true := by
  rw [Memory.wf_iff] at *
  induction m with
  | nil => simp [cellSet]
  | cons x m ih =>
    obtain ⟨h1, h2⟩ := List.pairwise_cons.mp h
    simp only [cellSet]
    split
    · next h3 =>
      refine List.Pairwise.cons ?_ h
      intro z hz
      rcases List.mem_cons.mp hz with rfl | hz
      · exact h3
      · exact Nat.lt_trans h3 (h1 z hz)
    · split
      · next h3 => exact List.Pairwise.cons (fun z hz => h3 ▸ h1 z hz) h2
      · next h3 h4 =>
        refine List.Pairwise.cons ?_ (ih h2)
        intro z hz
        rcases cellSet_mem hz with rfl | hz
        · show x.1 < a; omega
        · exact h1 z hz

theorem cellsSet_wf {m : List Host.Cell} (h : Memory.wf m = true) (a : Nat) (bs : List Byte) :
    Memory.wf (cellsSet m a bs) = true := by
  induction bs generalizing m a with
  | nil => exact h
  | cons b bs ih => exact ih (cellSet_wf h a b) (a + 1)

theorem applyWrites_wf {m : List Host.Cell} (h : Memory.wf m = true) (ws : List (Nat × List Byte)) :
    Memory.wf (applyWrites m ws) = true := by
  induction ws generalizing m with
  | nil => exact h
  | cons w ws ih => exact ih (cellsSet_wf h w.1 w.2)

/-- The end of a step keeps the canonical form. -/
theorem State.after_wf {s : State} (h : Memory.wf s.hostMem = true) (d : Dev) : Memory.wf (s.after d).hostMem = true :=
  applyWrites_wf h d.writes

theorem State.reset_wf : Memory.wf State.reset.hostMem = true := rfl

/-- A byte just set reads as set. -/
theorem Memory.read_cellSet_self (m : List Host.Cell) (a : Nat) (b : Byte) : Memory.read (cellSet m a b) a = some b := by
  induction m with
  | nil => simp [cellSet, Memory.read]
  | cons x m ih =>
    simp only [cellSet]
    split
    · simp [Memory.read]
    · split
      · simp [Memory.read]
      · next h => simpa [Memory.read, List.find?_cons, Ne.symm h] using ih

/-- Every other address reads as before. -/
theorem Memory.read_cellSet_ne (m : List Host.Cell) {a x : Nat} (b : Byte) (h : x ≠ a) :
    Memory.read (cellSet m a b) x = Memory.read m x := by
  induction m with
  | nil => simp [cellSet, Memory.read, Ne.symm h]
  | cons c m ih =>
    simp only [cellSet]
    split
    · simp [Memory.read, List.find?_cons, Ne.symm h]
    · split
      · next h1 => simp [Memory.read, List.find?_cons, Ne.symm h, ← h1]
      · simp only [Memory.read, List.find?_cons] at ih ⊢
        split
        · rfl
        · exact ih

/-- A step without writes leaves host memory alone. -/
theorem State.after_quiet {s : State} {d : Dev} (h : d.writes = []) : (s.after d).hostMem = s.hostMem := by
  simp [State.after, h, applyWrites]

end Sys2Proof.Machine
end

