-- ==== Sys2Proof/Laws/Shared.lean ====
section
/-! SUPPORT. What the shared operations can do: which blocks an interrupt, a record and a stop demand change. -/
namespace Sys2Proof.Machine

/-- An interrupt changes the GEN block alone (12 R359). -/
theorem Dev.irq_only (d : Dev) (n : Nat) : ∃ g : Gen, d.irq n = { d with gen := g } := by
  unfold Dev.irq Dev.vector
  split
  · exact ⟨_, rfl⟩
  · dsimp only
    split
    · split <;> exact ⟨_, rfl⟩
    · exact ⟨_, rfl⟩

/-- A conditional interrupt changes the GEN block alone. -/
theorem Dev.irqIf_only (d : Dev) (n : Nat) (b : Bool) : ∃ g : Gen, d.irqIf n b = { d with gen := g } := by
  unfold Dev.irqIf
  split
  · exact d.irq_only n
  · exact ⟨_, rfl⟩

/-- A flush changes the recorder alone. -/
theorem Dev.flush_only (d : Dev) : ∃ e : Recorder, d.flush = { d with evr := e } := by
  unfold Dev.flush
  split
  · exact ⟨_, rfl⟩
  · split <;> exact ⟨_, rfl⟩

/-- A committed record changes the recorder and the GEN block alone (16 R447). -/
theorem Dev.commitRec_only (d : Dev) (r : Rec) : ∃ (e : Recorder) (g : Gen), d.commitRec r = { d with evr := e, gen := g } := by
  unfold Dev.commitRec
  dsimp only
  generalize hx : Recorder.mk .. = x
  obtain ⟨g, hg⟩ := Dev.irqIf_only { d with evr := x } 6 (decide (2 ≤ r.code.toNat / 2 ^ 14))
  rw [hg]
  generalize hy : ({ d with evr := x, gen := g } : Dev) = y
  obtain ⟨e, he⟩ := Dev.flush_only y
  rw [he, ← hy]
  split <;> split <;> exact ⟨_, _, rfl⟩

/-- An offered record changes the recorder and the GEN block alone (16 R446). -/
theorem Dev.recordRaw_only (d : Dev) (code : Nat) (slot : Byte) (p : List Byte) :
    ∃ (e : Recorder) (g : Gen), d.recordRaw code slot p = { d with evr := e, gen := g } := by
  unfold Dev.recordRaw
  dsimp only
  split
  · exact ⟨_, _, rfl⟩
  · split
    · exact ⟨_, _, rfl⟩
    · obtain ⟨e, g, h⟩ := Dev.commitRec_only (d.bucketMod code fun b => { b with
        pending := 0, missing := if code / 2 ^ 14 < 3 then b.missing + 1 else b.missing })
        (d.mkRec code slot p (d.bucket code).pending false)
      exact ⟨e, g, h⟩

/-- A record that concerns no machine slot. -/
theorem Dev.log_only (d : Dev) (code : Nat) (p : List Byte) :
    ∃ (e : Recorder) (g : Gen), d.log code p = { d with evr := e, gen := g } := d.recordRaw_only code 0xFF p

/-- A record that concerns a machine slot. -/
theorem Dev.logSlot_only (d : Dev) (code slot : Nat) (p : List Byte) :
    ∃ (e : Recorder) (g : Gen), d.logSlot code slot p = { d with evr := e, gen := g } :=
  d.recordRaw_only code (BitVec.ofNat 8 slot) p

/-- The records of a stop event change the recorder and the GEN block alone. -/
theorem Dev.logStop_only (d : Dev) (code cause : Nat) (fleet new : Bool) (slots : BitVec 192) :
    ∃ (e : Recorder) (g : Gen), d.logStop code cause fleet new slots = { d with evr := e, gen := g } := by
  unfold Dev.logStop
  split
  · exact d.log_only _ _
  · generalize List.range d.nPorts = l
    generalize hx : d.bgl.stopIdx = x
    suffices h : ∀ (e : Recorder) (g : Gen), ∃ (e' : Recorder) (g' : Gen),
        l.foldl (fun (s : Dev) p => if portBits slots p = 0 then s
          else s.log code (stopPayload cause false new p s.bgl.stopIdx (portBits slots p))) { d with evr := e, gen := g }
          = { d with evr := e', gen := g' } from h d.evr d.gen
    induction l with
    | nil => exact fun e g => ⟨e, g, rfl⟩
    | cons a l ih =>
      intro e g
      rw [List.foldl_cons]
      split
      · exact ih e g
      · obtain ⟨e', g', h⟩ := Dev.log_only { d with evr := e, gen := g } code
          (stopPayload cause false new a ({ d with evr := e, gen := g } : Dev).bgl.stopIdx (portBits slots a))
        rw [h]
        exact ih e' g'

/-- An accepted stop demand puts its stop in force, ends the latch where it is of fleet scope, and drives STOP_OUT; beside
Bugle only the recorder and the GEN block change (08 R234, R244 to R247). -/
theorem Dev.stopDemand_up (d : Dev) (cause : Nat) (fleet : Bool) (slots : BitVec 192) (hu : d.bgl.up = true)
    (hn : fleet = true ∨ slots ≠ 0) :
    ∃ (b : Bgl) (e : Recorder) (g : Gen), (d.stopDemand cause fleet slots).1 = { d with bgl := b, evr := e, gen := g }
      ∧ b.stops = joinStop ⟨cause, fleet, if fleet then 0 else slots⟩ d.bgl.stops ∧ b.lastCause = cause
      ∧ b.enable = (d.bgl.enable && !fleet) ∧ b.up = true ∧ b.fault = d.bgl.fault
      ∧ b.stopOut = (if b.stops.any Stop.fleet || d.bgl.fault then .low else .high) := by
  have hx : ∀ x : Dev, ∃ b : Bgl, (x.revealStop).1 = { x with bgl := b } ∧ b.stops = x.bgl.stops ∧ b.enable = x.bgl.enable
      ∧ b.up = x.bgl.up ∧ b.fault = x.bgl.fault := by
    intro x
    unfold Dev.revealStop Dev.stopGenSwitch
    dsimp only
    split <;> split <;> exact ⟨_, rfl, rfl, rfl, rfl, rfl⟩
  unfold Dev.stopDemand
  rw [if_neg (by rcases hn with h | h <;> simp_all)]
  dsimp only
  generalize hr : (if (!d.stopFleet && (fleet || slots &&& ~~~d.stopSlots != 0)) && !d.bgl.fault then d.revealStop
    else (d, false)) = r
  obtain ⟨b, hb, h1, h2, h3, h4⟩ : ∃ b : Bgl, r.1 = { d with bgl := b } ∧ b.stops = d.bgl.stops ∧ b.enable = d.bgl.enable
      ∧ b.up = d.bgl.up ∧ b.fault = d.bgl.fault := by
    rw [← hr]
    split
    · exact hx d
    · exact ⟨d.bgl, rfl, rfl, rfl, rfl, rfl⟩
  rw [hb]
  unfold Dev.driveStopOut Dev.stopFleet Dev.bglIrq
  simp only [h1, h2, h3, h4, hu, if_true]
  generalize hz : ({ d with bgl := _ } : Dev) = z
  obtain ⟨e, g, he⟩ := Dev.logStop_only z 0xC801 cause fleet r.2 slots
  rw [he]
  obtain ⟨g', hg⟩ := Dev.irqIf_only { z with evr := e, gen := g } 1
    (Dev.goActive { z with evr := e, gen := g } != d.goActive || Dev.stopFleet { z with evr := e, gen := g } != d.stopFleet
      || (Dev.stopSlots { z with evr := e, gen := g } == 0) != (d.stopSlots == 0)
      || ({ z with evr := e, gen := g } : Dev).bgl.discrep != d.bgl.discrep)
  refine ⟨z.bgl, e, g', ?_, ?_⟩
  · subst hz; exact hg
  · subst hz; simp

end Sys2Proof.Machine
end

