-- ==== Sys2Proof/Laws/State.lean ====
section
/-! SUPPORT. For each named update of the device: what it leaves of every other block, by rfl. A conjunction tagged simp is one
rewrite rule for each field, so no later proof unfolds a record update. The first lemma of an update says what it makes of
its own table. -/
namespace Sys2Proof.Machine

/-! ### The machine around the device -/

@[simp] theorem State.after_hostMem (s : State) (d : Dev) : (s.after d).hostMem = applyWrites s.hostMem d.writes := rfl
@[simp] theorem State.after_pending (s : State) (d : Dev) : (s.after d).pending = s.pending := rfl
@[simp] theorem State.after_writes (s : State) (d : Dev) : (s.after d).dev.writes = [] := rfl
@[simp] theorem State.after_dev (s : State) (d : Dev) :
    (s.after d).dev.gen = d.gen ∧ (s.after d).dev.tbs = d.tbs ∧ (s.after d).dev.gnss = d.gnss ∧ (s.after d).dev.ref = d.ref
    ∧ (s.after d).dev.fix = d.fix ∧ (s.after d).dev.orc = d.orc ∧ (s.after d).dev.prf = d.prf ∧ (s.after d).dev.bgl = d.bgl
    ∧ (s.after d).dev.rad = d.rad ∧ (s.after d).dev.sw = d.sw ∧ (s.after d).dev.sch = d.sch ∧ (s.after d).dev.blw = d.blw
    ∧ (s.after d).dev.ifc = d.ifc ∧ (s.after d).dev.mbx = d.mbx ∧ (s.after d).dev.cr = d.cr ∧ (s.after d).dev.txn = d.txn
    ∧ (s.after d).dev.sec = d.sec ∧ (s.after d).dev.evr = d.evr ∧ (s.after d).dev.upd = d.upd
    ∧ (s.after d).dev.shadow = d.shadow ∧ (s.after d).dev.shadowNext = d.shadowNext ∧ (s.after d).dev.reads = d.reads
    ∧ (s.after d).dev.asyncQ = d.asyncQ ∧ (s.after d).dev.reply = d.reply ∧ (s.after d).dev.free = d.free :=
  ⟨rfl, rfl, rfl, rfl, rfl, rfl, rfl, rfl, rfl, rfl, rfl, rfl, rfl, rfl, rfl, rfl, rfl, rfl, rfl, rfl, rfl, rfl, rfl, rfl, rfl⟩

/-! ### Updates of a table of a block -/

@[simp] theorem Dev.laneMod_lanes (d : Dev) (k : Nat) (g : Lane → Lane) : (d.laneMod k g).gnss.lanes = tmod {} d.gnss.lanes k g := rfl
@[simp] theorem Dev.laneMod_rest (d : Dev) (k : Nat) (g : Lane → Lane) :
    (d.laneMod k g).gen = d.gen ∧ (d.laneMod k g).tbs = d.tbs ∧ (d.laneMod k g).ref = d.ref ∧ (d.laneMod k g).fix = d.fix
    ∧ (d.laneMod k g).orc = d.orc ∧ (d.laneMod k g).prf = d.prf ∧ (d.laneMod k g).bgl = d.bgl ∧ (d.laneMod k g).rad = d.rad
    ∧ (d.laneMod k g).sw = d.sw ∧ (d.laneMod k g).sch = d.sch ∧ (d.laneMod k g).blw = d.blw ∧ (d.laneMod k g).ifc = d.ifc
    ∧ (d.laneMod k g).mbx = d.mbx ∧ (d.laneMod k g).cr = d.cr ∧ (d.laneMod k g).txn = d.txn ∧ (d.laneMod k g).sec = d.sec
    ∧ (d.laneMod k g).evr = d.evr ∧ (d.laneMod k g).upd = d.upd ∧ (d.laneMod k g).shadow = d.shadow
    ∧ (d.laneMod k g).shadowNext = d.shadowNext ∧ (d.laneMod k g).reads = d.reads ∧ (d.laneMod k g).asyncQ = d.asyncQ
    ∧ (d.laneMod k g).reply = d.reply ∧ (d.laneMod k g).writes = d.writes ∧ (d.laneMod k g).free = d.free :=
  ⟨rfl, rfl, rfl, rfl, rfl, rfl, rfl, rfl, rfl, rfl, rfl, rfl, rfl, rfl, rfl, rfl, rfl, rfl, rfl, rfl, rfl, rfl, rfl, rfl, rfl⟩

@[simp] theorem Dev.chanMod_chans (d : Dev) (k : Nat) (g : Chan → Chan) : (d.chanMod k g).gnss.chans = tmod {} d.gnss.chans k g := rfl
@[simp] theorem Dev.chanMod_rest (d : Dev) (k : Nat) (g : Chan → Chan) :
    (d.chanMod k g).gen = d.gen ∧ (d.chanMod k g).tbs = d.tbs ∧ (d.chanMod k g).ref = d.ref ∧ (d.chanMod k g).fix = d.fix
    ∧ (d.chanMod k g).orc = d.orc ∧ (d.chanMod k g).prf = d.prf ∧ (d.chanMod k g).bgl = d.bgl ∧ (d.chanMod k g).rad = d.rad
    ∧ (d.chanMod k g).sw = d.sw ∧ (d.chanMod k g).sch = d.sch ∧ (d.chanMod k g).blw = d.blw ∧ (d.chanMod k g).ifc = d.ifc
    ∧ (d.chanMod k g).mbx = d.mbx ∧ (d.chanMod k g).cr = d.cr ∧ (d.chanMod k g).txn = d.txn ∧ (d.chanMod k g).sec = d.sec
    ∧ (d.chanMod k g).evr = d.evr ∧ (d.chanMod k g).upd = d.upd ∧ (d.chanMod k g).shadow = d.shadow
    ∧ (d.chanMod k g).shadowNext = d.shadowNext ∧ (d.chanMod k g).reads = d.reads ∧ (d.chanMod k g).asyncQ = d.asyncQ
    ∧ (d.chanMod k g).reply = d.reply ∧ (d.chanMod k g).writes = d.writes ∧ (d.chanMod k g).free = d.free :=
  ⟨rfl, rfl, rfl, rfl, rfl, rfl, rfl, rfl, rfl, rfl, rfl, rfl, rfl, rfl, rfl, rfl, rfl, rfl, rfl, rfl, rfl, rfl, rfl, rfl, rfl⟩

@[simp] theorem Dev.corrOutMod_outs (d : Dev) (k : Nat) (g : CorrOut → CorrOut) : (d.corrOutMod k g).ref.outs = tmod {} d.ref.outs k g := rfl
@[simp] theorem Dev.corrOutMod_rest (d : Dev) (k : Nat) (g : CorrOut → CorrOut) :
    (d.corrOutMod k g).gen = d.gen ∧ (d.corrOutMod k g).tbs = d.tbs ∧ (d.corrOutMod k g).gnss = d.gnss
    ∧ (d.corrOutMod k g).fix = d.fix ∧ (d.corrOutMod k g).orc = d.orc ∧ (d.corrOutMod k g).prf = d.prf
    ∧ (d.corrOutMod k g).bgl = d.bgl ∧ (d.corrOutMod k g).rad = d.rad ∧ (d.corrOutMod k g).sw = d.sw
    ∧ (d.corrOutMod k g).sch = d.sch ∧ (d.corrOutMod k g).blw = d.blw ∧ (d.corrOutMod k g).ifc = d.ifc
    ∧ (d.corrOutMod k g).mbx = d.mbx ∧ (d.corrOutMod k g).cr = d.cr ∧ (d.corrOutMod k g).txn = d.txn
    ∧ (d.corrOutMod k g).sec = d.sec ∧ (d.corrOutMod k g).evr = d.evr ∧ (d.corrOutMod k g).upd = d.upd
    ∧ (d.corrOutMod k g).shadow = d.shadow ∧ (d.corrOutMod k g).shadowNext = d.shadowNext ∧ (d.corrOutMod k g).reads = d.reads
    ∧ (d.corrOutMod k g).asyncQ = d.asyncQ ∧ (d.corrOutMod k g).reply = d.reply ∧ (d.corrOutMod k g).writes = d.writes
    ∧ (d.corrOutMod k g).free = d.free :=
  ⟨rfl, rfl, rfl, rfl, rfl, rfl, rfl, rfl, rfl, rfl, rfl, rfl, rfl, rfl, rfl, rfl, rfl, rfl, rfl, rfl, rfl, rfl, rfl, rfl, rfl⟩

@[simp] theorem Dev.exclMod_excl (d : Dev) (k : Nat) (g : Excl → Excl) : (d.exclMod k g).ref.excl = tmod {} d.ref.excl k g := rfl
@[simp] theorem Dev.exclMod_rest (d : Dev) (k : Nat) (g : Excl → Excl) :
    (d.exclMod k g).gen = d.gen ∧ (d.exclMod k g).tbs = d.tbs ∧ (d.exclMod k g).gnss = d.gnss ∧ (d.exclMod k g).fix = d.fix
    ∧ (d.exclMod k g).orc = d.orc ∧ (d.exclMod k g).prf = d.prf ∧ (d.exclMod k g).bgl = d.bgl ∧ (d.exclMod k g).rad = d.rad
    ∧ (d.exclMod k g).sw = d.sw ∧ (d.exclMod k g).sch = d.sch ∧ (d.exclMod k g).blw = d.blw ∧ (d.exclMod k g).ifc = d.ifc
    ∧ (d.exclMod k g).mbx = d.mbx ∧ (d.exclMod k g).cr = d.cr ∧ (d.exclMod k g).txn = d.txn ∧ (d.exclMod k g).sec = d.sec
    ∧ (d.exclMod k g).evr = d.evr ∧ (d.exclMod k g).upd = d.upd ∧ (d.exclMod k g).shadow = d.shadow
    ∧ (d.exclMod k g).shadowNext = d.shadowNext ∧ (d.exclMod k g).reads = d.reads ∧ (d.exclMod k g).asyncQ = d.asyncQ
    ∧ (d.exclMod k g).reply = d.reply ∧ (d.exclMod k g).writes = d.writes ∧ (d.exclMod k g).free = d.free :=
  ⟨rfl, rfl, rfl, rfl, rfl, rfl, rfl, rfl, rfl, rfl, rfl, rfl, rfl, rfl, rfl, rfl, rfl, rfl, rfl, rfl, rfl, rfl, rfl, rfl, rfl⟩

@[simp] theorem Dev.fslotMod_slots (d : Dev) (k : Nat) (g : FixSlot → FixSlot) : (d.fslotMod k g).fix.slots = tmod {} d.fix.slots k g := rfl
@[simp] theorem Dev.fslotMod_rest (d : Dev) (k : Nat) (g : FixSlot → FixSlot) :
    (d.fslotMod k g).gen = d.gen ∧ (d.fslotMod k g).tbs = d.tbs ∧ (d.fslotMod k g).gnss = d.gnss ∧ (d.fslotMod k g).ref = d.ref
    ∧ (d.fslotMod k g).orc = d.orc ∧ (d.fslotMod k g).prf = d.prf ∧ (d.fslotMod k g).bgl = d.bgl ∧ (d.fslotMod k g).rad = d.rad
    ∧ (d.fslotMod k g).sw = d.sw ∧ (d.fslotMod k g).sch = d.sch ∧ (d.fslotMod k g).blw = d.blw ∧ (d.fslotMod k g).ifc = d.ifc
    ∧ (d.fslotMod k g).mbx = d.mbx ∧ (d.fslotMod k g).cr = d.cr ∧ (d.fslotMod k g).txn = d.txn ∧ (d.fslotMod k g).sec = d.sec
    ∧ (d.fslotMod k g).evr = d.evr ∧ (d.fslotMod k g).upd = d.upd ∧ (d.fslotMod k g).shadow = d.shadow
    ∧ (d.fslotMod k g).shadowNext = d.shadowNext ∧ (d.fslotMod k g).reads = d.reads ∧ (d.fslotMod k g).asyncQ = d.asyncQ
    ∧ (d.fslotMod k g).reply = d.reply ∧ (d.fslotMod k g).writes = d.writes ∧ (d.fslotMod k g).free = d.free :=
  ⟨rfl, rfl, rfl, rfl, rfl, rfl, rfl, rfl, rfl, rfl, rfl, rfl, rfl, rfl, rfl, rfl, rfl, rfl, rfl, rfl, rfl, rfl, rfl, rfl, rfl⟩

@[simp] theorem Dev.oslotMod_slots (d : Dev) (k : Nat) (g : OrcSlot → OrcSlot) : (d.oslotMod k g).orc.slots = tmod {} d.orc.slots k g := rfl
@[simp] theorem Dev.oslotMod_rest (d : Dev) (k : Nat) (g : OrcSlot → OrcSlot) :
    (d.oslotMod k g).gen = d.gen ∧ (d.oslotMod k g).tbs = d.tbs ∧ (d.oslotMod k g).gnss = d.gnss ∧ (d.oslotMod k g).ref = d.ref
    ∧ (d.oslotMod k g).fix = d.fix ∧ (d.oslotMod k g).prf = d.prf ∧ (d.oslotMod k g).bgl = d.bgl ∧ (d.oslotMod k g).rad = d.rad
    ∧ (d.oslotMod k g).sw = d.sw ∧ (d.oslotMod k g).sch = d.sch ∧ (d.oslotMod k g).blw = d.blw ∧ (d.oslotMod k g).ifc = d.ifc
    ∧ (d.oslotMod k g).mbx = d.mbx ∧ (d.oslotMod k g).cr = d.cr ∧ (d.oslotMod k g).txn = d.txn ∧ (d.oslotMod k g).sec = d.sec
    ∧ (d.oslotMod k g).evr = d.evr ∧ (d.oslotMod k g).upd = d.upd ∧ (d.oslotMod k g).shadow = d.shadow
    ∧ (d.oslotMod k g).shadowNext = d.shadowNext ∧ (d.oslotMod k g).reads = d.reads ∧ (d.oslotMod k g).asyncQ = d.asyncQ
    ∧ (d.oslotMod k g).reply = d.reply ∧ (d.oslotMod k g).writes = d.writes ∧ (d.oslotMod k g).free = d.free :=
  ⟨rfl, rfl, rfl, rfl, rfl, rfl, rfl, rfl, rfl, rfl, rfl, rfl, rfl, rfl, rfl, rfl, rfl, rfl, rfl, rfl, rfl, rfl, rfl, rfl, rfl⟩

@[simp] theorem Dev.frozMod_froz (d : Dev) (k : Nat) (g : Froz → Froz) : (d.frozMod k g).orc.froz = tmod {} d.orc.froz k g := rfl
@[simp] theorem Dev.frozMod_rest (d : Dev) (k : Nat) (g : Froz → Froz) :
    (d.frozMod k g).gen = d.gen ∧ (d.frozMod k g).tbs = d.tbs ∧ (d.frozMod k g).gnss = d.gnss ∧ (d.frozMod k g).ref = d.ref
    ∧ (d.frozMod k g).fix = d.fix ∧ (d.frozMod k g).prf = d.prf ∧ (d.frozMod k g).bgl = d.bgl ∧ (d.frozMod k g).rad = d.rad
    ∧ (d.frozMod k g).sw = d.sw ∧ (d.frozMod k g).sch = d.sch ∧ (d.frozMod k g).blw = d.blw ∧ (d.frozMod k g).ifc = d.ifc
    ∧ (d.frozMod k g).mbx = d.mbx ∧ (d.frozMod k g).cr = d.cr ∧ (d.frozMod k g).txn = d.txn ∧ (d.frozMod k g).sec = d.sec
    ∧ (d.frozMod k g).evr = d.evr ∧ (d.frozMod k g).upd = d.upd ∧ (d.frozMod k g).shadow = d.shadow
    ∧ (d.frozMod k g).shadowNext = d.shadowNext ∧ (d.frozMod k g).reads = d.reads ∧ (d.frozMod k g).asyncQ = d.asyncQ
    ∧ (d.frozMod k g).reply = d.reply ∧ (d.frozMod k g).writes = d.writes ∧ (d.frozMod k g).free = d.free :=
  ⟨rfl, rfl, rfl, rfl, rfl, rfl, rfl, rfl, rfl, rfl, rfl, rfl, rfl, rfl, rfl, rfl, rfl, rfl, rfl, rfl, rfl, rfl, rfl, rfl, rfl⟩

@[simp] theorem Dev.pchMod_ch (d : Dev) (k : Nat) (g : Prf → Prf) : (d.pchMod k g).prf.ch = tmod {} d.prf.ch k g := rfl
@[simp] theorem Dev.pchMod_rest (d : Dev) (k : Nat) (g : Prf → Prf) :
    (d.pchMod k g).gen = d.gen ∧ (d.pchMod k g).tbs = d.tbs ∧ (d.pchMod k g).gnss = d.gnss ∧ (d.pchMod k g).ref = d.ref
    ∧ (d.pchMod k g).fix = d.fix ∧ (d.pchMod k g).orc = d.orc ∧ (d.pchMod k g).bgl = d.bgl ∧ (d.pchMod k g).rad = d.rad
    ∧ (d.pchMod k g).sw = d.sw ∧ (d.pchMod k g).sch = d.sch ∧ (d.pchMod k g).blw = d.blw ∧ (d.pchMod k g).ifc = d.ifc
    ∧ (d.pchMod k g).mbx = d.mbx ∧ (d.pchMod k g).cr = d.cr ∧ (d.pchMod k g).txn = d.txn ∧ (d.pchMod k g).sec = d.sec
    ∧ (d.pchMod k g).evr = d.evr ∧ (d.pchMod k g).upd = d.upd ∧ (d.pchMod k g).shadow = d.shadow
    ∧ (d.pchMod k g).shadowNext = d.shadowNext ∧ (d.pchMod k g).reads = d.reads ∧ (d.pchMod k g).asyncQ = d.asyncQ
    ∧ (d.pchMod k g).reply = d.reply ∧ (d.pchMod k g).writes = d.writes ∧ (d.pchMod k g).free = d.free :=
  ⟨rfl, rfl, rfl, rfl, rfl, rfl, rfl, rfl, rfl, rfl, rfl, rfl, rfl, rfl, rfl, rfl, rfl, rfl, rfl, rfl, rfl, rfl, rfl, rfl, rfl⟩

@[simp] theorem Dev.trackMod_tracks (d : Dev) (k : Nat) (g : Track → Track) : (d.trackMod k g).prf.tracks = tmod {} d.prf.tracks k g := rfl
@[simp] theorem Dev.trackMod_rest (d : Dev) (k : Nat) (g : Track → Track) :
    (d.trackMod k g).gen = d.gen ∧ (d.trackMod k g).tbs = d.tbs ∧ (d.trackMod k g).gnss = d.gnss ∧ (d.trackMod k g).ref = d.ref
    ∧ (d.trackMod k g).fix = d.fix ∧ (d.trackMod k g).orc = d.orc ∧ (d.trackMod k g).bgl = d.bgl ∧ (d.trackMod k g).rad = d.rad
    ∧ (d.trackMod k g).sw = d.sw ∧ (d.trackMod k g).sch = d.sch ∧ (d.trackMod k g).blw = d.blw ∧ (d.trackMod k g).ifc = d.ifc
    ∧ (d.trackMod k g).mbx = d.mbx ∧ (d.trackMod k g).cr = d.cr ∧ (d.trackMod k g).txn = d.txn ∧ (d.trackMod k g).sec = d.sec
    ∧ (d.trackMod k g).evr = d.evr ∧ (d.trackMod k g).upd = d.upd ∧ (d.trackMod k g).shadow = d.shadow
    ∧ (d.trackMod k g).shadowNext = d.shadowNext ∧ (d.trackMod k g).reads = d.reads ∧ (d.trackMod k g).asyncQ = d.asyncQ
    ∧ (d.trackMod k g).reply = d.reply ∧ (d.trackMod k g).writes = d.writes ∧ (d.trackMod k g).free = d.free :=
  ⟨rfl, rfl, rfl, rfl, rfl, rfl, rfl, rfl, rfl, rfl, rfl, rfl, rfl, rfl, rfl, rfl, rfl, rfl, rfl, rfl, rfl, rfl, rfl, rfl, rfl⟩

@[simp] theorem Dev.bportMod_ports (d : Dev) (k : Nat) (g : BurstPort → BurstPort) : (d.bportMod k g).bgl.ports = tmod {} d.bgl.ports k g := rfl
@[simp] theorem Dev.bportMod_rest (d : Dev) (k : Nat) (g : BurstPort → BurstPort) :
    (d.bportMod k g).gen = d.gen ∧ (d.bportMod k g).tbs = d.tbs ∧ (d.bportMod k g).gnss = d.gnss ∧ (d.bportMod k g).ref = d.ref
    ∧ (d.bportMod k g).fix = d.fix ∧ (d.bportMod k g).orc = d.orc ∧ (d.bportMod k g).prf = d.prf ∧ (d.bportMod k g).rad = d.rad
    ∧ (d.bportMod k g).sw = d.sw ∧ (d.bportMod k g).sch = d.sch ∧ (d.bportMod k g).blw = d.blw ∧ (d.bportMod k g).ifc = d.ifc
    ∧ (d.bportMod k g).mbx = d.mbx ∧ (d.bportMod k g).cr = d.cr ∧ (d.bportMod k g).txn = d.txn ∧ (d.bportMod k g).sec = d.sec
    ∧ (d.bportMod k g).evr = d.evr ∧ (d.bportMod k g).upd = d.upd ∧ (d.bportMod k g).shadow = d.shadow
    ∧ (d.bportMod k g).shadowNext = d.shadowNext ∧ (d.bportMod k g).reads = d.reads ∧ (d.bportMod k g).asyncQ = d.asyncQ
    ∧ (d.bportMod k g).reply = d.reply ∧ (d.bportMod k g).writes = d.writes ∧ (d.bportMod k g).free = d.free :=
  ⟨rfl, rfl, rfl, rfl, rfl, rfl, rfl, rfl, rfl, rfl, rfl, rfl, rfl, rfl, rfl, rfl, rfl, rfl, rfl, rfl, rfl, rfl, rfl, rfl, rfl⟩

@[simp] theorem Dev.rportMod_ports (d : Dev) (k : Nat) (g : RPort → RPort) : (d.rportMod k g).rad.ports = tmod {} d.rad.ports k g := rfl
@[simp] theorem Dev.rportMod_rest (d : Dev) (k : Nat) (g : RPort → RPort) :
    (d.rportMod k g).gen = d.gen ∧ (d.rportMod k g).tbs = d.tbs ∧ (d.rportMod k g).gnss = d.gnss ∧ (d.rportMod k g).ref = d.ref
    ∧ (d.rportMod k g).fix = d.fix ∧ (d.rportMod k g).orc = d.orc ∧ (d.rportMod k g).prf = d.prf ∧ (d.rportMod k g).bgl = d.bgl
    ∧ (d.rportMod k g).sw = d.sw ∧ (d.rportMod k g).sch = d.sch ∧ (d.rportMod k g).blw = d.blw ∧ (d.rportMod k g).ifc = d.ifc
    ∧ (d.rportMod k g).mbx = d.mbx ∧ (d.rportMod k g).cr = d.cr ∧ (d.rportMod k g).txn = d.txn ∧ (d.rportMod k g).sec = d.sec
    ∧ (d.rportMod k g).evr = d.evr ∧ (d.rportMod k g).upd = d.upd ∧ (d.rportMod k g).shadow = d.shadow
    ∧ (d.rportMod k g).shadowNext = d.shadowNext ∧ (d.rportMod k g).reads = d.reads ∧ (d.rportMod k g).asyncQ = d.asyncQ
    ∧ (d.rportMod k g).reply = d.reply ∧ (d.rportMod k g).writes = d.writes ∧ (d.rportMod k g).free = d.free :=
  ⟨rfl, rfl, rfl, rfl, rfl, rfl, rfl, rfl, rfl, rfl, rfl, rfl, rfl, rfl, rfl, rfl, rfl, rfl, rfl, rfl, rfl, rfl, rfl, rfl, rfl⟩

@[simp] theorem Dev.rslotMod_slots (d : Dev) (k : Nat) (g : RSlot → RSlot) : (d.rslotMod k g).rad.slots = tmod {} d.rad.slots k g := rfl
@[simp] theorem Dev.rslotMod_rest (d : Dev) (k : Nat) (g : RSlot → RSlot) :
    (d.rslotMod k g).gen = d.gen ∧ (d.rslotMod k g).tbs = d.tbs ∧ (d.rslotMod k g).gnss = d.gnss ∧ (d.rslotMod k g).ref = d.ref
    ∧ (d.rslotMod k g).fix = d.fix ∧ (d.rslotMod k g).orc = d.orc ∧ (d.rslotMod k g).prf = d.prf ∧ (d.rslotMod k g).bgl = d.bgl
    ∧ (d.rslotMod k g).sw = d.sw ∧ (d.rslotMod k g).sch = d.sch ∧ (d.rslotMod k g).blw = d.blw ∧ (d.rslotMod k g).ifc = d.ifc
    ∧ (d.rslotMod k g).mbx = d.mbx ∧ (d.rslotMod k g).cr = d.cr ∧ (d.rslotMod k g).txn = d.txn ∧ (d.rslotMod k g).sec = d.sec
    ∧ (d.rslotMod k g).evr = d.evr ∧ (d.rslotMod k g).upd = d.upd ∧ (d.rslotMod k g).shadow = d.shadow
    ∧ (d.rslotMod k g).shadowNext = d.shadowNext ∧ (d.rslotMod k g).reads = d.reads ∧ (d.rslotMod k g).asyncQ = d.asyncQ
    ∧ (d.rslotMod k g).reply = d.reply ∧ (d.rslotMod k g).writes = d.writes ∧ (d.rslotMod k g).free = d.free :=
  ⟨rfl, rfl, rfl, rfl, rfl, rfl, rfl, rfl, rfl, rfl, rfl, rfl, rfl, rfl, rfl, rfl, rfl, rfl, rfl, rfl, rfl, rfl, rfl, rfl, rfl⟩

@[simp] theorem Dev.partnerMod_partners (d : Dev) (k : Nat) (g : Partner → Partner) : (d.partnerMod k g).rad.partners = tmod {} d.rad.partners k g := rfl
@[simp] theorem Dev.partnerMod_rest (d : Dev) (k : Nat) (g : Partner → Partner) :
    (d.partnerMod k g).gen = d.gen ∧ (d.partnerMod k g).tbs = d.tbs ∧ (d.partnerMod k g).gnss = d.gnss
    ∧ (d.partnerMod k g).ref = d.ref ∧ (d.partnerMod k g).fix = d.fix ∧ (d.partnerMod k g).orc = d.orc
    ∧ (d.partnerMod k g).prf = d.prf ∧ (d.partnerMod k g).bgl = d.bgl ∧ (d.partnerMod k g).sw = d.sw
    ∧ (d.partnerMod k g).sch = d.sch ∧ (d.partnerMod k g).blw = d.blw ∧ (d.partnerMod k g).ifc = d.ifc
    ∧ (d.partnerMod k g).mbx = d.mbx ∧ (d.partnerMod k g).cr = d.cr ∧ (d.partnerMod k g).txn = d.txn
    ∧ (d.partnerMod k g).sec = d.sec ∧ (d.partnerMod k g).evr = d.evr ∧ (d.partnerMod k g).upd = d.upd
    ∧ (d.partnerMod k g).shadow = d.shadow ∧ (d.partnerMod k g).shadowNext = d.shadowNext ∧ (d.partnerMod k g).reads = d.reads
    ∧ (d.partnerMod k g).asyncQ = d.asyncQ ∧ (d.partnerMod k g).reply = d.reply ∧ (d.partnerMod k g).writes = d.writes
    ∧ (d.partnerMod k g).free = d.free :=
  ⟨rfl, rfl, rfl, rfl, rfl, rfl, rfl, rfl, rfl, rfl, rfl, rfl, rfl, rfl, rfl, rfl, rfl, rfl, rfl, rfl, rfl, rfl, rfl, rfl, rfl⟩

@[simp] theorem Dev.eportMod_ports (d : Dev) (k : Nat) (g : EPort → EPort) : (d.eportMod k g).sw.ports = tmod {} d.sw.ports k g := rfl
@[simp] theorem Dev.eportMod_rest (d : Dev) (k : Nat) (g : EPort → EPort) :
    (d.eportMod k g).gen = d.gen ∧ (d.eportMod k g).tbs = d.tbs ∧ (d.eportMod k g).gnss = d.gnss ∧ (d.eportMod k g).ref = d.ref
    ∧ (d.eportMod k g).fix = d.fix ∧ (d.eportMod k g).orc = d.orc ∧ (d.eportMod k g).prf = d.prf ∧ (d.eportMod k g).bgl = d.bgl
    ∧ (d.eportMod k g).rad = d.rad ∧ (d.eportMod k g).sch = d.sch ∧ (d.eportMod k g).blw = d.blw ∧ (d.eportMod k g).ifc = d.ifc
    ∧ (d.eportMod k g).mbx = d.mbx ∧ (d.eportMod k g).cr = d.cr ∧ (d.eportMod k g).txn = d.txn ∧ (d.eportMod k g).sec = d.sec
    ∧ (d.eportMod k g).evr = d.evr ∧ (d.eportMod k g).upd = d.upd ∧ (d.eportMod k g).shadow = d.shadow
    ∧ (d.eportMod k g).shadowNext = d.shadowNext ∧ (d.eportMod k g).reads = d.reads ∧ (d.eportMod k g).asyncQ = d.asyncQ
    ∧ (d.eportMod k g).reply = d.reply ∧ (d.eportMod k g).writes = d.writes ∧ (d.eportMod k g).free = d.free :=
  ⟨rfl, rfl, rfl, rfl, rfl, rfl, rfl, rfl, rfl, rfl, rfl, rfl, rfl, rfl, rfl, rfl, rfl, rfl, rfl, rfl, rfl, rfl, rfl, rfl, rfl⟩

@[simp] theorem Dev.vlanMod_vlans (d : Dev) (k : Nat) (g : Vlan → Vlan) : (d.vlanMod k g).sw.vlans = tmod {} d.sw.vlans k g := rfl
@[simp] theorem Dev.vlanMod_rest (d : Dev) (k : Nat) (g : Vlan → Vlan) :
    (d.vlanMod k g).gen = d.gen ∧ (d.vlanMod k g).tbs = d.tbs ∧ (d.vlanMod k g).gnss = d.gnss ∧ (d.vlanMod k g).ref = d.ref
    ∧ (d.vlanMod k g).fix = d.fix ∧ (d.vlanMod k g).orc = d.orc ∧ (d.vlanMod k g).prf = d.prf ∧ (d.vlanMod k g).bgl = d.bgl
    ∧ (d.vlanMod k g).rad = d.rad ∧ (d.vlanMod k g).sch = d.sch ∧ (d.vlanMod k g).blw = d.blw ∧ (d.vlanMod k g).ifc = d.ifc
    ∧ (d.vlanMod k g).mbx = d.mbx ∧ (d.vlanMod k g).cr = d.cr ∧ (d.vlanMod k g).txn = d.txn ∧ (d.vlanMod k g).sec = d.sec
    ∧ (d.vlanMod k g).evr = d.evr ∧ (d.vlanMod k g).upd = d.upd ∧ (d.vlanMod k g).shadow = d.shadow
    ∧ (d.vlanMod k g).shadowNext = d.shadowNext ∧ (d.vlanMod k g).reads = d.reads ∧ (d.vlanMod k g).asyncQ = d.asyncQ
    ∧ (d.vlanMod k g).reply = d.reply ∧ (d.vlanMod k g).writes = d.writes ∧ (d.vlanMod k g).free = d.free :=
  ⟨rfl, rfl, rfl, rfl, rfl, rfl, rfl, rfl, rfl, rfl, rfl, rfl, rfl, rfl, rfl, rfl, rfl, rfl, rfl, rfl, rfl, rfl, rfl, rfl, rfl⟩

@[simp] theorem Dev.bdomMod_doms (d : Dev) (k : Nat) (g : BDom → BDom) : (d.bdomMod k g).blw.doms = tmod {} d.blw.doms k g := rfl
@[simp] theorem Dev.bdomMod_rest (d : Dev) (k : Nat) (g : BDom → BDom) :
    (d.bdomMod k g).gen = d.gen ∧ (d.bdomMod k g).tbs = d.tbs ∧ (d.bdomMod k g).gnss = d.gnss ∧ (d.bdomMod k g).ref = d.ref
    ∧ (d.bdomMod k g).fix = d.fix ∧ (d.bdomMod k g).orc = d.orc ∧ (d.bdomMod k g).prf = d.prf ∧ (d.bdomMod k g).bgl = d.bgl
    ∧ (d.bdomMod k g).rad = d.rad ∧ (d.bdomMod k g).sw = d.sw ∧ (d.bdomMod k g).sch = d.sch ∧ (d.bdomMod k g).ifc = d.ifc
    ∧ (d.bdomMod k g).mbx = d.mbx ∧ (d.bdomMod k g).cr = d.cr ∧ (d.bdomMod k g).txn = d.txn ∧ (d.bdomMod k g).sec = d.sec
    ∧ (d.bdomMod k g).evr = d.evr ∧ (d.bdomMod k g).upd = d.upd ∧ (d.bdomMod k g).shadow = d.shadow
    ∧ (d.bdomMod k g).shadowNext = d.shadowNext ∧ (d.bdomMod k g).reads = d.reads ∧ (d.bdomMod k g).asyncQ = d.asyncQ
    ∧ (d.bdomMod k g).reply = d.reply ∧ (d.bdomMod k g).writes = d.writes ∧ (d.bdomMod k g).free = d.free :=
  ⟨rfl, rfl, rfl, rfl, rfl, rfl, rfl, rfl, rfl, rfl, rfl, rfl, rfl, rfl, rfl, rfl, rfl, rfl, rfl, rfl, rfl, rfl, rfl, rfl, rfl⟩

@[simp] theorem Dev.thermMod_therm (d : Dev) (k : Nat) (g : Therm → Therm) : (d.thermMod k g).blw.therm = tmod {} d.blw.therm k g := rfl
@[simp] theorem Dev.thermMod_rest (d : Dev) (k : Nat) (g : Therm → Therm) :
    (d.thermMod k g).gen = d.gen ∧ (d.thermMod k g).tbs = d.tbs ∧ (d.thermMod k g).gnss = d.gnss ∧ (d.thermMod k g).ref = d.ref
    ∧ (d.thermMod k g).fix = d.fix ∧ (d.thermMod k g).orc = d.orc ∧ (d.thermMod k g).prf = d.prf ∧ (d.thermMod k g).bgl = d.bgl
    ∧ (d.thermMod k g).rad = d.rad ∧ (d.thermMod k g).sw = d.sw ∧ (d.thermMod k g).sch = d.sch ∧ (d.thermMod k g).ifc = d.ifc
    ∧ (d.thermMod k g).mbx = d.mbx ∧ (d.thermMod k g).cr = d.cr ∧ (d.thermMod k g).txn = d.txn ∧ (d.thermMod k g).sec = d.sec
    ∧ (d.thermMod k g).evr = d.evr ∧ (d.thermMod k g).upd = d.upd ∧ (d.thermMod k g).shadow = d.shadow
    ∧ (d.thermMod k g).shadowNext = d.shadowNext ∧ (d.thermMod k g).reads = d.reads ∧ (d.thermMod k g).asyncQ = d.asyncQ
    ∧ (d.thermMod k g).reply = d.reply ∧ (d.thermMod k g).writes = d.writes ∧ (d.thermMod k g).free = d.free :=
  ⟨rfl, rfl, rfl, rfl, rfl, rfl, rfl, rfl, rfl, rfl, rfl, rfl, rfl, rfl, rfl, rfl, rfl, rfl, rfl, rfl, rfl, rfl, rfl, rfl, rfl⟩

@[simp] theorem Dev.nqMod_nq (d : Dev) (k : Nat) (g : Nq → Nq) : (d.nqMod k g).ifc.nq = tmod {} d.ifc.nq k g := rfl
@[simp] theorem Dev.nqMod_rest (d : Dev) (k : Nat) (g : Nq → Nq) :
    (d.nqMod k g).gen = d.gen ∧ (d.nqMod k g).tbs = d.tbs ∧ (d.nqMod k g).gnss = d.gnss ∧ (d.nqMod k g).ref = d.ref
    ∧ (d.nqMod k g).fix = d.fix ∧ (d.nqMod k g).orc = d.orc ∧ (d.nqMod k g).prf = d.prf ∧ (d.nqMod k g).bgl = d.bgl
    ∧ (d.nqMod k g).rad = d.rad ∧ (d.nqMod k g).sw = d.sw ∧ (d.nqMod k g).sch = d.sch ∧ (d.nqMod k g).blw = d.blw
    ∧ (d.nqMod k g).mbx = d.mbx ∧ (d.nqMod k g).cr = d.cr ∧ (d.nqMod k g).txn = d.txn ∧ (d.nqMod k g).sec = d.sec
    ∧ (d.nqMod k g).evr = d.evr ∧ (d.nqMod k g).upd = d.upd ∧ (d.nqMod k g).shadow = d.shadow
    ∧ (d.nqMod k g).shadowNext = d.shadowNext ∧ (d.nqMod k g).reads = d.reads ∧ (d.nqMod k g).asyncQ = d.asyncQ
    ∧ (d.nqMod k g).reply = d.reply ∧ (d.nqMod k g).writes = d.writes ∧ (d.nqMod k g).free = d.free :=
  ⟨rfl, rfl, rfl, rfl, rfl, rfl, rfl, rfl, rfl, rfl, rfl, rfl, rfl, rfl, rfl, rfl, rfl, rfl, rfl, rfl, rfl, rfl, rfl, rfl, rfl⟩

@[simp] theorem Dev.canMod_can (d : Dev) (k : Nat) (g : Can → Can) : (d.canMod k g).ifc.can = tmod {} d.ifc.can k g := rfl
@[simp] theorem Dev.canMod_rest (d : Dev) (k : Nat) (g : Can → Can) :
    (d.canMod k g).gen = d.gen ∧ (d.canMod k g).tbs = d.tbs ∧ (d.canMod k g).gnss = d.gnss ∧ (d.canMod k g).ref = d.ref
    ∧ (d.canMod k g).fix = d.fix ∧ (d.canMod k g).orc = d.orc ∧ (d.canMod k g).prf = d.prf ∧ (d.canMod k g).bgl = d.bgl
    ∧ (d.canMod k g).rad = d.rad ∧ (d.canMod k g).sw = d.sw ∧ (d.canMod k g).sch = d.sch ∧ (d.canMod k g).blw = d.blw
    ∧ (d.canMod k g).mbx = d.mbx ∧ (d.canMod k g).cr = d.cr ∧ (d.canMod k g).txn = d.txn ∧ (d.canMod k g).sec = d.sec
    ∧ (d.canMod k g).evr = d.evr ∧ (d.canMod k g).upd = d.upd ∧ (d.canMod k g).shadow = d.shadow
    ∧ (d.canMod k g).shadowNext = d.shadowNext ∧ (d.canMod k g).reads = d.reads ∧ (d.canMod k g).asyncQ = d.asyncQ
    ∧ (d.canMod k g).reply = d.reply ∧ (d.canMod k g).writes = d.writes ∧ (d.canMod k g).free = d.free :=
  ⟨rfl, rfl, rfl, rfl, rfl, rfl, rfl, rfl, rfl, rfl, rfl, rfl, rfl, rfl, rfl, rfl, rfl, rfl, rfl, rfl, rfl, rfl, rfl, rfl, rfl⟩

@[simp] theorem Dev.smbMod_smb (d : Dev) (k : Nat) (g : Smb → Smb) : (d.smbMod k g).ifc.smb = tmod {} d.ifc.smb k g := rfl
@[simp] theorem Dev.smbMod_rest (d : Dev) (k : Nat) (g : Smb → Smb) :
    (d.smbMod k g).gen = d.gen ∧ (d.smbMod k g).tbs = d.tbs ∧ (d.smbMod k g).gnss = d.gnss ∧ (d.smbMod k g).ref = d.ref
    ∧ (d.smbMod k g).fix = d.fix ∧ (d.smbMod k g).orc = d.orc ∧ (d.smbMod k g).prf = d.prf ∧ (d.smbMod k g).bgl = d.bgl
    ∧ (d.smbMod k g).rad = d.rad ∧ (d.smbMod k g).sw = d.sw ∧ (d.smbMod k g).sch = d.sch ∧ (d.smbMod k g).blw = d.blw
    ∧ (d.smbMod k g).mbx = d.mbx ∧ (d.smbMod k g).cr = d.cr ∧ (d.smbMod k g).txn = d.txn ∧ (d.smbMod k g).sec = d.sec
    ∧ (d.smbMod k g).evr = d.evr ∧ (d.smbMod k g).upd = d.upd ∧ (d.smbMod k g).shadow = d.shadow
    ∧ (d.smbMod k g).shadowNext = d.shadowNext ∧ (d.smbMod k g).reads = d.reads ∧ (d.smbMod k g).asyncQ = d.asyncQ
    ∧ (d.smbMod k g).reply = d.reply ∧ (d.smbMod k g).writes = d.writes ∧ (d.smbMod k g).free = d.free :=
  ⟨rfl, rfl, rfl, rfl, rfl, rfl, rfl, rfl, rfl, rfl, rfl, rfl, rfl, rfl, rfl, rfl, rfl, rfl, rfl, rfl, rfl, rfl, rfl, rfl, rfl⟩

@[simp] theorem Dev.pinMod_pins (d : Dev) (k : Nat) (g : Pin → Pin) : (d.pinMod k g).ifc.pins = tmod {} d.ifc.pins k g := rfl
@[simp] theorem Dev.pinMod_rest (d : Dev) (k : Nat) (g : Pin → Pin) :
    (d.pinMod k g).gen = d.gen ∧ (d.pinMod k g).tbs = d.tbs ∧ (d.pinMod k g).gnss = d.gnss ∧ (d.pinMod k g).ref = d.ref
    ∧ (d.pinMod k g).fix = d.fix ∧ (d.pinMod k g).orc = d.orc ∧ (d.pinMod k g).prf = d.prf ∧ (d.pinMod k g).bgl = d.bgl
    ∧ (d.pinMod k g).rad = d.rad ∧ (d.pinMod k g).sw = d.sw ∧ (d.pinMod k g).sch = d.sch ∧ (d.pinMod k g).blw = d.blw
    ∧ (d.pinMod k g).mbx = d.mbx ∧ (d.pinMod k g).cr = d.cr ∧ (d.pinMod k g).txn = d.txn ∧ (d.pinMod k g).sec = d.sec
    ∧ (d.pinMod k g).evr = d.evr ∧ (d.pinMod k g).upd = d.upd ∧ (d.pinMod k g).shadow = d.shadow
    ∧ (d.pinMod k g).shadowNext = d.shadowNext ∧ (d.pinMod k g).reads = d.reads ∧ (d.pinMod k g).asyncQ = d.asyncQ
    ∧ (d.pinMod k g).reply = d.reply ∧ (d.pinMod k g).writes = d.writes ∧ (d.pinMod k g).free = d.free :=
  ⟨rfl, rfl, rfl, rfl, rfl, rfl, rfl, rfl, rfl, rfl, rfl, rfl, rfl, rfl, rfl, rfl, rfl, rfl, rfl, rfl, rfl, rfl, rfl, rfl, rfl⟩

@[simp] theorem Dev.adcLimMod_adcLim (d : Dev) (k : Nat) (g : AdcLim → AdcLim) : (d.adcLimMod k g).ifc.adcLim = tmod {} d.ifc.adcLim k g := rfl
@[simp] theorem Dev.adcLimMod_rest (d : Dev) (k : Nat) (g : AdcLim → AdcLim) :
    (d.adcLimMod k g).gen = d.gen ∧ (d.adcLimMod k g).tbs = d.tbs ∧ (d.adcLimMod k g).gnss = d.gnss
    ∧ (d.adcLimMod k g).ref = d.ref ∧ (d.adcLimMod k g).fix = d.fix ∧ (d.adcLimMod k g).orc = d.orc
    ∧ (d.adcLimMod k g).prf = d.prf ∧ (d.adcLimMod k g).bgl = d.bgl ∧ (d.adcLimMod k g).rad = d.rad
    ∧ (d.adcLimMod k g).sw = d.sw ∧ (d.adcLimMod k g).sch = d.sch ∧ (d.adcLimMod k g).blw = d.blw
    ∧ (d.adcLimMod k g).mbx = d.mbx ∧ (d.adcLimMod k g).cr = d.cr ∧ (d.adcLimMod k g).txn = d.txn
    ∧ (d.adcLimMod k g).sec = d.sec ∧ (d.adcLimMod k g).evr = d.evr ∧ (d.adcLimMod k g).upd = d.upd
    ∧ (d.adcLimMod k g).shadow = d.shadow ∧ (d.adcLimMod k g).shadowNext = d.shadowNext ∧ (d.adcLimMod k g).reads = d.reads
    ∧ (d.adcLimMod k g).asyncQ = d.asyncQ ∧ (d.adcLimMod k g).reply = d.reply ∧ (d.adcLimMod k g).writes = d.writes
    ∧ (d.adcLimMod k g).free = d.free :=
  ⟨rfl, rfl, rfl, rfl, rfl, rfl, rfl, rfl, rfl, rfl, rfl, rfl, rfl, rfl, rfl, rfl, rfl, rfl, rfl, rfl, rfl, rfl, rfl, rfl, rfl⟩

@[simp] theorem Dev.mendMod_ends (d : Dev) (k : Nat) (g : MEnd → MEnd) : (d.mendMod k g).mbx.ends = tmod {} d.mbx.ends k g := rfl
@[simp] theorem Dev.mendMod_rest (d : Dev) (k : Nat) (g : MEnd → MEnd) :
    (d.mendMod k g).gen = d.gen ∧ (d.mendMod k g).tbs = d.tbs ∧ (d.mendMod k g).gnss = d.gnss ∧ (d.mendMod k g).ref = d.ref
    ∧ (d.mendMod k g).fix = d.fix ∧ (d.mendMod k g).orc = d.orc ∧ (d.mendMod k g).prf = d.prf ∧ (d.mendMod k g).bgl = d.bgl
    ∧ (d.mendMod k g).rad = d.rad ∧ (d.mendMod k g).sw = d.sw ∧ (d.mendMod k g).sch = d.sch ∧ (d.mendMod k g).blw = d.blw
    ∧ (d.mendMod k g).ifc = d.ifc ∧ (d.mendMod k g).cr = d.cr ∧ (d.mendMod k g).txn = d.txn ∧ (d.mendMod k g).sec = d.sec
    ∧ (d.mendMod k g).evr = d.evr ∧ (d.mendMod k g).upd = d.upd ∧ (d.mendMod k g).shadow = d.shadow
    ∧ (d.mendMod k g).shadowNext = d.shadowNext ∧ (d.mendMod k g).reads = d.reads ∧ (d.mendMod k g).asyncQ = d.asyncQ
    ∧ (d.mendMod k g).reply = d.reply ∧ (d.mendMod k g).writes = d.writes ∧ (d.mendMod k g).free = d.free :=
  ⟨rfl, rfl, rfl, rfl, rfl, rfl, rfl, rfl, rfl, rfl, rfl, rfl, rfl, rfl, rfl, rfl, rfl, rfl, rfl, rfl, rfl, rfl, rfl, rfl, rfl⟩

@[simp] theorem Dev.pathCntMod_cnts (d : Dev) (k : Nat) (g : PathCnt → PathCnt) : (d.pathCntMod k g).mbx.cnts = tmod {} d.mbx.cnts k g := rfl
@[simp] theorem Dev.pathCntMod_rest (d : Dev) (k : Nat) (g : PathCnt → PathCnt) :
    (d.pathCntMod k g).gen = d.gen ∧ (d.pathCntMod k g).tbs = d.tbs ∧ (d.pathCntMod k g).gnss = d.gnss
    ∧ (d.pathCntMod k g).ref = d.ref ∧ (d.pathCntMod k g).fix = d.fix ∧ (d.pathCntMod k g).orc = d.orc
    ∧ (d.pathCntMod k g).prf = d.prf ∧ (d.pathCntMod k g).bgl = d.bgl ∧ (d.pathCntMod k g).rad = d.rad
    ∧ (d.pathCntMod k g).sw = d.sw ∧ (d.pathCntMod k g).sch = d.sch ∧ (d.pathCntMod k g).blw = d.blw
    ∧ (d.pathCntMod k g).ifc = d.ifc ∧ (d.pathCntMod k g).cr = d.cr ∧ (d.pathCntMod k g).txn = d.txn
    ∧ (d.pathCntMod k g).sec = d.sec ∧ (d.pathCntMod k g).evr = d.evr ∧ (d.pathCntMod k g).upd = d.upd
    ∧ (d.pathCntMod k g).shadow = d.shadow ∧ (d.pathCntMod k g).shadowNext = d.shadowNext ∧ (d.pathCntMod k g).reads = d.reads
    ∧ (d.pathCntMod k g).asyncQ = d.asyncQ ∧ (d.pathCntMod k g).reply = d.reply ∧ (d.pathCntMod k g).writes = d.writes
    ∧ (d.pathCntMod k g).free = d.free :=
  ⟨rfl, rfl, rfl, rfl, rfl, rfl, rfl, rfl, rfl, rfl, rfl, rfl, rfl, rfl, rfl, rfl, rfl, rfl, rfl, rfl, rfl, rfl, rfl, rfl, rfl⟩

@[simp] theorem Dev.ringMod_rings (d : Dev) (k : Nat) (g : Ring → Ring) : (d.ringMod k g).cr.rings = tmod {} d.cr.rings k g := rfl
@[simp] theorem Dev.ringMod_rest (d : Dev) (k : Nat) (g : Ring → Ring) :
    (d.ringMod k g).gen = d.gen ∧ (d.ringMod k g).tbs = d.tbs ∧ (d.ringMod k g).gnss = d.gnss ∧ (d.ringMod k g).ref = d.ref
    ∧ (d.ringMod k g).fix = d.fix ∧ (d.ringMod k g).orc = d.orc ∧ (d.ringMod k g).prf = d.prf ∧ (d.ringMod k g).bgl = d.bgl
    ∧ (d.ringMod k g).rad = d.rad ∧ (d.ringMod k g).sw = d.sw ∧ (d.ringMod k g).sch = d.sch ∧ (d.ringMod k g).blw = d.blw
    ∧ (d.ringMod k g).ifc = d.ifc ∧ (d.ringMod k g).mbx = d.mbx ∧ (d.ringMod k g).txn = d.txn ∧ (d.ringMod k g).sec = d.sec
    ∧ (d.ringMod k g).evr = d.evr ∧ (d.ringMod k g).upd = d.upd ∧ (d.ringMod k g).shadow = d.shadow
    ∧ (d.ringMod k g).shadowNext = d.shadowNext ∧ (d.ringMod k g).reads = d.reads ∧ (d.ringMod k g).asyncQ = d.asyncQ
    ∧ (d.ringMod k g).reply = d.reply ∧ (d.ringMod k g).writes = d.writes ∧ (d.ringMod k g).free = d.free :=
  ⟨rfl, rfl, rfl, rfl, rfl, rfl, rfl, rfl, rfl, rfl, rfl, rfl, rfl, rfl, rfl, rfl, rfl, rfl, rfl, rfl, rfl, rfl, rfl, rfl, rfl⟩

@[simp] theorem Dev.tportMod_ports (d : Dev) (k : Nat) (g : TPort → TPort) : (d.tportMod k g).txn.ports = tmod {} d.txn.ports k g := rfl
@[simp] theorem Dev.tportMod_rest (d : Dev) (k : Nat) (g : TPort → TPort) :
    (d.tportMod k g).gen = d.gen ∧ (d.tportMod k g).tbs = d.tbs ∧ (d.tportMod k g).gnss = d.gnss ∧ (d.tportMod k g).ref = d.ref
    ∧ (d.tportMod k g).fix = d.fix ∧ (d.tportMod k g).orc = d.orc ∧ (d.tportMod k g).prf = d.prf ∧ (d.tportMod k g).bgl = d.bgl
    ∧ (d.tportMod k g).rad = d.rad ∧ (d.tportMod k g).sw = d.sw ∧ (d.tportMod k g).sch = d.sch ∧ (d.tportMod k g).blw = d.blw
    ∧ (d.tportMod k g).ifc = d.ifc ∧ (d.tportMod k g).mbx = d.mbx ∧ (d.tportMod k g).cr = d.cr ∧ (d.tportMod k g).sec = d.sec
    ∧ (d.tportMod k g).evr = d.evr ∧ (d.tportMod k g).upd = d.upd ∧ (d.tportMod k g).shadow = d.shadow
    ∧ (d.tportMod k g).shadowNext = d.shadowNext ∧ (d.tportMod k g).reads = d.reads ∧ (d.tportMod k g).asyncQ = d.asyncQ
    ∧ (d.tportMod k g).reply = d.reply ∧ (d.tportMod k g).writes = d.writes ∧ (d.tportMod k g).free = d.free :=
  ⟨rfl, rfl, rfl, rfl, rfl, rfl, rfl, rfl, rfl, rfl, rfl, rfl, rfl, rfl, rfl, rfl, rfl, rfl, rfl, rfl, rfl, rfl, rfl, rfl, rfl⟩

@[simp] theorem Dev.kslotMod_slots (d : Dev) (k : Nat) (g : KSlot → KSlot) : (d.kslotMod k g).sec.slots = tmod {} d.sec.slots k g := rfl
@[simp] theorem Dev.kslotMod_rest (d : Dev) (k : Nat) (g : KSlot → KSlot) :
    (d.kslotMod k g).gen = d.gen ∧ (d.kslotMod k g).tbs = d.tbs ∧ (d.kslotMod k g).gnss = d.gnss ∧ (d.kslotMod k g).ref = d.ref
    ∧ (d.kslotMod k g).fix = d.fix ∧ (d.kslotMod k g).orc = d.orc ∧ (d.kslotMod k g).prf = d.prf ∧ (d.kslotMod k g).bgl = d.bgl
    ∧ (d.kslotMod k g).rad = d.rad ∧ (d.kslotMod k g).sw = d.sw ∧ (d.kslotMod k g).sch = d.sch ∧ (d.kslotMod k g).blw = d.blw
    ∧ (d.kslotMod k g).ifc = d.ifc ∧ (d.kslotMod k g).mbx = d.mbx ∧ (d.kslotMod k g).cr = d.cr ∧ (d.kslotMod k g).txn = d.txn
    ∧ (d.kslotMod k g).evr = d.evr ∧ (d.kslotMod k g).upd = d.upd ∧ (d.kslotMod k g).shadow = d.shadow
    ∧ (d.kslotMod k g).shadowNext = d.shadowNext ∧ (d.kslotMod k g).reads = d.reads ∧ (d.kslotMod k g).asyncQ = d.asyncQ
    ∧ (d.kslotMod k g).reply = d.reply ∧ (d.kslotMod k g).writes = d.writes ∧ (d.kslotMod k g).free = d.free :=
  ⟨rfl, rfl, rfl, rfl, rfl, rfl, rfl, rfl, rfl, rfl, rfl, rfl, rfl, rfl, rfl, rfl, rfl, rfl, rfl, rfl, rfl, rfl, rfl, rfl, rfl⟩

@[simp] theorem Dev.rateMonMod_rates (d : Dev) (k : Nat) (g : RateMon → RateMon) : (d.rateMonMod k g).gen.rates = tmod {} d.gen.rates k g := rfl
@[simp] theorem Dev.rateMonMod_rest (d : Dev) (k : Nat) (g : RateMon → RateMon) :
    (d.rateMonMod k g).tbs = d.tbs ∧ (d.rateMonMod k g).gnss = d.gnss ∧ (d.rateMonMod k g).ref = d.ref
    ∧ (d.rateMonMod k g).fix = d.fix ∧ (d.rateMonMod k g).orc = d.orc ∧ (d.rateMonMod k g).prf = d.prf
    ∧ (d.rateMonMod k g).bgl = d.bgl ∧ (d.rateMonMod k g).rad = d.rad ∧ (d.rateMonMod k g).sw = d.sw
    ∧ (d.rateMonMod k g).sch = d.sch ∧ (d.rateMonMod k g).blw = d.blw ∧ (d.rateMonMod k g).ifc = d.ifc
    ∧ (d.rateMonMod k g).mbx = d.mbx ∧ (d.rateMonMod k g).cr = d.cr ∧ (d.rateMonMod k g).txn = d.txn
    ∧ (d.rateMonMod k g).sec = d.sec ∧ (d.rateMonMod k g).evr = d.evr ∧ (d.rateMonMod k g).upd = d.upd
    ∧ (d.rateMonMod k g).shadow = d.shadow ∧ (d.rateMonMod k g).shadowNext = d.shadowNext ∧ (d.rateMonMod k g).reads = d.reads
    ∧ (d.rateMonMod k g).asyncQ = d.asyncQ ∧ (d.rateMonMod k g).reply = d.reply ∧ (d.rateMonMod k g).writes = d.writes
    ∧ (d.rateMonMod k g).free = d.free :=
  ⟨rfl, rfl, rfl, rfl, rfl, rfl, rfl, rfl, rfl, rfl, rfl, rfl, rfl, rfl, rfl, rfl, rfl, rfl, rfl, rfl, rfl, rfl, rfl, rfl, rfl⟩

@[simp] theorem Dev.ppsMod_ppsOut (d : Dev) (k : Nat) (g : PpsOut → PpsOut) : (d.ppsMod k g).tbs.ppsOut = tmod {} d.tbs.ppsOut k g := rfl
@[simp] theorem Dev.ppsMod_rest (d : Dev) (k : Nat) (g : PpsOut → PpsOut) :
    (d.ppsMod k g).gen = d.gen ∧ (d.ppsMod k g).gnss = d.gnss ∧ (d.ppsMod k g).ref = d.ref ∧ (d.ppsMod k g).fix = d.fix
    ∧ (d.ppsMod k g).orc = d.orc ∧ (d.ppsMod k g).prf = d.prf ∧ (d.ppsMod k g).bgl = d.bgl ∧ (d.ppsMod k g).rad = d.rad
    ∧ (d.ppsMod k g).sw = d.sw ∧ (d.ppsMod k g).sch = d.sch ∧ (d.ppsMod k g).blw = d.blw ∧ (d.ppsMod k g).ifc = d.ifc
    ∧ (d.ppsMod k g).mbx = d.mbx ∧ (d.ppsMod k g).cr = d.cr ∧ (d.ppsMod k g).txn = d.txn ∧ (d.ppsMod k g).sec = d.sec
    ∧ (d.ppsMod k g).evr = d.evr ∧ (d.ppsMod k g).upd = d.upd ∧ (d.ppsMod k g).shadow = d.shadow
    ∧ (d.ppsMod k g).shadowNext = d.shadowNext ∧ (d.ppsMod k g).reads = d.reads ∧ (d.ppsMod k g).asyncQ = d.asyncQ
    ∧ (d.ppsMod k g).reply = d.reply ∧ (d.ppsMod k g).writes = d.writes ∧ (d.ppsMod k g).free = d.free :=
  ⟨rfl, rfl, rfl, rfl, rfl, rfl, rfl, rfl, rfl, rfl, rfl, rfl, rfl, rfl, rfl, rfl, rfl, rfl, rfl, rfl, rfl, rfl, rfl, rfl, rfl⟩

@[simp] theorem Dev.ppsInMod_ppsIn (d : Dev) (k : Nat) (g : PpsIn → PpsIn) : (d.ppsInMod k g).tbs.ppsIn = tmod {} d.tbs.ppsIn k g := rfl
@[simp] theorem Dev.ppsInMod_rest (d : Dev) (k : Nat) (g : PpsIn → PpsIn) :
    (d.ppsInMod k g).gen = d.gen ∧ (d.ppsInMod k g).gnss = d.gnss ∧ (d.ppsInMod k g).ref = d.ref ∧ (d.ppsInMod k g).fix = d.fix
    ∧ (d.ppsInMod k g).orc = d.orc ∧ (d.ppsInMod k g).prf = d.prf ∧ (d.ppsInMod k g).bgl = d.bgl ∧ (d.ppsInMod k g).rad = d.rad
    ∧ (d.ppsInMod k g).sw = d.sw ∧ (d.ppsInMod k g).sch = d.sch ∧ (d.ppsInMod k g).blw = d.blw ∧ (d.ppsInMod k g).ifc = d.ifc
    ∧ (d.ppsInMod k g).mbx = d.mbx ∧ (d.ppsInMod k g).cr = d.cr ∧ (d.ppsInMod k g).txn = d.txn ∧ (d.ppsInMod k g).sec = d.sec
    ∧ (d.ppsInMod k g).evr = d.evr ∧ (d.ppsInMod k g).upd = d.upd ∧ (d.ppsInMod k g).shadow = d.shadow
    ∧ (d.ppsInMod k g).shadowNext = d.shadowNext ∧ (d.ppsInMod k g).reads = d.reads ∧ (d.ppsInMod k g).asyncQ = d.asyncQ
    ∧ (d.ppsInMod k g).reply = d.reply ∧ (d.ppsInMod k g).writes = d.writes ∧ (d.ppsInMod k g).free = d.free :=
  ⟨rfl, rfl, rfl, rfl, rfl, rfl, rfl, rfl, rfl, rfl, rfl, rfl, rfl, rfl, rfl, rfl, rfl, rfl, rfl, rfl, rfl, rfl, rfl, rfl, rfl⟩

@[simp] theorem Dev.lgateMod_lg (d : Dev) (k : Nat) (g : Lg → Lg) : (d.lgateMod k g).tbs.lg = tmod {} d.tbs.lg k g := rfl
@[simp] theorem Dev.lgateMod_rest (d : Dev) (k : Nat) (g : Lg → Lg) :
    (d.lgateMod k g).gen = d.gen ∧ (d.lgateMod k g).gnss = d.gnss ∧ (d.lgateMod k g).ref = d.ref ∧ (d.lgateMod k g).fix = d.fix
    ∧ (d.lgateMod k g).orc = d.orc ∧ (d.lgateMod k g).prf = d.prf ∧ (d.lgateMod k g).bgl = d.bgl ∧ (d.lgateMod k g).rad = d.rad
    ∧ (d.lgateMod k g).sw = d.sw ∧ (d.lgateMod k g).sch = d.sch ∧ (d.lgateMod k g).blw = d.blw ∧ (d.lgateMod k g).ifc = d.ifc
    ∧ (d.lgateMod k g).mbx = d.mbx ∧ (d.lgateMod k g).cr = d.cr ∧ (d.lgateMod k g).txn = d.txn ∧ (d.lgateMod k g).sec = d.sec
    ∧ (d.lgateMod k g).evr = d.evr ∧ (d.lgateMod k g).upd = d.upd ∧ (d.lgateMod k g).shadow = d.shadow
    ∧ (d.lgateMod k g).shadowNext = d.shadowNext ∧ (d.lgateMod k g).reads = d.reads ∧ (d.lgateMod k g).asyncQ = d.asyncQ
    ∧ (d.lgateMod k g).reply = d.reply ∧ (d.lgateMod k g).writes = d.writes ∧ (d.lgateMod k g).free = d.free :=
  ⟨rfl, rfl, rfl, rfl, rfl, rfl, rfl, rfl, rfl, rfl, rfl, rfl, rfl, rfl, rfl, rfl, rfl, rfl, rfl, rfl, rfl, rfl, rfl, rfl, rfl⟩

@[simp] theorem Dev.captMod_cap (d : Dev) (k : Nat) (g : Cap → Cap) : (d.captMod k g).tbs.cap = tmod {} d.tbs.cap k g := rfl
@[simp] theorem Dev.captMod_rest (d : Dev) (k : Nat) (g : Cap → Cap) :
    (d.captMod k g).gen = d.gen ∧ (d.captMod k g).gnss = d.gnss ∧ (d.captMod k g).ref = d.ref ∧ (d.captMod k g).fix = d.fix
    ∧ (d.captMod k g).orc = d.orc ∧ (d.captMod k g).prf = d.prf ∧ (d.captMod k g).bgl = d.bgl ∧ (d.captMod k g).rad = d.rad
    ∧ (d.captMod k g).sw = d.sw ∧ (d.captMod k g).sch = d.sch ∧ (d.captMod k g).blw = d.blw ∧ (d.captMod k g).ifc = d.ifc
    ∧ (d.captMod k g).mbx = d.mbx ∧ (d.captMod k g).cr = d.cr ∧ (d.captMod k g).txn = d.txn ∧ (d.captMod k g).sec = d.sec
    ∧ (d.captMod k g).evr = d.evr ∧ (d.captMod k g).upd = d.upd ∧ (d.captMod k g).shadow = d.shadow
    ∧ (d.captMod k g).shadowNext = d.shadowNext ∧ (d.captMod k g).reads = d.reads ∧ (d.captMod k g).asyncQ = d.asyncQ
    ∧ (d.captMod k g).reply = d.reply ∧ (d.captMod k g).writes = d.writes ∧ (d.captMod k g).free = d.free :=
  ⟨rfl, rfl, rfl, rfl, rfl, rfl, rfl, rfl, rfl, rfl, rfl, rfl, rfl, rfl, rfl, rfl, rfl, rfl, rfl, rfl, rfl, rfl, rfl, rfl, rfl⟩

@[simp] theorem Dev.bucketMod_buckets (d : Dev) (k : Nat) (g : Bucket → Bucket) : (d.bucketMod k g).evr.buckets = tmod {} d.evr.buckets k g := rfl
@[simp] theorem Dev.bucketMod_rest (d : Dev) (k : Nat) (g : Bucket → Bucket) :
    (d.bucketMod k g).gen = d.gen ∧ (d.bucketMod k g).tbs = d.tbs ∧ (d.bucketMod k g).gnss = d.gnss
    ∧ (d.bucketMod k g).ref = d.ref ∧ (d.bucketMod k g).fix = d.fix ∧ (d.bucketMod k g).orc = d.orc
    ∧ (d.bucketMod k g).prf = d.prf ∧ (d.bucketMod k g).bgl = d.bgl ∧ (d.bucketMod k g).rad = d.rad
    ∧ (d.bucketMod k g).sw = d.sw ∧ (d.bucketMod k g).sch = d.sch ∧ (d.bucketMod k g).blw = d.blw
    ∧ (d.bucketMod k g).ifc = d.ifc ∧ (d.bucketMod k g).mbx = d.mbx ∧ (d.bucketMod k g).cr = d.cr
    ∧ (d.bucketMod k g).txn = d.txn ∧ (d.bucketMod k g).sec = d.sec ∧ (d.bucketMod k g).upd = d.upd
    ∧ (d.bucketMod k g).shadow = d.shadow ∧ (d.bucketMod k g).shadowNext = d.shadowNext ∧ (d.bucketMod k g).reads = d.reads
    ∧ (d.bucketMod k g).asyncQ = d.asyncQ ∧ (d.bucketMod k g).reply = d.reply ∧ (d.bucketMod k g).writes = d.writes
    ∧ (d.bucketMod k g).free = d.free :=
  ⟨rfl, rfl, rfl, rfl, rfl, rfl, rfl, rfl, rfl, rfl, rfl, rfl, rfl, rfl, rfl, rfl, rfl, rfl, rfl, rfl, rfl, rfl, rfl, rfl, rfl⟩

/-! ### The reply, host memory and the counts of a path -/

@[simp] theorem Dev.answer_rest (d : Dev) (c : Rc) (t : BitVec 8) (ws : List Word) (e : Word) :
    (d.answer c t ws e).gen = d.gen ∧ (d.answer c t ws e).tbs = d.tbs ∧ (d.answer c t ws e).gnss = d.gnss
    ∧ (d.answer c t ws e).ref = d.ref ∧ (d.answer c t ws e).fix = d.fix ∧ (d.answer c t ws e).orc = d.orc
    ∧ (d.answer c t ws e).prf = d.prf ∧ (d.answer c t ws e).bgl = d.bgl ∧ (d.answer c t ws e).rad = d.rad
    ∧ (d.answer c t ws e).sw = d.sw ∧ (d.answer c t ws e).sch = d.sch ∧ (d.answer c t ws e).blw = d.blw
    ∧ (d.answer c t ws e).ifc = d.ifc ∧ (d.answer c t ws e).mbx = d.mbx ∧ (d.answer c t ws e).cr = d.cr
    ∧ (d.answer c t ws e).txn = d.txn ∧ (d.answer c t ws e).sec = d.sec ∧ (d.answer c t ws e).evr = d.evr
    ∧ (d.answer c t ws e).upd = d.upd ∧ (d.answer c t ws e).shadow = d.shadow ∧ (d.answer c t ws e).shadowNext = d.shadowNext
    ∧ (d.answer c t ws e).reads = d.reads ∧ (d.answer c t ws e).asyncQ = d.asyncQ ∧ (d.answer c t ws e).writes = d.writes
    ∧ (d.answer c t ws e).free = d.free :=
  ⟨rfl, rfl, rfl, rfl, rfl, rfl, rfl, rfl, rfl, rfl, rfl, rfl, rfl, rfl, rfl, rfl, rfl, rfl, rfl, rfl, rfl, rfl, rfl, rfl, rfl⟩
@[simp] theorem Dev.readOut_rest (d : Dev) (ws : List Word) :
    (d.readOut ws).gen = d.gen ∧ (d.readOut ws).tbs = d.tbs ∧ (d.readOut ws).gnss = d.gnss ∧ (d.readOut ws).ref = d.ref
    ∧ (d.readOut ws).fix = d.fix ∧ (d.readOut ws).orc = d.orc ∧ (d.readOut ws).prf = d.prf ∧ (d.readOut ws).bgl = d.bgl
    ∧ (d.readOut ws).rad = d.rad ∧ (d.readOut ws).sw = d.sw ∧ (d.readOut ws).sch = d.sch ∧ (d.readOut ws).blw = d.blw
    ∧ (d.readOut ws).ifc = d.ifc ∧ (d.readOut ws).mbx = d.mbx ∧ (d.readOut ws).cr = d.cr ∧ (d.readOut ws).txn = d.txn
    ∧ (d.readOut ws).sec = d.sec ∧ (d.readOut ws).evr = d.evr ∧ (d.readOut ws).upd = d.upd ∧ (d.readOut ws).shadow = d.shadow
    ∧ (d.readOut ws).shadowNext = d.shadowNext ∧ (d.readOut ws).reads = d.reads ∧ (d.readOut ws).asyncQ = d.asyncQ
    ∧ (d.readOut ws).writes = d.writes ∧ (d.readOut ws).free = d.free :=
  ⟨rfl, rfl, rfl, rfl, rfl, rfl, rfl, rfl, rfl, rfl, rfl, rfl, rfl, rfl, rfl, rfl, rfl, rfl, rfl, rfl, rfl, rfl, rfl, rfl, rfl⟩
@[simp] theorem Dev.dma_rest (d : Dev) (a : Nat) (bs : List Byte) :
    (d.dma a bs).gen = d.gen ∧ (d.dma a bs).tbs = d.tbs ∧ (d.dma a bs).gnss = d.gnss ∧ (d.dma a bs).ref = d.ref
    ∧ (d.dma a bs).fix = d.fix ∧ (d.dma a bs).orc = d.orc ∧ (d.dma a bs).prf = d.prf ∧ (d.dma a bs).bgl = d.bgl
    ∧ (d.dma a bs).rad = d.rad ∧ (d.dma a bs).sw = d.sw ∧ (d.dma a bs).sch = d.sch ∧ (d.dma a bs).blw = d.blw
    ∧ (d.dma a bs).ifc = d.ifc ∧ (d.dma a bs).mbx = d.mbx ∧ (d.dma a bs).cr = d.cr ∧ (d.dma a bs).txn = d.txn
    ∧ (d.dma a bs).sec = d.sec ∧ (d.dma a bs).evr = d.evr ∧ (d.dma a bs).upd = d.upd ∧ (d.dma a bs).shadow = d.shadow
    ∧ (d.dma a bs).shadowNext = d.shadowNext ∧ (d.dma a bs).reads = d.reads ∧ (d.dma a bs).asyncQ = d.asyncQ
    ∧ (d.dma a bs).reply = d.reply ∧ (d.dma a bs).free = d.free :=
  ⟨rfl, rfl, rfl, rfl, rfl, rfl, rfl, rfl, rfl, rfl, rfl, rfl, rfl, rfl, rfl, rfl, rfl, rfl, rfl, rfl, rfl, rfl, rfl, rfl, rfl⟩
@[simp] theorem Dev.owe_rest (d : Dev) (p : Path) (t : BitVec 8) (op : Op) (c : Rc) (ws : List Word) :
    (d.owe p t op c ws).gen = d.gen ∧ (d.owe p t op c ws).tbs = d.tbs ∧ (d.owe p t op c ws).gnss = d.gnss
    ∧ (d.owe p t op c ws).ref = d.ref ∧ (d.owe p t op c ws).fix = d.fix ∧ (d.owe p t op c ws).orc = d.orc
    ∧ (d.owe p t op c ws).prf = d.prf ∧ (d.owe p t op c ws).bgl = d.bgl ∧ (d.owe p t op c ws).rad = d.rad
    ∧ (d.owe p t op c ws).sw = d.sw ∧ (d.owe p t op c ws).sch = d.sch ∧ (d.owe p t op c ws).blw = d.blw
    ∧ (d.owe p t op c ws).ifc = d.ifc ∧ (d.owe p t op c ws).mbx = d.mbx ∧ (d.owe p t op c ws).cr = d.cr
    ∧ (d.owe p t op c ws).txn = d.txn ∧ (d.owe p t op c ws).sec = d.sec ∧ (d.owe p t op c ws).evr = d.evr
    ∧ (d.owe p t op c ws).upd = d.upd ∧ (d.owe p t op c ws).shadow = d.shadow ∧ (d.owe p t op c ws).shadowNext = d.shadowNext
    ∧ (d.owe p t op c ws).reads = d.reads ∧ (d.owe p t op c ws).reply = d.reply ∧ (d.owe p t op c ws).writes = d.writes
    ∧ (d.owe p t op c ws).free = d.free :=
  ⟨rfl, rfl, rfl, rfl, rfl, rfl, rfl, rfl, rfl, rfl, rfl, rfl, rfl, rfl, rfl, rfl, rfl, rfl, rfl, rfl, rfl, rfl, rfl, rfl, rfl⟩
@[simp] theorem Dev.spiOut_rest (d : Dev) (bs : List Byte) :
    (d.spiOut bs).gen = d.gen ∧ (d.spiOut bs).tbs = d.tbs ∧ (d.spiOut bs).gnss = d.gnss ∧ (d.spiOut bs).ref = d.ref
    ∧ (d.spiOut bs).fix = d.fix ∧ (d.spiOut bs).orc = d.orc ∧ (d.spiOut bs).prf = d.prf ∧ (d.spiOut bs).bgl = d.bgl
    ∧ (d.spiOut bs).rad = d.rad ∧ (d.spiOut bs).sw = d.sw ∧ (d.spiOut bs).sch = d.sch ∧ (d.spiOut bs).blw = d.blw
    ∧ (d.spiOut bs).mbx = d.mbx ∧ (d.spiOut bs).cr = d.cr ∧ (d.spiOut bs).txn = d.txn ∧ (d.spiOut bs).sec = d.sec
    ∧ (d.spiOut bs).evr = d.evr ∧ (d.spiOut bs).upd = d.upd ∧ (d.spiOut bs).shadow = d.shadow
    ∧ (d.spiOut bs).shadowNext = d.shadowNext ∧ (d.spiOut bs).reads = d.reads ∧ (d.spiOut bs).asyncQ = d.asyncQ
    ∧ (d.spiOut bs).reply = d.reply ∧ (d.spiOut bs).writes = d.writes ∧ (d.spiOut bs).free = d.free :=
  ⟨rfl, rfl, rfl, rfl, rfl, rfl, rfl, rfl, rfl, rfl, rfl, rfl, rfl, rfl, rfl, rfl, rfl, rfl, rfl, rfl, rfl, rfl, rfl, rfl, rfl⟩
@[simp] theorem Dev.endTokens_rest (d : Dev)  :
    (d.endTokens).gen = d.gen ∧ (d.endTokens).tbs = d.tbs ∧ (d.endTokens).gnss = d.gnss ∧ (d.endTokens).ref = d.ref
    ∧ (d.endTokens).fix = d.fix ∧ (d.endTokens).orc = d.orc ∧ (d.endTokens).prf = d.prf ∧ (d.endTokens).rad = d.rad
    ∧ (d.endTokens).sw = d.sw ∧ (d.endTokens).sch = d.sch ∧ (d.endTokens).blw = d.blw ∧ (d.endTokens).ifc = d.ifc
    ∧ (d.endTokens).mbx = d.mbx ∧ (d.endTokens).cr = d.cr ∧ (d.endTokens).txn = d.txn ∧ (d.endTokens).sec = d.sec
    ∧ (d.endTokens).evr = d.evr ∧ (d.endTokens).upd = d.upd ∧ (d.endTokens).shadow = d.shadow
    ∧ (d.endTokens).shadowNext = d.shadowNext ∧ (d.endTokens).reads = d.reads ∧ (d.endTokens).asyncQ = d.asyncQ
    ∧ (d.endTokens).reply = d.reply ∧ (d.endTokens).writes = d.writes ∧ (d.endTokens).free = d.free :=
  ⟨rfl, rfl, rfl, rfl, rfl, rfl, rfl, rfl, rfl, rfl, rfl, rfl, rfl, rfl, rfl, rfl, rfl, rfl, rfl, rfl, rfl, rfl, rfl, rfl, rfl⟩
@[simp] theorem Dev.countOrder_rest (d : Dev) (p : Path) (n : Nat) :
    (d.countOrder p n).gen = d.gen ∧ (d.countOrder p n).tbs = d.tbs ∧ (d.countOrder p n).gnss = d.gnss
    ∧ (d.countOrder p n).ref = d.ref ∧ (d.countOrder p n).fix = d.fix ∧ (d.countOrder p n).orc = d.orc
    ∧ (d.countOrder p n).prf = d.prf ∧ (d.countOrder p n).bgl = d.bgl ∧ (d.countOrder p n).rad = d.rad
    ∧ (d.countOrder p n).sw = d.sw ∧ (d.countOrder p n).sch = d.sch ∧ (d.countOrder p n).blw = d.blw
    ∧ (d.countOrder p n).ifc = d.ifc ∧ (d.countOrder p n).cr = d.cr ∧ (d.countOrder p n).txn = d.txn
    ∧ (d.countOrder p n).sec = d.sec ∧ (d.countOrder p n).evr = d.evr ∧ (d.countOrder p n).upd = d.upd
    ∧ (d.countOrder p n).shadow = d.shadow ∧ (d.countOrder p n).shadowNext = d.shadowNext ∧ (d.countOrder p n).reads = d.reads
    ∧ (d.countOrder p n).asyncQ = d.asyncQ ∧ (d.countOrder p n).reply = d.reply ∧ (d.countOrder p n).writes = d.writes
    ∧ (d.countOrder p n).free = d.free :=
  ⟨rfl, rfl, rfl, rfl, rfl, rfl, rfl, rfl, rfl, rfl, rfl, rfl, rfl, rfl, rfl, rfl, rfl, rfl, rfl, rfl, rfl, rfl, rfl, rfl, rfl⟩
@[simp] theorem Dev.countAccepted_rest (d : Dev) (p : Path) :
    (d.countAccepted p).gen = d.gen ∧ (d.countAccepted p).tbs = d.tbs ∧ (d.countAccepted p).gnss = d.gnss
    ∧ (d.countAccepted p).ref = d.ref ∧ (d.countAccepted p).fix = d.fix ∧ (d.countAccepted p).orc = d.orc
    ∧ (d.countAccepted p).prf = d.prf ∧ (d.countAccepted p).bgl = d.bgl ∧ (d.countAccepted p).rad = d.rad
    ∧ (d.countAccepted p).sw = d.sw ∧ (d.countAccepted p).sch = d.sch ∧ (d.countAccepted p).blw = d.blw
    ∧ (d.countAccepted p).ifc = d.ifc ∧ (d.countAccepted p).cr = d.cr ∧ (d.countAccepted p).txn = d.txn
    ∧ (d.countAccepted p).sec = d.sec ∧ (d.countAccepted p).evr = d.evr ∧ (d.countAccepted p).upd = d.upd
    ∧ (d.countAccepted p).shadow = d.shadow ∧ (d.countAccepted p).shadowNext = d.shadowNext
    ∧ (d.countAccepted p).reads = d.reads ∧ (d.countAccepted p).asyncQ = d.asyncQ ∧ (d.countAccepted p).reply = d.reply
    ∧ (d.countAccepted p).writes = d.writes ∧ (d.countAccepted p).free = d.free :=
  ⟨rfl, rfl, rfl, rfl, rfl, rfl, rfl, rfl, rfl, rfl, rfl, rfl, rfl, rfl, rfl, rfl, rfl, rfl, rfl, rfl, rfl, rfl, rfl, rfl, rfl⟩
@[simp] theorem Dev.mboxMod_rest (d : Dev) (ch : Nat) (b : Bool) (g : MEnd → MEnd) :
    (d.mboxMod ch b g).gen = d.gen ∧ (d.mboxMod ch b g).tbs = d.tbs ∧ (d.mboxMod ch b g).gnss = d.gnss
    ∧ (d.mboxMod ch b g).ref = d.ref ∧ (d.mboxMod ch b g).fix = d.fix ∧ (d.mboxMod ch b g).orc = d.orc
    ∧ (d.mboxMod ch b g).prf = d.prf ∧ (d.mboxMod ch b g).bgl = d.bgl ∧ (d.mboxMod ch b g).rad = d.rad
    ∧ (d.mboxMod ch b g).sw = d.sw ∧ (d.mboxMod ch b g).sch = d.sch ∧ (d.mboxMod ch b g).blw = d.blw
    ∧ (d.mboxMod ch b g).ifc = d.ifc ∧ (d.mboxMod ch b g).cr = d.cr ∧ (d.mboxMod ch b g).txn = d.txn
    ∧ (d.mboxMod ch b g).sec = d.sec ∧ (d.mboxMod ch b g).evr = d.evr ∧ (d.mboxMod ch b g).upd = d.upd
    ∧ (d.mboxMod ch b g).shadow = d.shadow ∧ (d.mboxMod ch b g).shadowNext = d.shadowNext ∧ (d.mboxMod ch b g).reads = d.reads
    ∧ (d.mboxMod ch b g).asyncQ = d.asyncQ ∧ (d.mboxMod ch b g).reply = d.reply ∧ (d.mboxMod ch b g).writes = d.writes
    ∧ (d.mboxMod ch b g).free = d.free :=
  ⟨rfl, rfl, rfl, rfl, rfl, rfl, rfl, rfl, rfl, rfl, rfl, rfl, rfl, rfl, rfl, rfl, rfl, rfl, rfl, rfl, rfl, rfl, rfl, rfl, rfl⟩
@[simp] theorem Dev.entMod_rest (d : Dev) (k : Nat) (g : Ent → Ent) :
    (d.entMod k g).gen = d.gen ∧ (d.entMod k g).tbs = d.tbs ∧ (d.entMod k g).gnss = d.gnss ∧ (d.entMod k g).ref = d.ref
    ∧ (d.entMod k g).fix = d.fix ∧ (d.entMod k g).orc = d.orc ∧ (d.entMod k g).prf = d.prf ∧ (d.entMod k g).bgl = d.bgl
    ∧ (d.entMod k g).rad = d.rad ∧ (d.entMod k g).sw = d.sw ∧ (d.entMod k g).blw = d.blw ∧ (d.entMod k g).ifc = d.ifc
    ∧ (d.entMod k g).mbx = d.mbx ∧ (d.entMod k g).cr = d.cr ∧ (d.entMod k g).txn = d.txn ∧ (d.entMod k g).sec = d.sec
    ∧ (d.entMod k g).evr = d.evr ∧ (d.entMod k g).upd = d.upd ∧ (d.entMod k g).shadow = d.shadow
    ∧ (d.entMod k g).shadowNext = d.shadowNext ∧ (d.entMod k g).reads = d.reads ∧ (d.entMod k g).asyncQ = d.asyncQ
    ∧ (d.entMod k g).reply = d.reply ∧ (d.entMod k g).writes = d.writes ∧ (d.entMod k g).free = d.free :=
  ⟨rfl, rfl, rfl, rfl, rfl, rfl, rfl, rfl, rfl, rfl, rfl, rfl, rfl, rfl, rfl, rfl, rfl, rfl, rfl, rfl, rfl, rfl, rfl, rfl, rfl⟩
@[simp] theorem Dev.advance_rest (d : Dev) (n : Nat) :
    (d.advance n).gen = d.gen ∧ (d.advance n).gnss = d.gnss ∧ (d.advance n).ref = d.ref ∧ (d.advance n).fix = d.fix
    ∧ (d.advance n).orc = d.orc ∧ (d.advance n).prf = d.prf ∧ (d.advance n).bgl = d.bgl ∧ (d.advance n).rad = d.rad
    ∧ (d.advance n).sw = d.sw ∧ (d.advance n).sch = d.sch ∧ (d.advance n).ifc = d.ifc ∧ (d.advance n).mbx = d.mbx
    ∧ (d.advance n).cr = d.cr ∧ (d.advance n).txn = d.txn ∧ (d.advance n).sec = d.sec ∧ (d.advance n).upd = d.upd
    ∧ (d.advance n).shadow = d.shadow ∧ (d.advance n).shadowNext = d.shadowNext ∧ (d.advance n).reads = d.reads
    ∧ (d.advance n).asyncQ = d.asyncQ ∧ (d.advance n).reply = d.reply ∧ (d.advance n).writes = d.writes
    ∧ (d.advance n).free = d.free :=
  ⟨rfl, rfl, rfl, rfl, rfl, rfl, rfl, rfl, rfl, rfl, rfl, rfl, rfl, rfl, rfl, rfl, rfl, rfl, rfl, rfl, rfl, rfl, rfl⟩

@[simp] theorem Dev.answer_reply (d : Dev) (c : Rc) (t : BitVec 8) (ws : List Word) (e : Word) :
    (d.answer c t ws e).reply = { code := c, tag := t, words := ws, epoch := e, pendingDone := false } := rfl
@[simp] theorem Dev.readOut_reply (d : Dev) (ws : List Word) : (d.readOut ws).reply = { words := ws, epoch := d.epoch } := rfl
@[simp] theorem Dev.dma_writes (d : Dev) (a : Nat) (bs : List Byte) : (d.dma a bs).writes = d.writes ++ [(a, bs)] := rfl
@[simp] theorem Dev.advance_mono (d : Dev) (n : Nat) : (d.advance n).tbs.mono = d.tbs.mono + n := rfl

end Sys2Proof.Machine
end

