-- ==== Sys2Proof/Laws/Table.lean ====
section
/-! SUPPORT. Tables: an entry reads as it was set, the others read as before, and a table keeps its canonical form (keys strictly
rising, no entry equal to the default). -/
namespace Sys2Proof.Machine

/-- The canonical form of a table. -/
def Tab.wf {α : Type} (d : α) (t : Tab α) : Prop := t.Pairwise (fun x y => x.1 < y.1) ∧ ∀ x ∈ t, x.2 ≠ d

theorem Tab.wf_nil {α : Type} (d : α) : Tab.wf d [] := ⟨List.Pairwise.nil, by simp⟩

/-- An entry before the first reads as the default. -/
theorem tget_of_lt {α : Type} {d : α} {t : Tab α} {k : Nat} (h : ∀ x ∈ t, k < x.1) : tget d t k = d := by
  induction t with
  | nil => rfl
  | cons x t ih =>
    have h1 := h x (by simp)
    have h2 := ih fun y hy => h y (by simp [hy])
    obtain ⟨a, b⟩ := x
    simp only [tget]
    rw [if_neg (by simp at h1; omega)]
    try exact h2

/-- The entries of a table after a write: those before it, and its own. -/
theorem tset_mem {α : Type} [DecidableEq α] {d : α} {t : Tab α} {k : Nat} {v : α} {x : Nat × α} (h : x ∈ tset d t k v) :
    x ∈ t ∨ (x = (k, v) ∧ v ≠ d) := by
  induction t with
  | nil =>
    simp only [tset] at h
    split at h
    · simp at h
    · simp at h; exact .inr ⟨h, ‹_›⟩
  | cons y t ih =>
    obtain ⟨a, b⟩ := y
    simp only [tset] at h
    repeat' split at h
    all_goals first
      | (rcases List.mem_cons.mp h with h | h
         · first | exact .inr ⟨h, ‹_›⟩ | exact .inl (by simp [h])
         · first
             | exact .inl h
             | exact .inl (List.mem_cons_of_mem _ h)
             | exact (ih h).imp (List.mem_cons_of_mem _) id)
      | exact .inl h
      | exact .inl (List.mem_cons_of_mem _ h)

/-- A write keeps the canonical form. -/
theorem tset_wf {α : Type} [DecidableEq α] {d : α} {t : Tab α} (h : Tab.wf d t) (k : Nat) (v : α) : Tab.wf d (tset d t k v) := by
  refine ⟨?_, fun x hx => ?_⟩
  · induction t with
    | nil => simp only [tset]; split <;> simp
    | cons y t ih =>
      obtain ⟨h1, h2⟩ := List.pairwise_cons.mp h.1
      have h3 := fun x hx => h.2 x (List.mem_cons_of_mem y hx)
      obtain ⟨a, b⟩ := y
      simp only [tset]
      split
      · split
        · exact h.1
        · refine List.Pairwise.cons (fun z hz => ?_) h.1
          rcases List.mem_cons.mp hz with rfl | hz
          · assumption
          · exact Nat.lt_trans ‹_› (h1 z hz)
      · split
        · subst k
          split
          · exact h2
          · exact List.Pairwise.cons (fun z hz => h1 z hz) h2
        · refine List.Pairwise.cons (fun z hz => ?_) (ih ⟨h2, h3⟩)
          rcases tset_mem hz with hz | ⟨rfl, -⟩
          · exact h1 z hz
          · show a < k
            omega
  · rcases tset_mem hx with hx | ⟨rfl, hv⟩
    · exact h.2 x hx
    · exact hv

/-- An entry reads as it was set. -/
theorem tget_tset_self {α : Type} [DecidableEq α] {d : α} {t : Tab α} (h : Tab.wf d t) (k : Nat) (v : α) :
    tget d (tset d t k v) k = v := by
  induction t with
  | nil => simp only [tset]; split <;> simp_all [tget]
  | cons y t ih =>
    obtain ⟨h1, h2⟩ := List.pairwise_cons.mp h.1
    have h3 := ih ⟨h2, fun x hx => h.2 x (List.mem_cons_of_mem y hx)⟩
    obtain ⟨a, b⟩ := y
    simp only [tset]
    split
    · split
      · subst v
        refine tget_of_lt fun x hx => ?_
        rcases List.mem_cons.mp hx with rfl | hx
        · assumption
        · exact Nat.lt_trans ‹_› (h1 x hx)
      · simp [tget]
    · split
      · subst k
        split
        · subst v; exact tget_of_lt h1
        · simp [tget]
      · simp only [tget]
        rw [if_neg ‹_›]
        exact h3

/-- An entry that is not the default reads as it was set, in canonical form or not. -/
theorem tget_tset_of_ne {α : Type} [DecidableEq α] {d v : α} (t : Tab α) (k : Nat) (hv : v ≠ d) : tget d (tset d t k v) k = v := by
  induction t with
  | nil => simp [tset, tget, hv]
  | cons y t ih =>
    obtain ⟨a, b⟩ := y
    simp only [tset]
    split
    · simp [tget, hv]
    · split
      · simp [tget, hv]
      · simp only [tget]
        rw [if_neg ‹_›]
        exact ih

/-- The others read as before. -/
theorem tget_tset_ne {α : Type} [DecidableEq α] {d : α} {t : Tab α} {j k : Nat} (hj : j ≠ k) (v : α) :
    tget d (tset d t k v) j = tget d t j := by
  induction t with
  | nil => simp only [tset]; split <;> simp [tget, hj]
  | cons y t ih =>
    obtain ⟨a, b⟩ := y
    simp only [tset]
    split
    · split <;> simp [tget, hj]
    · split
      · subst k
        split <;> simp [tget, hj]
      · simp only [tget, ih]

/-- An entry changed. -/
theorem tget_tmod_self {α : Type} [DecidableEq α] {d : α} {t : Tab α} (h : Tab.wf d t) (k : Nat) (f : α → α) :
    tget d (tmod d t k f) k = f (tget d t k) := tget_tset_self h k _

theorem tget_tmod_ne {α : Type} [DecidableEq α] {d : α} {t : Tab α} {j k : Nat} (hj : j ≠ k) (f : α → α) :
    tget d (tmod d t k f) j = tget d t j := tget_tset_ne hj _

theorem tmod_wf {α : Type} [DecidableEq α] {d : α} {t : Tab α} (h : Tab.wf d t) (k : Nat) (f : α → α) : Tab.wf d (tmod d t k f) :=
  tset_wf h k _

end Sys2Proof.Machine
end

