-- ==== Sys2Proof/Tests/Slice0.lean ====
section
/-! SUPPORT. Tests: the ill-formed steps that well-formedness refuses, a few values worked out by hand from the chapters, and for each
statement a state and operands that meet the hypotheses of each of its clauses. -/
set_option maxRecDepth 20000
open Sys2Proof Sys2Proof.Machine
namespace Sys2Proof.Tests

/-- The device after a boot, as far as commands need it: READY. -/
def ready : Dev := { gen := { phase := .ready } }

/-- A command of the host on channel 0 (LOCAL authority). -/
def cmd (ws : List Word) : Cmd := { path := .mbx 0, tag := 7, words := ws }

/-- A command of the host on channel 15, the one of the secure core. -/
def secCmd (ws : List Word) : Cmd := { path := .mbx 15, tag := 7, words := ws }

/-- A state around a device. -/
def st (d : Dev) : State := { State.reset with dev := d }

/-- What a check answers, if it passes. -/
def okOf {ε α : Type} : Except ε α → Option α
  | .ok a => some a
  | .error _ => none

/-! ### Ill-formed steps -/

theorem test_wf_words : Instr.wf (.nop (cmd (List.replicate 16 0))) = false ∧ Instr.wf (.nop (cmd (List.replicate 15 0))) = true := by
  decide
def canBad : CanFrame := { id := 2048, ide := false, rtr := false, fd := false, brs := false, esi := false, dlc := 8, data := [] }
theorem test_wf_can_id : Instr.wf (.canFrameReceive 0 canBad) = false
    ∧ Instr.wf (.canFrameReceive 0 { canBad with ide := true }) = true := by decide
theorem test_wf_can_dlc : Instr.wf (.canFrameReceive 0 { canBad with id := 1, dlc := 16 }) = false := by decide
theorem test_wf_can_data : Instr.wf (.canFrameReceive 0 { canBad with id := 1, data := List.replicate 65 0 }) = false := by decide
def ethOk : EthFrame := {
  len := 64, fcsOk := true, da := 0x020000000001, sa := 0x020000000002, tag := some (1, 0), etherType := 0x0800
  ip := none, macsec := none, ptp := none, pause := none, oneStep := false, tsReq := false
  body := List.replicate 46 0 }
theorem test_wf_eth_body : Instr.wf (.ethFrameReceive 0 { ethOk with len := 65 }) = false := by decide
theorem test_wf_eth : Instr.wf (.ethFrameReceive 0 ethOk) = true := by decide
theorem test_wf_eth_vid : Instr.wf (.ethFrameReceive 0 { ethOk with tag := some (4096, 0) }) = false
    ∧ Instr.wf (.ethFrameReceive 0 { ethOk with tag := some (1, 8) }) = false := by decide
theorem test_wf_eth_sectag : Instr.wf (.ethFrameReceive 0 { ethOk with macsec := some ⟨0, 4, 1, true⟩ }) = false := by decide
theorem test_wf_eth_pause : Instr.wf (.ethFrameReceive 0 { ethOk with pause := some (256, 0) }) = false := by decide
def rxOk : RxFrame := {
  fcsOk := true, dataV2 := true, beacon := false, pan := 0, dst := 0, src := 0x100, tsNs := 0, authOk := true, counter := 1
  seq := 0, isAck := false, rssi := -60, lqi := 255, payload := [], aborted := false }
theorem test_wf_mpdu : Instr.wf (.frameReceive 0 { rxOk with mpdu := List.replicate 1025 0 }) = false
    ∧ Instr.wf (.frameReceive 0 rxOk) = true := by decide
theorem test_wf_counter : Instr.wf (.frameReceive 0 { rxOk with counter := 2 ^ 32 }) = false := by decide
theorem test_wf_lqi : Instr.wf (.frameReceive 0 { rxOk with lqi := 256 }) = false := by decide
theorem test_wf_record : Instr.wf (.recordCommit { code := 0xC801, payload := List.replicate 17 0 }) = false
    ∧ Instr.wf (.recordCommit { code := 0xC801, payload := List.replicate 16 0 }) = true := by decide
theorem test_wf_ring_entry : Instr.wf (.crFetch 0 [0] [] none) = false
    ∧ Instr.wf (.crFetch 0 (List.replicate 16 0) [] none) = true := by decide
theorem test_wf_adc : Instr.wf (.adcSequence (List.replicate 17 0)) = false := by decide
theorem test_wf_spih : Instr.wf (.spihWrite 0 (List.replicate 65 0) 0) = false ∧ Instr.wf (.spihRead 0 3) = false := by decide
theorem test_wf_buffers : Instr.wf (.rxFrameDeliver 0 [(0, 255)]) = false ∧ Instr.wf (.rxFrameDeliver 0 [(0, 256), (4096, 16383)]) = true
    ∧ Instr.wf (.txWriteback 0 [16384] false ethOk) = false := by decide
theorem test_wf_window : Instr.wf (.budgetWindow ⟨List.replicate 13 0, [], []⟩) = false := by decide
theorem test_wf_tick : Instr.wf (.profileTick { busy := [101] }) = false := by decide
theorem test_wf_lanes : Instr.wf (.epochBoundary (List.replicate 9 ⟨0, 0, []⟩)) = false := by decide
theorem test_wf_mount : Instr.wf (.ntripRequest ⟨false, true, List.replicate 33 0, [], []⟩) = false := by decide

/-! ### Witnesses: chapter 03 -/

/-- A lane that takes the GPS L1 C/A signal. -/
def l1 : Lane := { configured := true, complex := true, rate := 20000000, rf := 1575420000 }
/-- Lane 0 enabled; channel 0 tracks, channel 1 searches, channel 2 coasts on lane 1, whose clock is lost. -/
def gnss : Dev := { ready with gnss := {
  lanes := [(0, { l1 with en := true }), (1, { l1 with clkLost := true })]
  chans := [(0, { st := .track }), (1, { st := .acq }), (2, { st := .coast, lane := 1 })] } }
def cLaneCfg : Cmd := cmd [0x340, 4000000, 1575420000, 0, 0x00050002]
def cLaneReal : Cmd := cmd [0x7, 125000000, 1575420000, 62499999, 0]
def cMon : Cmd := cmd [0x280, 0x00010000, 0]
def cPlan : Cmd := cmd [0x78006, 1]
def cAlloc : Cmd := cmd [0x1C100]
def cAcq : Cmd := cmd [0x800, 0, 2000]

theorem wit_GnssCommandsRun_lanes :
    (ready.accepts .gnsLaneCfg cLaneCfg = true ∧ (ready.lane 0).en = false ∧ argB cLaneCfg 0 6 = true ∧ argI cLaneCfg 3 = 0
      ∧ argB cLaneCfg 0 9 = true ∧ argF cLaneCfg 4 0 16 ≠ 0 ∧ argF cLaneCfg 4 16 16 ≠ 0
      ∧ (arg cLaneCfg 1).toNat * argF cLaneCfg 4 16 16 = ready.refHz * argF cLaneCfg 4 0 16)
    ∧ (ready.accepts .gnsLaneCfg cLaneReal = true ∧ (ready.lane 7).en = false ∧ argB cLaneReal 0 6 = false
      ∧ 2 * argI cLaneReal 3 < ((arg cLaneReal 1).toNat : Int) ∧ argB cLaneReal 0 9 = false)
    ∧ (gnss.accepts .gnsLaneEn (cmd [0x8]) = true ∧ (gnss.lane 0).configured = true)
    ∧ (gnss.accepts .gnsMonCfg cMon = true ∧ argF cMon 1 0 16 < argF cMon 1 16 16 ∧ argB cMon 0 3 = false)
    ∧ gnss.accepts .gnsMeasCfg (cmd [3]) = true
    ∧ (gnss.accepts .gnsPlan cPlan = true ∧ ((List.range 22).all fun sig => !(argF cPlan 1 0 22).testBit sig
      || (if sig = 4 ∨ sig = 5 then (gnss.lane 6).takes sig 0 && (gnss.lane 6).takes sig 13 else (gnss.lane 0).takes sig 7)) = true) := by
  and_intros <;> decide

theorem wit_GnssCommandsRun_channels :
    (gnss.accepts .gnsChanAlloc cAlloc = true ∧ argF cAlloc 0 8 6 ≤ satMax (signal (argF cAlloc 0 3 5)).gnss
      ∧ argF cAlloc 0 17 4 = 0 ∧ (gnss.lane 0).takes 0 0 = true ∧ gnss.chanFor (argF cAlloc 0 14 3) = some 3
      ∧ (gnss.gnss.chans.all fun x => x.2.ident != some (0, argF cAlloc 0 3 5, argF cAlloc 0 8 6, 0)) = true)
    ∧ (gnss.accepts .gnsChanFree (cmd [0]) = true ∧ (gnss.chan 0).ident.isSome = true)
    ∧ (gnss.accepts .gnsAcq cAcq = true ∧ argF cAcq 0 11 2 = 1 ∧ argF cAcq 2 0 16 = 2000 ∧ (gnss.chan 0).st ≠ .free
      ∧ (gnss.lane (gnss.chan 0).lane).en = true ∧ gnss.gnss.acqQ.length < 64)
    ∧ gnss.accepts .gnsLaneStatus (cmd [0]) = true
    ∧ (gnss.accepts .gnsChanStatus (cmd [767]) = true ∧ 767 < gnss.nChans)
    ∧ (gnss.accepts .gnsMeasRead (cmd [0, 0, 1, 32]) = true ∧ (gnss.reads.filter fun r => r.path == .mbx 0).length < 16) := by
  and_intros <;> decide

def fifo1535 : Queue Unit := { depth := 2048, hi := 2, lo := 1, items := [.data () true] }
theorem wit_GnssEvents :
    (({ ready with reads := [{ kind := .meas, path := .mbx 0, tag := 1, addr := 0, len := 32, at_ := 0 }] } : Dev).reads.find? fun r => r.kind == .meas)
      = some { kind := .meas, path := .mbx 0, tag := 1, addr := 0, len := 32, at_ := 0 }
    ∧ ((gnss.lane 0).en = true ∧ (gnss.lane 0).clkLost = false ∧ (fifo1535.push () true).2 = true)
    ∧ (({ gnss with gnss := { gnss.gnss with surge := true } } : Dev).gnss.surge = true ∧ gnss.fifosLow = true)
    ∧ (({ l1 with en := true, coherent := true } : Lane).en = true)
    ∧ (gnss.lane 1).clkLost = true
    ∧ ((gnss.chan 2).st = .coast ∧ (gnss.lane (gnss.chan 2).lane).clkLost = true)
    ∧ ((gnss.chan 1).st = .acq ∧ (gnss.gnss.acqQ.all fun q => q.ch != 1) = true ∧ gnss.gnss.acqQ.length < 64) := by
  and_intros <;> decide

/-! ### Witnesses: chapters 04 and 05 -/

def cSched : Cmd := cmd [0x4, 1005 + 2 ^ 12 * 600]
def cMount : Cmd := cmd [2101, 4, 0x41, 0, 0, 0, 0, 0, 0, 0, 0, 0]
def cUser : Cmd := cmd [4, 0x41, 0, 0, 0, 0, 0, 0, 0, 0, 0, 0, 0, 0, 0]
def surveying : Dev := { ready with ref := { arpSt := .surveying, maxS := 60, svInst := 2, svSolved := 1 } }

theorem wit_ReferenceCommandsRun :
    (ready.accepts .refArpSurvey (cmd [60, 60, 1]) = true ∧ ready.goActive = false ∧ ready.orc.store = [])
    ∧ ready.accepts .refArpSet (cmd [1, 0, 0, 0, 0, 0, 0, 0, 0, 0]) = true
    ∧ ready.accepts .refAntCfg (cmd [0, 0, 0, 0, 0, 0, 0, 0, 0, 0, 0, 0, 0, 0, 0]) = true
    ∧ ready.accepts .refSteerCfg (cmd [1000]) = true
    ∧ ready.accepts .refOutCfg (cmd [0xFFFB, 0x3F]) = true
    ∧ (ready.accepts .refSchedSet (cmd [0x7F, 0]) = true ∧ argB (cmd [0x7F, 0]) 0 6 = true)
    ∧ (ready.accepts .refSchedSet cSched = true ∧ argB cSched 0 6 = false
      ∧ rtcmType 1005 = true ∧ obsKind 1005 = none ∧ ready.rateOk { typ := 1005, period := 600, offset := 0 } = true
      ∧ argF cSched 1 0 12 = 1005 ∧ argF cSched 1 12 10 = 600 ∧ argF cSched 1 22 10 = 0)
    ∧ (ready.accepts .refZflCfg (cmd [1 + 2 * 8 + 2 ^ 9 * 600 + 2 ^ 19, 0]) = true
      ∧ argF (cmd [1 + 2 * 8 + 2 ^ 9 * 600 + 2 ^ 19, 0]) 0 9 10 % measEvery ready.gnss.rate = 0 ∧ ready.fragFits 8 = true)
    ∧ (ready.accepts .refNtripCfg cMount = true ∧ untilNul (argBytes cMount 2 8) ≠ [])
    ∧ (ready.accepts .refNtripUser cUser = true ∧ argB cUser 0 2 = true ∧ (ready.corrOut 0).users = [])
    ∧ (ready.accepts .refNtripUser (cmd [0, 0, 0, 0, 0, 0, 0, 0, 0, 0, 0, 0, 0, 0, 0]) = true)
    ∧ ready.accepts .refIntegCfg (cmd [10 + 2 ^ 16 * 200, 600 + 2 ^ 10 * 30 + 2 ^ 16 * 50, 0]) = true
    ∧ ready.accepts .refStatus (cmd []) = true
    ∧ (ready.accepts .refCorrRead (cmd [3, 0, 0, 6]) = true ∧ ready.reads = []) := by
  and_intros <;> decide

theorem wit_ReferenceEvents :
    ({ ready with ref := { arpSt := .surveying, maxS := 60, svInst := 3, svSolved := 1 } } : Dev).ref.svInst = 3
    ∧ (surveying.ref.arpSt = .surveying ∧ 0 < surveying.ref.svSolved ∧ surveying.ref.svInst ≤ 2 * surveying.ref.svSolved)
    ∧ ready.ntripAnswer ⟨false, false, [], [], []⟩ = (400, none) ∧ ready.ntripAnswer ⟨true, true, [], [], []⟩ = (200, none) := by
  and_intros <;> decide

def cFix (slot mode : Nat) : Cmd := cmd [word (slot + 2 ^ 8 * mode + 2 ^ 17 * 10 + 2 ^ 24 * 30), 0x01F400FA, 20]
/-- Slot 0 permitted by the newest beacon. -/
def permitted : Dev := { ready with bgl := { beacons := [some 1] } }
def floatIn : FilterIn := {
  e := 0, n := 0, u := 0, ve := 0, vn := 0, vu := 0, sdH := 1, sdV := 1, sigE := 1, sigN := 1, sigU := 1, rhoEn := 0, nsat := 8
  ddCode := 8, ddPhase := 8, inRange := true, namb := 4, readyUs := 1000 }
/-- Slot 0 is CENTRAL and has accepted observations for the instant of epoch 5, which the reference supplies. -/
def fixing : Dev := { ready with
  fix := { slots := [(0, { mode := 1, obsFor := some 5, filter := true })], inst := some (5, 0), refFor := some 5 } }
/-- The same after the filter has run: a search waits. -/
def searching : Dev := { ready with
  fix := { slots := [(0, { mode := 1, obsFor := some 5, float := some floatIn })], inst := some (5, 0), refFor := some 5
           searchQ := [(0, 5)] } }

theorem wit_PositioningCommandsRun :
    (ready.accepts .fixCfg (cFix 0 0) = true ∧ argF (cFix 0 0) 0 8 2 = (ready.fslot 0).mode
      ∧ (ready.fixSet (cFix 0 0) true).searchFits = true)
    ∧ (ready.accepts .fixCfg (cFix 95 1) = true ∧ 95 < ready.nSlots ∧ argF (cFix 95 1) 0 8 2 ≠ (ready.fslot 95).mode
      ∧ ready.bitInForce 95 = false ∧ (ready.fixSet (cFix 95 1) true).searchFits = true)
    ∧ (permitted.accepts .fixCfg (cFix 0 2) = true ∧ argF (cFix 0 2) 0 8 2 ≠ (permitted.fslot 0).mode
      ∧ permitted.bitInForce 0 = true)
    ∧ (fixing.accepts .fixGlobalCfg (cmd [400 + 2 ^ 10 * 9, 300 + 2 ^ 16 * 1000]) = true ∧ fixing.central = [0] ∧ 4 ≤ fixing.lanesN)
    ∧ ready.accepts .fixReset (cmd [95]) = true
    ∧ (ready.accepts .fixStatus (cmd [0x05F]) = true ∧ ready.accepts .fixStatus (cmd [0x15F]) = true
      ∧ ready.accepts .fixStatus (cmd [0x25F]) = true)
    ∧ (ready.accepts .fixRead (cmd [0, 0, 0, 16]) = true)
    ∧ ready.accepts .brmStatus (cmd []) = true := by
  and_intros <;> decide

def running : Dev := { ready with tbs := { en := true } }
/-- Six GPS satellites tracked on lane 0 at the instant of epoch 5, and their records. -/
def inst5 : MeasInst := { full := 5, tai := 0, timeValid := true, gap := false, stepped := false, interf := false
                          chans := [1, 2, 3, 4, 5, 6].map fun k => (k, { st := .track, sat := k }) }
def rec5 (k : Nat) : MeasRec := {
  chan := k, cn0 := 200, prValid := true, cpValid := true, halfRes := true, slipDetected := false, pilot := false, pr := 0, cp := 0
  dop := 0, notch := false, elev := 45, residual := 0, roughInt := 0, roughMod := 0, finePr := 0, finePh := 0 }
/-- A block ready 25 ms after its instant. -/
def blk : MeasIn := {
  recs := [1, 2, 3, 4, 5, 6].map rec5, readyUs := 25000, clock := some (0, 0), biasSigmaNs := 10, spp := none, meanErrMm := 0
  posDevMm := 0, baseline := none }
/-- The instant has been taken and its block is awaited. -/
def measuring : Dev := { ready with
  tbs := { en := true, syncSeen := true }
  gnss := { inst := some inst5, lanes := [(0, { l1 with en := true, coherent := true })] }
  ref := { arpSt := .held, level := 1 } }

theorem wit_PositioningEvents :
    (running.measDue = true ∧ running.gnss.inst = none)
    ∧ (measuring.gnss.inst = some inst5 ∧ blk.readyUs ≤ 25000
      ∧ (((measuring.advanceTo (inst5.tai + blk.readyUs * usU)).blockReady inst5 blk).refBlock inst5 blk).ref.level = 0)
    ∧ (fixing.fix.inst = some (5, 0))
    ∧ ((fixing.fslot 0).mode = 1 ∧ (fixing.fslot 0).obsFor = some 5 ∧ fixing.fix.refFor = some 5 ∧ (fixing.fslot 0).hostRec = none
      ∧ (fixing.fslot 0).float = none ∧ 4 ≤ floatIn.namb)
    ∧ (searching.fix.searchQ = [(0, 5)] ∧ (searching.fslot 0).float = some floatIn ∧ searching.fix.inst = some (5, 0)) := by
  and_intros <;> decide

/-! ### Witnesses: chapter 06 -/

/-- A grid of 1,024 by 1,024 tiles with its corner at the origin. -/
def grid0 : Grid := { log2 := 0, ni := 1024, nj := 1024, e0 := 0, n0 := 0 }
def field : Dev := { ready with orc := { grid := some grid0 } }
/-- A point request of machine slot 0 at tile (0, 0), from the first unit to the horizon. -/
def cPoint : Cmd := cmd [0xFFFF0100, 0, 65535, 0, 500, 500, 0, 0, 0, 0, 0, 0, 0, 0, 0]
def other : Interval := { i := 0, j := 0, holder := 1, grant := 7, tStart := 0, tEnd := 100 }
def zoned : Interval := { i := 0, j := 0, holder := 200, grant := 8, tStart := 0, tEnd := 100 }
/-- Slot 1 holds the tile. -/
def taken : Dev := { ready with orc := { grid := some grid0, store := [other] } }
def jobOf (d : Dev) (c : Cmd) : OrcJob := match d.orcCheck (orcParse c) with
  | .ok b => b
  | .error _ => { req := orcParse c, ts := 0, te := 0, clipped := false, tiles := [] }
/-- Slot 0 is frozen, ACTIVE and known; slot 1 moves. -/
def frozen : Dev := { ready with
  orc := { grid := some grid0, froz := [(0, { frozen := true })] }
  prf := { ch := [(1, { en := true, st := .run, v := 1000 })] } }

theorem wit_OrchardCommandsRun_config :
    (ready.accepts .orcGridCfg (cmd [4 + 2 ^ 3 * 1023 + 2 ^ 13 * 1023, 0, 0]) = true ∧ ready.orc.store = [])
    ∧ ready.accepts .orcGlobalCfg (cmd [100 + 2 ^ 8 * 10000]) = true
    ∧ (ready.accepts .orcSlotCfg (cmd [95 + 2 ^ 16 * 100, 1]) = true ∧ ready.moving 95 = false)
    ∧ (frozen.accepts .orcSlotCfg (cmd [1 + 2 ^ 16 * 100, 1]) = true ∧ frozen.moving 1 = true)
    ∧ (field.accepts .orcZoneCfg (cmd [255 + 2 ^ 8 * 2]) = true ∧ field.zoneType 255 ≠ 2
      ∧ (field.orc.store.any fun x => x.holder == 255) = false) := by
  and_intros <;> decide

theorem wit_OrchardCommandsRun_requests :
    (field.accepts .orcRequest cPoint = true ∧ okOf (field.orcCheck (orcParse cPoint)) = some (jobOf field cPoint) ∧ (orcParse cPoint).replaces = none
      ∧ (orcParse cPoint).force = false ∧ field.firstConflict (jobOf field cPoint) = none ∧ field.orcRoom (jobOf field cPoint) = none
      ∧ (jobOf field cPoint).tiles ≠ [])
    ∧ (taken.accepts .orcRequest cPoint = true ∧ okOf (taken.orcCheck (orcParse cPoint)) = some (jobOf taken cPoint) ∧ taken.firstConflict (jobOf taken cPoint) = some other)
    ∧ (field.accepts .orcRelease (cmd [0xFFFF00C0]) = true ∧ (field.froz 192).frozen = false)
    ∧ (({ field with orc := { field.orc with store := [zoned] } } : Dev).accepts .orcRelease (cmd [200 + 2 ^ 16 * 8]) = true
      ∧ (({ field with orc := { field.orc with store := [zoned] } } : Dev).grantsOf 200).contains 8 = true)
    ∧ (frozen.accepts .orcReleaseFrozen (cmd [0]) = true ∧ frozen.holderOk 0 = true ∧ (frozen.froz 0).frozen = true)
    ∧ (field.accepts .orcTileRead (cmd [1023 + 2 ^ 10 * 1023, 0, 0, 16]) = true ∧ field.orc.grid = some grid0)
    ∧ field.accepts .orcStatus (cmd []) = true := by
  and_intros <;> decide

theorem wit_OrchardEvents :
    field.auditFail = none
    ∧ ({ taken with orc := { taken.orc with store := [other, { other with holder := 2 }] }, bgl := { up := true } } : Dev).auditFail
      ≠ none := by
  and_intros <;> decide

/-- The granted request answers SUCCESS, so the premise of GrantsMeetNoConflict can hold. -/
theorem wit_GrantsMeetNoConflict : (field.command .orcRequest cPoint).reply.code = .success := by decide

/-! ### Witnesses: chapter 07 -/

/-- A straight track of two points one metre apart. -/
def line : Track := { spacing := 1000, pts := [⟨0, 0, 0, 0⟩, ⟨0, 1000, 0, 0⟩] }
def seg0 : Seg := {
  track := 1, seg := 1, rev := false, dwell := 0, sta0 := 0, sta1 := 1000, vCap := 1000, accel := 500, decel := 500, jerk := 1000
  eff := 0, rising := true }
/-- Channel 0 enabled and empty, channel 1 at rest on its head, channel 2 moving, channel 3 full, channel 4 stopped for lag;
tracks 1 and 2 are loaded. -/
def fleet : Dev := { ready with prf := {
  ch := [(0, { en := true, st := .idle }), (1, { en := true, st := .hold, queue := [seg0], everHeld := true }),
    (2, { en := true, st := .run, v := 1000 }), (3, { en := true, st := .run, queue := List.replicate 16 { seg0 with track := 3 } }),
    (4, { en := true, st := .stopping, lag := true, lagCause := 1 })]
  tracks := [(1, line), (2, line)] } }
def cChan (k : Nat) : Cmd := cmd [word (k + 2 ^ 16 * 100), 0x01F40032, 0x01F407D0, 0x006407D0]
def cPush : Cmd := cmd [0x00010000, 1, 0, 1000, 0x01F403E8, 0x03E801F4]
def points : List Byte := leBytes 4 0 ++ leBytes 4 0 ++ leBytes 4 0 ++ leBytes 4 0
  ++ leBytes 4 0 ++ leBytes 4 1000 ++ leBytes 4 0 ++ leBytes 4 0
def image : List Byte := leBytes 4 (1 + 2 ^ 16 * 9) ++ leBytes 4 2 ++ leBytes 4 1000 ++ leBytes 4 (crc32c points) ++ points
def cLoad : Cmd := { cmd [9, 0, 1, 48] with data := image }

theorem wit_ProfileCommandsRun_channels :
    (ready.accepts .prfChanCfg (cChan 95) = true ∧ argF (cChan 95) 2 16 16 ≤ argF (cChan 95) 1 16 16
      ∧ argF (cChan 95) 3 0 16 ≤ argF (cChan 95) 2 0 16 ∧ argB (cChan 95) 0 8 = (ready.pch 95).en ∧ (ready.pch 95).v = 0
      ∧ ready.moving 95 = false ∧ argF (cChan 95) 0 16 16 ≠ (ready.pch 95).aLat)
    ∧ (fleet.accepts .prfChanCfg (cChan (2 + 256)) = true ∧ argB (cChan (2 + 256)) 0 8 = (fleet.pch 2).en
      ∧ argF (cChan (2 + 256)) 1 0 16 ≠ (fleet.pch 2).accelCap ∧ fleet.moving 2 = true)
    ∧ fleet.accepts .prfLagCfg (cmd [95 + 2 ^ 8 * 100 + 2 ^ 21 * 100, 2 ^ 10 * 100]) = true := by
  and_intros <;> decide

theorem wit_ProfileCommandsRun_segments :
    (fleet.accepts .prfSegPush cPush = true ∧ (fleet.pch 0).st ≠ .off ∧ (fleet.pch 0).queue = [] ∧ (fleet.pch 0).everHeld = false
      ∧ (fleet.track 1).loaded = true ∧ (arg cPush 2).toNat ≤ line.len ∧ (arg cPush 3).toNat = line.len ∧ argB cPush 0 8 = false)
    ∧ (fleet.accepts .prfSegPush (cmd [0x00010003, 1, 0, 1000, 0x01F403E8, 0x03E801F4]) = true ∧ (fleet.pch 3).queue.length = 16)
    ∧ (fleet.accepts .prfFlush (cmd [1]) = true ∧ (fleet.pch 1).st ≠ .off ∧ (fleet.pch 1).queue = [seg0] ∧ (fleet.pch 1).v = 0)
    ∧ (fleet.accepts .prfRetarget (cmd [1, 1000]) = true ∧ 1000 ≤ (fleet.track 1).len ∧ 1000 ≤ seg0.sta1
      ∧ seg0.sta0 + ((fleet.pch 1).stopPos - (fleet.pch 1).entry) / 2 ^ 32 ≤ 1000)
    ∧ (fleet.accepts .prfRetarget (cmd [0, 1000]) = true ∧ (fleet.pch 0).queue = [])
    ∧ fleet.accepts .prfDecel (cmd [2 ^ 8 * 10000]) = true
    ∧ (fleet.accepts .prfClear (cmd [4]) = true ∧ (fleet.pch 4).lag = true ∧ fleet.moving 4 = false)
    ∧ fleet.accepts .prfStatus (cmd [95]) = true := by
  and_intros <;> decide

theorem wit_ProfileCommandsRun_tracks :
    (fleet.accepts .trkLoad cLoad = true
      ∧ okOf (trkOf (fleet.withArea .trkLoad cLoad)) = some line
      ∧ fleet.trkUsed 9 = 0 ∧ fleet.trkRoom (fun x => x == 9) 2 = true)
    ∧ (fleet.accepts .trkDelete (cmd [2]) = true ∧ fleet.trkUsed 2 = 0 ∧ (fleet.track 2).loaded = true)
    ∧ (fleet.accepts .trkDelete (cmd [1]) = true ∧ 0 < fleet.trkUsed 1)
    ∧ (fleet.accepts .trkInfo (cmd [1]) = true ∧ (fleet.track 1).loaded = true) := by
  and_intros <;> decide

/-! ### Witnesses: chapter 08 -/

/-- Bugle is up; a fleet stop by command stands, and slot 0 is stopped for lag. -/
def stopped : Dev := { ready with bgl := { up := true, stops := [⟨2, true, 0⟩, ⟨3, false, 1⟩] } }
/-- A fleet stop of cause ISLAND, which only a reset ends. -/
def islandStop : Dev := { ready with bgl := { up := true, stops := [⟨7, true, 0⟩] } }
/-- DEPLOYED, chains built, nothing in force. -/
def deployed : Dev := { ready with
  bgl := { up := true, goBuilt := true, stopBuilt := true, goBase := 0 }, sec := { lc := 2, slots := [(2, { full := true })] } }

/-- Slot 4 lags and its stop stands. -/
def lagStop : Dev := { ready with prf := fleet.prf, bgl := { up := true, stops := [⟨3, false, 16⟩] } }
def cSlot4 : Cmd := cmd [0, 16, 0, 0, 0, 0, 0]

theorem wit_BugleCommandsRun :
    (stopped.accepts .bglStop (cmd [1, 0, 0, 0, 0, 0, 0]) = true ∧ (slotMask (cmd [1, 0, 0, 0, 0, 0, 0])).toNat < 2 ^ stopped.nSlots)
    ∧ (stopped.accepts .bglRelease (cmd [1, 0, 0, 0, 0, 0, 0]) = true
      ∧ stopped.bgl.stops.filter (namedStop true 0) ≠ []
      ∧ (stopped.bgl.stops.all fun x => !namedStop true 0 x || (decide (x.cause < 6) && stopped.releaseOk x 0)) = true)
    ∧ (lagStop.accepts .bglRelease cSlot4 = true ∧ slotMask cSlot4 = 16 ∧ namedStop false 16 ⟨3, false, 16⟩ = true
      ∧ lagStop.releaseOk ⟨3, false, 16⟩ 16 = false)
    ∧ (islandStop.accepts .bglRelease (cmd [1, 0, 0, 0, 0, 0, 0]) = true ∧ islandStop.releaseOk ⟨7, true, 0⟩ 0 = true)
    ∧ (deployed.accepts .bglEnable (cmd []) = true ∧ deployed.bgl.stops = [] ∧ deployed.sec.lc = 2 ∧ deployed.bgl.testRoot = false
      ∧ deployed.sec.debug = false)
    ∧ (stopped.accepts .bglEnable (cmd []) = true)
    ∧ (ready.accepts .bglDisable (cmd []) = true)
    ∧ (deployed.accepts .bglAnchorRead (cmd [1, 0, 0, 136]) = true ∧ deployed.anchorOf true false = some (0, 0)) := by
  and_intros <;> decide

/-- Both chains under way; port 0 awaits the confirmation of a burst, port 1 has missed twice. -/
def building : Dev := { ready with
  bgl := { goBusy := true, stopBusy := true, pinA := true, pinB := false, bothStop := true
           ports := [(0, { waiting := true }), (1, { waiting := true, miss := 2 })] }
  sec := { slots := [(2, { full := true })] } }

theorem wit_BugleEvents :
    (building.sec.testFail = false ∧ (building.kslot 2).full = true ∧ building.bgl.goBusy = true ∧ building.bgl.stopBusy = true)
    ∧ (({ deployed with gen := { deployed.gen with epochFull := 2 ^ 24 - 1 - 6048000 } } : Dev).bgl.goBuilt = true)
    ∧ ((building.bport 0).waiting = true ∧ (building.bport 0).fault = false ∧ 2 ≤ (building.bport 1).miss)
    ∧ stopped.bgl.up = true
    ∧ (building.bgl.pinA = true ∧ building.bgl.bothStop = true)
    ∧ building.bgl.pinA ≠ building.bgl.pinB
    ∧ building.bgl.cycleRec = none := by
  and_intros <;> decide

/-- A sampling under every condition of R238 but a heartbeat, for epoch 1. -/
def live : Dev := { ready with
  tbs := { en := true, syncSeen := true }
  bgl := { up := true, enable := true, pinA := true, pinB := true, goBuilt := true, stopBuilt := true, hb := some 1 }
  ref := { arpSt := .held, level := 0 }
  orc := { grid := some grid0 }
  sec := { lc := 2, slots := [(2, { full := true })] } }
theorem wit_TokensNeedEveryCondition : live.bgl.roll = false ∧ (live.goConds 1).all id = true := by
  and_intros <;> decide
theorem wit_TokensNeedEveryCondition_token : (live.sampling 1).bgl.token ≠ [] := by decide
theorem wit_ThreeLostHeartbeatsStop :
    live.bgl.up = true ∧ live.bgl.hb = some (epoch32 1) ∧ live.bgl.hb ≠ some (epoch32 2)
    ∧ ({ live with bgl := { live.bgl with hbFail := 2 } } : Dev).bgl.hbFail = 2 := by
  and_intros <;> decide
theorem wit_GoActiveMeansToken : (∃ b ∈ permitted.bgl.beacons.take 4, b.isSome = true) ∧ permitted.goActive = true := by
  and_intros <;> decide
theorem wit_BurstsNeedAStop : ready.bgl.stops = [] ∧ ready.bgl.up = false := by and_intros <;> decide

/-! ### Witnesses: chapter 09 -/

/-- A port of 4 bits/µs with short preambles, present. -/
def port4 : RPort := { present := true, rate4 := true, shr := 40, tStart := 20 }
/-- Port 0 enabled, port 1 present; slot 0 ACTIVE, slot 1 BOUND, slot 2 moving; partner 0 of port 0 configured and SYNCED. -/
def radio : Dev := { ready with
  rad := {
    ports := [(0, { port4 with en := true }), (1, port4)]
    slots := [(0, { st := .active }), (1, { st := .bound }), (2, { st := .active })]
    partners := [(0, { st := .synced, pslot := 37, period := 10 })] }
  prf := { ch := [(2, { en := true, st := .run, v := 1000 })] }
  tbs := { en := true, winEnded := true }
  gen := { phase := .ready, slot := 1 } }
def cPort : Cmd := cmd [3 + 8 + 16 + 2 ^ 6 * 40 + 2 ^ 13 * 20 + 2 ^ 21 * 15 + 2 ^ 25 * 50, 0, 0]
def cScript : Cmd := { cmd [1, 0, 1, 12] with data := [1, 1, 0, 0, 0, 0, 0, 0, 2, 0, 0, 0] }
def cPartner : Cmd := cmd [1 + 2 ^ 3 * 63 + 2 ^ 9 + 2 ^ 10 * 37, 0, 0, 10 + 2 ^ 16 * 9]
def cApp (slot : Nat) : Cmd := { cmd [word slot, 0, 1, 1000] with data := [1] }

theorem wit_RadioCommandsRun_config :
    (ready.accepts .radGlobalCfg (cmd [0xFFFF]) = true ∧ ready.portsOff = true)
    ∧ (radio.accepts .radGlobalCfg (cmd [1]) = true ∧ radio.portsOff = false ∧ radio.rad.pan ≠ BitVec.ofNat 16 1)
    ∧ (ready.accepts .radPortCfg cPort = true ∧ (ready.rport 3).en = false ∧ 3 < ready.nPorts
      ∧ ((20 + 40) * port4.rate + port4.phr + 8 * 35 ≤ 190 * port4.rate) ∧ 94 + ready.fragBytes ≤ port4.beaconRoom)
    ∧ (radio.accepts .radScriptLoad cScript = true ∧ (radio.rport 1).en = false
      ∧ ((scriptSteps 1 ((fitTo 12 (radio.withArea .radScriptLoad cScript).data).drop 8)).map List.length = some 1))
    ∧ (radio.accepts .radPortEn (cmd [9]) = true ∧ (radio.rport 1).present = true ∧ (radio.rport 1).en = false
      ∧ 94 + radio.fragBytes ≤ (radio.rport 1).beaconRoom)
    ∧ (radio.accepts .radSlotCfg (cmd [0x00010117, 0, 0]) = true ∧ (radio.rport (portOf 23)).present = true
      ∧ radio.moving 23 = false ∧ argB (cmd [0x00010117, 0, 0]) 0 8 = true)
    ∧ (radio.accepts .radDeregister (cmd [1]) = true ∧ radio.moving 1 = false ∧ (radio.rslot 1).st ≠ .unbound)
    ∧ (radio.accepts .radDeregister (cmd [2]) = true ∧ radio.moving 2 = true)
    ∧ (radio.accepts .radPartnerCfg cPartner = true ∧ 25 + (radio.rport 1).dlSlots = argF cPartner 0 10 6
      ∧ ((List.range 64).all fun j => (radio.partner (partnerKey 1 j)).st == .none) = true)
    ∧ (ready.accepts .radRoleCfg (cmd [1, 100000]) = true ∧ ready.rad.follower = false) := by
  and_intros <;> decide

theorem wit_RadioCommandsRun_sends :
    (radio.accepts .radAppSend (cApp 0) = true ∧ (radio.rslot 0).st = .active ∧ radio.appCount 0 < 32)
    ∧ (radio.accepts .radAppSend (cApp 1) = true ∧ (radio.rslot 1).st = .bound)
    ∧ radio.accepts .radRawSel (cmd [3 + 8 * 2]) = true
    ∧ (radio.accepts .radStatus (cmd [3]) = true ∧ radio.accepts .radStatus (cmd [0x103]) = true)
    ∧ radio.accepts .radSlotStatus (cmd [95]) = true
    ∧ (radio.accepts .radPartnerStatus (cmd [0]) = true ∧ (radio.partner (partnerKey 0 0)).st ≠ .none) := by
  and_intros <;> decide

def dl0 : DlFrame := { dst := 0x100, air := 1, at_ := 300, len := 50, conts := [] }
/-- A frame awaits its acknowledgement on port 0, one is planned on port 1, and the raw queues hold an item. -/
def sending : Dev := { radio with rad := { radio.rad with ports := [
  (0, { port4 with en := true, awaiting := some dl0, rxq := { depth := 1024, items := [.data { header := true } true] }
                   txts := { depth := 256, items := [.data { kind := 3, dst := 0x100 } true] } }),
  (1, { port4 with en := true, plan := [dl0] })] } }
/-- A follower on port 0 that hears its second beacon. -/
def follower : Dev := { radio with
  rad := { radio.rad with follower := true, goodBeacons := 1 }
  gen := { phase := .ready, slot := 0 } }

theorem wit_RadioEvents :
    ((sending.rport 0).rxq.items = [.data { header := true } true]
      ∧ (sending.rport 0).txts.items = [.data { kind := 3, dst := 0x100 } true])
    ∧ (radio.serves 0 = true ∧ (radio.rport 0).rawSel = 0)
    ∧ (sending.serves 0 = true ∧ (sending.rport 0).awaiting = some dl0)
    ∧ rxOk.src ≠ 0
    ∧ ((radio.partner (partnerKey 0 0)).st ≠ .none ∧ 0 < (radio.partner (partnerKey 0 0)).period
      ∧ radio.gen.epochFull % (radio.partner (partnerKey 0 0)).period = (radio.partner (partnerKey 0 0)).phase
      ∧ (radio.partner (partnerKey 0 0)).lastWake ≠ some radio.gen.epochFull)
    ∧ (({ st := .synced, window := some (0, 100, 25000), misses := 2 } : Partner).misses < 3)
    ∧ (radio.tbs.en = true ∧ radio.rad.planFor ≠ some radio.gen.epochFull)
    ∧ ((sending.rport 1).plan = [dl0] ∧ sending.airLive 1 = true ∧ sending.serves 1 = true ∧ dl0.air = sending.gen.slot
      ∧ (sending.rport 1).awaiting = none)
    ∧ (follower.airLive follower.rad.followPort = true ∧ follower.rad.heard = false ∧ follower.tbs.steer ≠ 1)
    ∧ (({ follower with rad := { follower.rad with missedBeacons := 3 } } : Dev).rad.holdover = false) := by
  and_intros <;> decide

/-- A frame of slot 0 in the first uplink slot, on time, with one APP container. -/
def up0 : RxFrame := { rxOk with tsNs := 240000, payload := [0x22, 0x30, 1, 0, 0xAA] }
theorem wit_UplinkChecksInOrder :
    radio.openPartner 0 = none ∧ 24 * 0 + radio.gen.slot - 1 = 0 ∧ radio.inUplinkWindow 0 up0.tsNs = true
    ∧ radio.inUplinkWindow 0 239999 = false ∧ radio.inUplinkWindow 0 285000 = true ∧ radio.inUplinkWindow 0 285001 = false
    ∧ up0.src.toNat = slotAddr 0 ∧ (radio.rslot 0).st ≠ .unbound ∧ (radio.rslot 0).rxMark < up0.counter
    ∧ (radio.acceptable true 0 up0.payload).isSome = true ∧ radio.acceptable true 0 [] = none := by
  and_intros <;> decide

/-! ### Witnesses: chapter 10 -/

def mac1 : BitVec 48 := 0x020000000001
def entry1 : L2 := { mac := mac1, vid := 1, mask := 4 }
def defRoute : Route := { pfx := 0, plen := 0, vid := 0, nh := 0 }
def net10 : Route := { pfx := 0x0A000000, plen := 8, vid := 0, nh := 0 }
/-- Port 0 enabled and up, port 2 enabled; an entry, a walk, a next hop and two routes; port 1 has learned a notice. -/
def switch : Dev := { ready with sw := { (ready.l2Set ((l2Cands mac1 1).headD 0) (some entry1)).sw with
  ports := [(0, { en := true, link := true, fallback := true }), (2, { en := true, mode := 2 })]
  walks := [(1, some {})], nhs := [(0, some { port := 2, vid := 1, mac := mac1 })], tcam := [net10, defRoute]
  notices := [(2, 1, 3)], vlans := [] } }
/-- The same with an empty table, an open walk, a flush of a command under way and a held insertion. -/
def flushing : Dev := { ready with sw := {
  ports := [(1, { en := true, fallback := true })], walks := [(1, some {})]
  flushQ := [{ port := 0, static := false, vid := none, cmd := some (.mbx 0, 7) }] } }
def cPortCfg (p : Nat) : Cmd := cmd [word (p + 2 ^ 21 * 526), 1, 0, 0]
def cQos (q : Nat) : Cmd := cmd [0, 1 + 2 ^ 7 + 2 ^ 14 + 2 ^ 21, word (1 + 2 ^ 7 + 2 ^ 16 * 16), word (q + 2 ^ 16), 0, 0]

/-- Port 0 pauses all eight priorities. -/
def pfc : Dev := { ready with sw := { ports := [(0, { fc := 2, pfcMask := 0xFF })] } }

theorem wit_SwitchCommandsRun_ports :
    (ready.accepts .swPortCfg (cPortCfg 1) = true ∧ (ready.eport 1).en = false ∧ argF (cPortCfg 1) 0 3 2 < 2
      ∧ portCfg (cPortCfg 1) (ready.eport 1) ≠ ready.eport 1)
    ∧ (switch.accepts .swPortCfg (cPortCfg 0) = true ∧ (switch.eport 0).en = true
      ∧ portCfg (cPortCfg 0) (switch.eport 0) ≠ switch.eport 0)
    ∧ (ready.accepts .swPortEn (cmd [13]) = true ∧ ready.accepts .swPortEn (cmd [5]) = true)
    ∧ ready.accepts .swGlobalCfg (cmd [4094 + 2 ^ 12 * 1000000, 0]) = true
    ∧ ready.accepts .swVlanCfg (cmd [4094, 0]) = true
    ∧ (ready.accepts .swQosCfg (cQos 0) = true ∧ argB (cQos 0) 0 31 = false)
    ∧ 8192 ≤ sharedCells (ready.eportMod 0 fun e => { e with headroom := 0 }).eports
    ∧ (pfc.accepts .swQosCfg (cQos 16383) = true
      ∧ sharedCells (pfc.eportMod 0 fun e => { e with headroom := 16383, qlimit := 16, xoffCells := 1 }).eports < 8192) := by
  and_intros <;> decide

theorem wit_SwitchCommandsRun_tables :
    (switch.accepts .swL2Add (cmd [0x00000001, 0x00010200, 4]) = true ∧ switch.accepts .swL2Add (cmd [2, 0x00010200, 4]) = true)
    ∧ switch.l2Find mac1 1 = some ((l2Cands mac1 1).headD 0, entry1)
    ∧ (switch.l2Find 2 1 = none ∧ ((l2Cands 2 1).find? fun n => (switch.l2At n).isNone).isSome = true)
    ∧ (switch.accepts .swL2Del (cmd [0x00000001, 0x00010200]) = true ∧ switch.accepts .swL2Del (cmd [2, 0x00010000]) = true)
    ∧ (switch.accepts .swL2Search (cmd [4095]) = true
      ∧ ((List.range 4).find? fun h => (tget none switch.sw.walks h).isNone) = some 0)
    ∧ (flushing.accepts .swL2Next (cmd [1, 0, 0, 16]) = true ∧ tget none flushing.sw.walks 1 = some {} ∧ flushing.sw.l2 = [])
    ∧ (flushing.accepts .swL2Next (cmd [3, 0, 0, 16]) = true ∧ tget none flushing.sw.walks 3 = none)
    ∧ ready.accepts .swFlushByPort (cmd [7]) = true
    ∧ (ready.accepts .swRifCfg (cmd [4094, 0, 0]) = true ∧ ready.sw.rifs.length < 16)
    ∧ ready.accepts .swNhSet (cmd [1023 + 2 ^ 10 * 7 + 2 ^ 13 * 4094, 0, 0]) = true := by
  and_intros <;> decide

theorem wit_SwitchCommandsRun_routes :
    (switch.accepts .swRouteAdd (cmd [0x0A010000, 16]) = true ∧ (tget none switch.sw.nhs 0).isSome = true
      ∧ switch.routeFind 0x0A010000 16 0 = none ∧ switch.sw.tcam.length < 4096)
    ∧ (switch.accepts .swRouteAdd (cmd [0, 2 ^ 18]) = true ∧ tget none switch.sw.nhs 1 = none)
    ∧ (switch.accepts .swRouteDel (cmd [0x0A000000, 8]) = true ∧ switch.routeFind 0x0A000000 8 0 = some 0 ∧ switch.sw.tcam[0]? = some net10)
    ∧ (({ ready with sec := { slots := [(63, { full := true, dest := 2 })] } } : Dev).accepts .swMacsecSa
        (cmd [1 + 2 ^ 7 + 2 ^ 8 * 63, 0, 0, 1]) = true
      ∧ (({ ready with sec := { slots := [(63, { full := true, dest := 2 })] } } : Dev).kslot 63).dest.getLsbD 1 = true)
    ∧ (ready.accepts .swMacsecSa (cmd [1 + 2 ^ 7, 0, 0, 1]) = true ∧ (ready.kslot 0).dest.getLsbD 1 = false)
    ∧ ready.accepts .swMacsecSa (cmd [0, 0, 0, 0]) = true
    ∧ (ready.accepts .swDigestRead (cmd [1, 0, 0, 8]) = true ∧ ready.accepts .swBlockRead (cmd [1 + 2 * 63, 0, 0, 16]) = true)
    ∧ (ready.accepts .swStatus (cmd [7]) = true ∧ argF (cmd [7]) 0 8 2 = 0) := by
  and_intros <;> decide

theorem wit_SwitchEvents :
    (switch.portUp 0 = true ∧ ({ ethOk with len := 63 } : EthFrame).len < 64)
    ∧ ((switch.eport 2).en = true ∧ switch.blw.st ≠ .night ∧ switch.blw.backup = false)
    ∧ ((flushing.eport 1).en = true ∧ (flushing.eport 1).fallback = true ∧ (flushing.eport 1).mode = 0 ∧ (flushing.eport 1).link = false)
    ∧ (switch.sw.notices = [(2, 1, 3)] ∧ switch.l2Find 2 1 = none)
    ∧ (∃ w, tget none flushing.sw.walks 1 = some w)
    ∧ (flushing.sw.flushQ = [{ port := 0, static := false, vid := none, cmd := some (.mbx 0, 7) }] ∧ flushing.sw.l2 = [])
 := by
  refine ⟨?_, ?_, ?_, ?_, ⟨_, rfl⟩, ?_⟩ <;> and_intros <;> decide
theorem wit_SwitchEvents_sweep : ∃ w : Word, w ≠ word (ready.digest true 63) := by
  generalize ready.digest true 63 = x
  exact ⟨word x + 1, by bv_omega⟩

theorem wit_RoutesStayInOrder : switch.sw.tcam.Pairwise (fun x y => y.plen ≤ x.plen) ∧ switch.sw.tcam[1]? = some defRoute := by
  and_intros <;> decide
theorem wit_LookupReturnsLongestPrefix : switch.lpm 0x0A000001 5 = some net10 ∧ switch.lpm 0x0B000001 5 = some defRoute := by
  and_intros <;> decide

/-! ### Witnesses: chapter 11 -/

def cPwrCfg : Cmd := cmd [2 ^ 2 * 500, 2 ^ 16 * 100 + 2 ^ 23 * 99, 2 ^ 16, 2 ^ 10]
def moving : Dev := { ready with prf := { ch := [(0, { en := true, st := .run, v := 1000 })] } }
/-- Bellows drives GPIO31 and reads a charger. -/
def gated : Dev := { ready with blw := { cfg := { gate := true, source := 2 }, critical := true } }
/-- In NIGHT with a wake at epoch 100; the calibration before a NIGHT at epoch 50 is due. -/
def night : Dev := { ready with blw := { st := .night, wakeAt := some 100 }, tbs := { en := true } }
def dusk : Dev := { ready with blw := { change := some ⟨.night, 50, none⟩ }, tbs := { en := true } }

theorem wit_PowerCommandsRun :
    (ready.accepts .pwrCfg cPwrCfg = true ∧ argF cPwrCfg 1 23 7 < argF cPwrCfg 1 16 7)
    ∧ (ready.accepts .pwrSet (cmd [2, 600, 610]) = true ∧ fullOf ready.gen.epochFull 600 = 600 ∧ ready.fleetActive = false
      ∧ ready.blw.change = none)
    ∧ ready.accepts .pwrSet (cmd [1, 2, 864002]) = true
    ∧ ready.accepts .pwrSet (cmd [0, 0, 0]) = true
    ∧ (moving.accepts .pwrSet (cmd [1, 2, 0xFFFFFFFF]) = true ∧ fullOf moving.gen.epochFull 2 = 2 ∧ moving.fleetActive = true)
    ∧ (ready.accepts .pwrWakeCfg (cmd [0xFFFF, 0xFFFFFFFF]) = true ∧ ready.blw.cfg.gate = false)
    ∧ (gated.accepts .pwrWakeCfg (cmd [0, 0x80000000]) = true ∧ gated.blw.cfg.gate = true)
    ∧ ready.accepts .schClassCfg (cmd [4 + 2 ^ 21 * 200, 17000]) = true
    ∧ ready.accepts .schStatus (cmd []) = true
    ∧ (ready.accepts .pwrStatus (cmd [0]) = true ∧ ready.accepts .pwrStatus (cmd [1]) = true) := by
  and_intros <;> decide

theorem wit_PowerEvents :
    (running.tbs.en = true ∧ running.tbs.resync = false)
    ∧ (gated.blw.critical = true ∧ gated.blw.cfg.source = 2)
    ∧ (dusk.blw.change = some ⟨.night, 50, none⟩ ∧ dusk.tbs.en = true)
    ∧ (night.wakeEpoch = some 100 ∧ night.blw.postponed < 100) := by
  and_intros <;> decide

def evIn : EventIn := { cls := 2, domain := 0, source := 0 }
def waiting : Dev := { ready with sch := { ents := [(5, some { cls := 2, domain := 0, source := 0, pool := 3, order := 0, at_ := 0, waiting := true })] } }
theorem wit_SchedulerEvents :
    (ready.domainOk 0 = true ∧ evIn.source.val ≠ 1 ∧ evIn.source.val ≠ 2 ∧ (ready.poolFor evIn.cls false).isSome = true)
    ∧ ready.domainOk 271 = false
    ∧ (∃ e, tget none waiting.sch.ents 5 = some e ∧ e.waiting = true)
    ∧ ready.coreFree 0 = true := by
  refine ⟨by and_intros <;> decide, by decide, ⟨_, rfl, rfl⟩, by decide⟩

/-! ### Witnesses: chapter 12 -/

def canTx : CanTx := {
  id := 1, ide := false, rtr := false, fd := false, brs := false, isb := false, data := [], path := .mbx 0, tag := 7 }
/-- CAN port 0 in service with a filter for every standard identifier and a frame to send; port 1 in BUS-OFF; port 2 on ISOBUS with
an alternate address left, port 3 with none left. -/
def buses : Dev := { ready with ifc := {
  can := [(0, { en := true, filts := [(0, { en := true, mask := 0 })], txq := [canTx] }), (1, { en := true, st := .busOff }),
    (2, { en := true, isb := true, addr := 10, alts := [11] }), (3, { en := true, isb := true, addr := 12, alts := [0xFF] })]
  smb := [(0, { q := [⟨.mbx 0, 7, 9, 0, 2, false, false, 0⟩] })]
  pins := [(30, { edge := 3 })]
  adcN := 1, adcPeriod := 100, adcSeq := [0] }, tbs := { en := true } }
def cCanPort : Cmd := cmd [3 + 4 + 2 ^ 4 * 90, 1000000, 0]
def cIsb : Cmd := cmd [1 + 4 + 2 ^ 3 * 128, 1, 0, 0xFFFFFFFF, 0xFFFFFFFF, 0]
def adcBlk : AdcBlk := { ts := 0, words := [0] }
def adcFull : Dev := { ready with ifc := { adcq := { depth := 1024, items := [.data adcBlk true] } } }

theorem wit_InterfaceCommandsRun_can :
    (ready.accepts .canPortCfg cCanPort = true ∧ argB cCanPort 0 2 = true ∧ argB cCanPort 0 3 = false ∧ (ready.can 3).en = false
      ∧ (ready.can 3).isb = false ∧ argF cCanPort 0 4 7 = 90 ∧ canRate (arg cCanPort 1).toNat = true)
    ∧ (buses.accepts .canPortCfg (cmd [0, 0, 0]) = true)
    ∧ ready.accepts .canFilter (cmd [3 + 2 ^ 2 * 31, 0, 0]) = true
    ∧ (buses.accepts .canSend (cmd [2 ^ 6 * 8, 1, 0, 0]) = true ∧ canLen false 8 = true ∧ (buses.can 0).st ≠ .busOff)
    ∧ (buses.accepts .canSend (cmd [1 + 4 + 2 ^ 6 * 64, 1, 0, 0]) = true ∧ canLen true 64 = true ∧ (buses.can 1).st = .busOff)
    ∧ (ready.accepts .canRead (cmd [3, 0, 1, 88]) = true ∧ ready.accepts .isbRead (cmd [3, 0, 1, 24]) = true
      ∧ ready.accepts .adcRead (cmd [0, 0, 1, 16]) = true ∧ (ready.can 3).rxq.items = [] ∧ (ready.can 3).isbq.items = []
      ∧ ready.ifc.adcq.items = [] ∧ ready.reads = [])
    ∧ (adcFull.accepts .adcRead (cmd [0, 0, 1, 18]) = true ∧ adcFull.ifc.adcq.items = [.data adcBlk true]
      ∧ 16 + 2 * adcBlk.words.length = 18)
    ∧ (ready.accepts .isbCfg cIsb = true ∧ (ready.can 1).en = false ∧ (ready.can 1).isb = false)
    ∧ (buses.accepts .isbSend (cmd [2, 0, 1, 1048576, 0]) = true ∧ (buses.can 2).isb = true ∧ (buses.can 2).addr ≠ 254)
    ∧ (ready.accepts .isbSend (cmd [0, 0, 1, 8, 0]) = true ∧ (ready.can 0).addr = 254) := by
  and_intros <;> decide

theorem wit_InterfaceCommandsRun_rest :
    ready.accepts .smbXfer (cmd [1 + 2 ^ 8 * 32 + 2 ^ 14 * 32, 0, 1, 0]) = true
    ∧ (ready.accepts .gpioCfg (cmd [0x80000000, 2]) = true ∧ ready.blw.cfg.gate = false)
    ∧ ready.accepts .gpioWrite (cmd [1, 2]) = true
    ∧ (ready.accepts .gpioWrite (cmd [3, 2]) = true ∧ arg (cmd [3, 2]) 0 &&& arg (cmd [3, 2]) 1 ≠ 0)
    ∧ ready.accepts .gpioRead (cmd []) = true
    ∧ (ready.accepts .adcCfg (cmd [16 + 2 ^ 5 * 1000000, 999984, 0, 0, 0, 0]) = true ∧ 1000000 % 100000 = 0)
    ∧ ready.accepts .uartCfg (cmd [3000000]) = true
    ∧ ready.accepts .ifStatus (cmd [1]) = true := by
  and_intros <;> decide

/-- A free running ring pair, a held message, a frame that waits for its timestamp, and a frame queued to HPF1. -/
def qf : QFrame := {
  cells := 1, src := 0, prio := 0, fromFleet := 0, fromHead := 0, fromShared := 1, fleet := false, secured := false, rxTs := 0
  came := 0, tsRing := none, frame := ethOk }
def rings : Dev := { ready with
  ifc := { nq := [(0, { en := true, stopped := false, tail := 1, held := true }),
      (1, { en := true, stopped := false, tsWait := some ⟨[64], 64, 0, 0, false⟩ }), (8, { en := true, stopped := false, tail := 1 })] }
  sw := { ports := [(0, { en := true, link := true, queues := [(0, [qf])] }), (6, { link := true, queues := [(0, [qf])] })]
          vlans := [(1, { en := true, members := 0x41 })] }
  gen := { phase := .ready, msixPba := [(3, true)] } }
def toE0 : EthFrame := { ethOk with da := 0xFFFFFFFFFFFF }

theorem wit_InterfaceEvents_rings :
    tget false rings.gen.msixPba 3 = true
    ∧ (rings.nq 0).held = true
    ∧ (wbits 1 4 10 ≤ 1000 ∧ wbit 1 0 = true ∧ (ready.nq 15).stopped = true ∧ (ready.nq 15).err = false
      ∧ 6 ≤ (ready.nq 15).log2 ∧ (ready.nq 15).log2 ≤ 12 ∧ ready.ifc.pcie = false ∧ wbit 0 0 = false)
    ∧ ((rings.nq 0).en = true ∧ (rings.nq 0).stopped = false ∧ (rings.nq 0).tsWait = none ∧ 1 ≤ (rings.nq 0).level
      ∧ (rings.classify 6 none { ethOk with tag := some (9, 0) }).2 = [] ∧ (rings.classify 6 none toE0).2 ≠ [])
    ∧ (rings.nq 1).tsWait = some ⟨[64], 64, 0, 0, false⟩
    ∧ ((rings.sendNext 0).2 = some qf ∧ qf.tsRing = none)
    ∧ (tget [] (rings.eport 6).queues 0 = [qf] ∧ (rings.nq 8).en = true ∧ rings.portUp 6 = true
      ∧ ethOk.len ≤ (([(0x1000, 256)].take (rings.nq 8).level).map Prod.snd).sum) := by
  and_intros <;> decide

/-- A frame that came tagged stands in the buffer as it arrived: addresses, tag, EtherType (R365). -/
theorem test_rx_bytes : (((rings.rxBacks 8 { qf with frame := { ethOk with tag := some (5, 3) } } 0 true 64 [(0x1000, 256)]).writes.head?.map
    fun w => (w.1, w.2.take 18, w.2.length)) =
    some (0x1000, [2, 0, 0, 0, 0, 1, 2, 0, 0, 0, 0, 2, 0x81, 0, 0x60, 5, 8, 0], 64)) := by decide
/-- 192 waiting frames make a port without flow control drop NET frames as LOOKUP, until 64 wait (R317). -/
theorem test_lookup_drop :
    (let d := (rings.classify 0 none { ethOk with lane := 192 }).1
     let d' := (d.classify 0 none { ethOk with lane := 65 }).1
     let d'' := (d'.classify 0 none { ethOk with lane := 64 }).1
     [tget 0 (d.eport 0).counts 10, tget 0 (d'.eport 0).counts 10, tget 0 (d''.eport 0).counts 10]) = [1, 2, 2] := by decide
theorem test_lookup_xoff :
    (let e := ({ fc := 2, pfcMask := 1 } : EPort).laneSet true
     (e.xoff, e.xoffSent, (e.laneSet false).xoff)) = (0xFF, 1, 0) := by decide
theorem test_ttl_down : ttlDown [0x45, 0, 0, 20, 0, 0, 0, 0, 64, 17, 0xFF, 0x80, 1] =
    [0x45, 0, 0, 20, 0, 0, 0, 0, 63, 17, 0, 0x81, 1] := by decide

theorem wit_InterfaceEvents_buses :
    (canFirst (buses.can 0).txq = some canTx ∧ (buses.can 0).en = true ∧ (buses.can 0).st ≠ .busOff)
    ∧ (((buses.can 0).filts.any fun x => x.2.takes { canBad with id := 1 }) = true
      ∧ ((buses.can 0).filts.any fun x => x.2.takes { canBad with ide := true }) = false ∧ buses.reads = [])
    ∧ ((buses.can 0).st = .active ∧ (buses.can 1).st = .busOff)
    ∧ (((buses.can 2).alts.filter fun a => a != 0xFF)[(buses.can 2).nextAlt]? = some 11)
    ∧ (((buses.can 3).alts.filter fun a => a != 0xFF)[(buses.can 3).nextAlt]? = none ∧ (buses.can 3).addr ≠ 254)
    ∧ (buses.smb 0).q ≠ []
    ∧ ((buses.pin 30).edge = 3 ∧ buses.blw.wakeGpio.getLsbD 30 = false ∧ buses.blw.wakeCap.getLsbD 15 = false)
    ∧ (buses.tbs.en = true ∧ buses.tbs.resync = false ∧ buses.ifc.adcN ≠ 0) := by
  and_intros <;> decide

/-! ### Witnesses: chapters 01, 13 and 14 -/

def opn (p : Nat) (l : List Staged) : Dev := { ready with txn := { ports := [(p, { st := .opened, id := 1, staged := l })] } }
def exp0 : Dev := { ready with txn := { ports := [(0, { st := .expired })] } }

theorem wit_TransactionCommandsRun :
    pathPort (Path.mbx 0) = 0
    ∧ ready.accepts .nop (cmd []) = true ∧ ready.accepts .genInfo (cmd []) = true
    ∧ (ready.accepts .txnBegin (cmd []) = true ∧ (ready.tport 0).st = .none)
    ∧ ((opn 0 []).accepts .txnBegin (cmd []) = true ∧ ((opn 0 []).tport 0).st = .opened)
    ∧ ((opn 0 []).accepts .txnRollback (cmd []) = true ∧ ready.accepts .txnRollback (cmd []) = true
      ∧ (exp0.accepts .txnRollback (cmd []) = true ∧ (exp0.tport 0).st = .expired))
    ∧ ((opn 0 []).accepts .txnCommit (cmd [2]) = true ∧ (arg (cmd [2]) 0 - (opn 0 []).epoch).toNat = 2
      ∧ (((opn 0 []).tport 0).staged.any fun y => (opn 0 []).locked y.op y.cmd) = false
      ∧ (match (opn 0 []).txnTests [] [] 2 with | .ok _ => true | .error _ => false) = true)
    ∧ ((opn 0 []).accepts .txnCommit (cmd [1]) = true ∧ (arg (cmd [1]) 0 - (opn 0 []).epoch).toNat < 2)
    ∧ ((opn 0 []).accepts .txnCommit (cmd [601]) = true ∧ 600 < (arg (cmd [601]) 0 - (opn 0 []).epoch).toNat)
    ∧ ((opn 0 []).accepts .txnStatus (cmd [0]) = true ∧ ready.accepts .txnStatus (cmd [4]) = true
      ∧ (ready.tport 4).st = .none ∧ ready.txn.committed = [])
    ∧ ready.accepts .mbxBindSet (secCmd [3]) = true
    ∧ (ready.accepts .cmdPathStatus (cmd [31]) = true ∧ argB (cmd [31]) 0 8 = false ∧ argB (cmd [31]) 0 9 = false)
    ∧ (ready.accepts .cmdPathStatus (cmd [0x30F]) = true ∧ argB (cmd [0x30F]) 0 8 = true ∧ argF (cmd [0x30F]) 0 0 5 = 15
      ∧ argB (cmd [0x30F]) 0 9 = true) := by
  and_intros <;> decide

/-- Channel 0: end A has posted, a NOP with tag 7. Channel 1: end A's message is taken. Channel 2: end A's is acknowledged. -/
def boxes : Dev := { ready with mbx := { ends := [
  (0, { full := true, msg := 0x70001 :: List.replicate 15 0, dueAt := some 5 }),
  (2, { full := true, taken := true, dueAt := some 5 }),
  (4, { full := true, taken := true, ack := 0x80000000 })] } }

theorem wit_MailboxEvents :
    (boxes.endOf 0 .hpf0 = some false ∧ boxes.endOf 0 .sup = some true ∧ boxes.endOf 31 .clu = some false ∧ boxes.endOf 0 .spih = none)
    ∧ ((boxes.mboxEnd 31 false).full = false ∧ (boxes.mboxEnd 0 false).full = true)
    ∧ (boxes.mboxEnd 31 (!true)).posted = false
    ∧ ((boxes.mboxEnd 0 (!true)).posted = true ∧ cmdChan 0 = true ∧ cmdChan 31 = false)
    ∧ (boxes.hears (.mbx 0) = true ∧ (boxes.poolFor (classOf (opOfCode (arrivalOf (.mbx 0) ((boxes.mboxEnd 0 false).msg.getD 0 0)
      ((boxes.mboxEnd 0 false).msg.drop 1) [] true).code)) true).isSome = true)
    ∧ ((boxes.mboxEnd 1 (!true)).held = true ∧ wbit 0x80070000 31 = true ∧ (boxes.mboxEnd 0 (!true)).held = false)
    ∧ (boxes.mboxEnd 2 false).done = true
    ∧ ((boxes.mboxEnd 0 false).dueAt = some 5 ∧ (boxes.mboxEnd 0 false).posted = true)
    ∧ ((boxes.mboxEnd 1 false).dueAt = some 5 ∧ (boxes.mboxEnd 1 false).posted = false) := by
  and_intros <;> decide

/-- Ring 15 enabled, one entry posted; tag 9 is in flight there. -/
def ring15 : Dev := { ready with
  ifc := { pcie := true }
  cr := { rings := [(15, { en := true, sqTail := 1, held := true, flight := [{ tag := 9, op := 1, idx := 0, dueAt := some 100 }] })] } }
def mgm : MgmtIn := {
  hpf1 := true, validated := false, onMgmtVid := true, version := 1, seq := 3, len := 4, header := 1, words := [], data := [], fwFault := none }
def rep : MgmtRep := { hpf1 := true, seq := 3, code := .success, tag := 0, words := [], at_ := 0 }
def served : Dev := { ready with
  sch := { ents := [(0, some { cls := 2, domain := 0, source := 0, pool := 3, order := 0, at_ := 0, core := some 0 }),
    (1, some { cls := 2, domain := 1, source := 2, pool := 3, order := 0, at_ := 0, core := some 1
               due := some { path := .mbx 0, tag := 7, code := .success, words := [], epoch := 0 } })] }
  asyncQ := [{ path := .mbx 0, tag := 7, op := .nop, code := .success, words := [] }] }

theorem wit_HostPathEvents :
    crc16 [1, 2] ≠ (0 : BitVec 16).toNat
    ∧ (ring15.ring 15).held = true
    ∧ ((ring15.ring 15).byTag 9).isSome = true
    ∧ (wbits 0x13887D1 1 10 = 1000 ∧ 10 ≤ wbits 0x13887D1 11 14 ∧ wbits 0x13887D1 11 14 ≤ 10000
      ∧ wbit 0x13887D1 0 = true ∧ (ready.ring 15).en = false ∧ (ready.ring 15).err = false)
    ∧ (1000 < wbits 0x13887D3 1 10 ∧ wbits 0x4FFF 11 14 < 10 ∧ 10000 < wbits 0x1388800 11 14)
    ∧ (wbit 0x13887D0 0 = false ∧ wbits 0x13887D0 1 10 ≤ 1000)
    ∧ (ring15.ring 15).en = true
    ∧ ((tget none served.sch.ents 0).isSome = true ∧ (tget none served.sch.ents 1).isSome = true)
    ∧ served.asyncQ.find? served.canDeliver = some { path := .mbx 0, tag := 7, op := .nop, code := .success, words := [] }
    ∧ ((ring15.ring 15).ready = true ∧ ring15.hears (.ring 15) = true ∧ ring15.ringRoom (ring15.ring 15) = true
      ∧ (ring15.ring 15).byTag 7 = none ∧ wbit (0x70001 : Word) 28 = false
      ∧ (ring15.poolFor (classOf (opOfCode 1)) true).isSome = true)
    ∧ (ready.hears .mgmt = true ∧ (ready.sw.replies.find? fun r => r.hpf1 == mgm.hpf1 && r.seq == mgm.seq
        && decide (ready.tbs.mono ≤ r.at_ + secU)) = none ∧ ready.sw.mgmtBusy = [] ∧ ready.tagsUsed < 1024)
    ∧ ready.hears .site = true
    ∧ (({ ready with sw := { replies := [rep] } } : Dev).sw.replies.find? fun r => r.hpf1 == mgm.hpf1 && r.seq == mgm.seq
        && decide (ready.tbs.mono ≤ r.at_ + secU)) = some rep
    ∧ ((opn 4 []).tport 4).st = .opened := by
  and_intros <;> decide

/-! ### Witnesses: chapters 00 and 01 -/

/-- Domain 11 runs. -/
def rated : Dev := { ready with gen := { phase := .ready, rates := [(11, { pstate := .running })] } }
/-- Sums that are not whole, and sums that are. -/
def free8 : Vector Nat 8 := #v[0, 0, 0, 0, 0, 0, 0, 0]
def ok8 : Vector Nat 8 := #v[512, 2048, 24576, 32768, 1024, 1024, 512, 262144]

theorem wit_GenBlockEvents :
    (rated.rateMon 11).pstate = .running ∧ (rated.rateMon 2).pstate ≠ .running
    ∧ (ready.reaches .sup = true ∧ wbit 0x80000000 31 = true)
    ∧ ready.gen.ledgerFault = false ∧ (ready.ledgerBad free8).isSome = true ∧ ready.ledgerBad ok8 = none := by
  and_intros <;> decide

def q4 (l : List (QItem Nat)) (g : Bool) : Queue Nat := { depth := 4, hi := 3, lo := 1, items := l, gapOpen := g }
/-- An empty queue, one with its last free place, and one that is full with an open GAP marker. -/
theorem wit_QueuesStayBounded :
    ((q4 [] false).items.length < (q4 [] false).depth - 1)
    ∧ ((q4 [.data 1 true, .data 2 true, .data 3 true] false).depth - 1 ≤ (q4 [.data 1 true, .data 2 true, .data 3 true] false).items.length)
    ∧ ((q4 [.data 1 true, .data 2 true, .data 3 true, QItem.gap 1] true).items.length = 4
      ∧ (q4 [.data 1 true, .data 2 true, .data 3 true, QItem.gap 1] true).gapOpen = true) := by
  and_intros <;> decide
/-- 01 R34: at LEVEL D − 1 the item is dropped and a GAP marker of 1 appended; a further drop counts in it. -/
theorem test_queue_gap :
    ((q4 [.data 1 true, .data 2 true, .data 3 true] false).push 9 true).1.items = [.data 1 true, .data 2 true, .data 3 true, QItem.gap 1]
    ∧ ((q4 [.data 1 true, .data 2 true, .data 3 true, QItem.gap 1] true).push 9 true).1.items
      = [.data 1 true, .data 2 true, .data 3 true, QItem.gap 2] := by decide
theorem wit_EmptyQueueReads : (q4 [] false).items = [] := by decide
theorem wit_DropPacketDiscards :
    ∃ q : Queue Nat, q.inPacket = true ∧ q.items = [.data 1 false] ++ .data 2 true :: [.data 3 true]
      ∧ (∀ x ∈ [QItem.data 1 false], ∀ b, x ≠ .data b true) :=
  ⟨{ q4 [.data 1 false, .data 2 true, .data 3 true] false with inPacket := true }, rfl, rfl, by
    intro x hx b; simp only [List.mem_singleton] at hx; subst hx; simp⟩

theorem wit_RegisterAccesses :
    (ready.blw.off = false ∧ ready.blw.backup = false ∧ ready.reaches .hpf0 = true ∧ ready.endOf 0 .sec = none)
    ∧ (wbits 0x03E90000 16 10 = 1001 ∧ wbits 0 16 10 = 0)
    ∧ crc8 (0x02 :: beBytes 3 0x11000 ++ [1, 2, 3, 4]) ≠ (0 : Byte).toNat
    ∧ (crc8 (0x02 :: beBytes 3 (0x40 : BitVec 24).toNat ++ [1, 2, 3, 4]) = (BitVec.ofNat 8 (crc8 [2, 0, 0, 0x40, 1, 2, 3, 4])).toNat
      ∧ (0x40 : BitVec 24).toNat < 0x11000)
    ∧ (crc8 (0x02 :: beBytes 3 (0x117FC : BitVec 24).toNat ++ [1, 2, 3, 4])
        = (BitVec.ofNat 8 (crc8 [2, 1, 0x17, 0xFC, 1, 2, 3, 4])).toNat
      ∧ (0x117FC : BitVec 24).toNat % 4 = 0 ∧ (0x117FC : BitVec 24).toNat + 4 ≤ 0x11800)
    ∧ spiReads 0x40 = true := by
  and_intros <;> decide +kernel
/-- 12 R368, R369: the check values of the two codes over "123456789": CRC-8 of 0x07 and CRC-16 of 0x1021 with initial value 0xFFFF. -/
theorem test_crc_check_values :
    crc8 [0x31, 0x32, 0x33, 0x34, 0x35, 0x36, 0x37, 0x38, 0x39] = 0xF4
    ∧ crc16 [0x31, 0x32, 0x33, 0x34, 0x35, 0x36, 0x37, 0x38, 0x39] = 0x29B1 := by decide +kernel

/-! ### Witnesses: chapter 02 -/

/-- A running timebase whose agent is the device's own firmware, and one whose host steers it, under go tokens. -/
def steered : Dev := { ready with tbs := { en := true, steer := 1 } }
def hosted : Dev := { ready with tbs := { en := true, steer := 2, stepped := true }, bgl := { beacons := [some 1] } }
def nominal : BitVec 64 := 0x6400000000

theorem wit_SteeringWrites :
    (ready.reaches .sup = true ∧ steered.reaches .sup = true ∧ hosted.reaches .hpf0 = true)
    ∧ (ready.tbs.en = false ∧ wbit (0x5 : Word) 0 = true ∧ wbit (0x5 : Word) 1 = ready.tbs.refsel ∧ wbits (0x5 : Word) 2 2 ≠ 3)
    ∧ (wbit (0x2 : Word) 0 = false ∧ wbit (0x2 : Word) 1 = (!ready.tbs.refsel) ∧ wbits (0x2 : Word) 2 2 ≠ 3)
    ∧ (wbits (0xC : Word) 2 2 = 3 ∧ wbit (0x3 : Word) 1 ≠ steered.tbs.refsel)
    ∧ (wbit (0x9 : Word) 0 = true ∧ wbit (0x9 : Word) 1 = steered.tbs.refsel ∧ wbits (0x9 : Word) 2 2 ≠ 3
      ∧ wbits (0x9 : Word) 2 2 ≠ steered.tbs.steer)
    ∧ (steered.isAgent .sup = true ∧ steered.isAgent .hpf0 = false ∧ hosted.isAgent .hpf0 = true)
    ∧ 5000 * ((nominal.toNat % 2 ^ 40 - nominalIncr false) + (nominalIncr false - nominal.toNat % 2 ^ 40)) ≤ nominalIncr false
    ∧ nominalIncr false < 5000 * (((0 : BitVec 64).toNat % 2 ^ 40 - nominalIncr false) + (nominalIncr false - (0 : BitVec 64).toNat % 2 ^ 40))
    ∧ (0 ≤ (999 : BitVec 64).toInt ∧ (999 : BitVec 64).toInt ≤ 999 ∧ steered.goActive = false)
    ∧ (hosted.goActive = true ∧ 999 < (1000 : BitVec 64).toInt.natAbs)
    ∧ ((-999 : BitVec 64).toInt.natAbs ≤ 999 ∧ hosted.tbs.stepped = true) := by
  and_intros <;> decide
theorem wit_ErrorBoundGrows : steered.tbs.syncAt ≤ steered.tbs.mono ∧ steered.tbs.at32 ≤ steered.tbs.mono := by decide

/-- Time is valid for 20 us of error after a synchronization. -/
def synced : Dev := { ready with tbs := { en := true, syncSeen := true, timeValid := true, ppsNext := [(1, { enable := true, gate := false })] } }

theorem wit_TimebaseEvents :
    (ready.reaches .hpf0 = true ∧ (ready.lgate 15).armed = false ∧ wbit (0x5 : Word) 0 = true ∧ wbit (0x5 : Word) 1 = false
      ∧ ({ ready.lgate 15 with periodic := wbit (0x5 : Word) 2, polarity := wbit (0x5 : Word) 3 } : Lg).bad = false)
    ∧ (({ ready with tbs := { lg := [(3, { width := 9 })] } } : Dev).lgate 3).bad = true
    ∧ (({ ready with tbs := { lg := [(0, { armed := true })] } } : Dev).lgate 0).periodic = wbit (0x2 : Word) 2
    ∧ (synced.tbs.syncSeen = true ∧ synced.tbs.mono ≤ synced.tbs.syncAt + 1500 * msU)
    ∧ (synced.timeValid = true ∧ 0 < synced.drift ∧ synced.tbs.at32 ≤ synced.tbs.mono ∧ synced.on32Time ≤ synced.sinceSync)
    ∧ (synced.tbs.en = true ∧ (synced.ppsAt 1 0).enable = true ∧ (synced.ppsAt 1 0).gate = false
      ∧ 0 = max (tget 0 synced.tbs.ppsDue 1) (synced.tbs.time / secU) ∧ synced.tbs.time ≤ 0 * secU + (synced.ppsAt 1 0).offset * nsU)
    ∧ (({ ready with gen := { refclkOk := true } } : Dev).gen.refclkOk = true ∧ ready.blw.st ≠ PwrSt.night) := by
  and_intros <;> decide

theorem wit_ArmedGatesAreSound :
    (ready.lgate 0).armed = false ∧ wbit (0x1 : Word) 0 = true ∧ wbit (0x1 : Word) 1 = false
    ∧ (({ ready with tbs := { lg := [(0, { startSec := 1 })] } } : Dev).lgCtrl 0 1 |>.lgate 0).armed = true := by
  and_intros <;> decide
/-- 02 R52: at 10 MHz an increment of 100 ns a period; R63: 30.5 us at 32.768 kHz. -/
theorem test_increments : State.reset.dev.tbs.incr = 100 * nsU ∧ State.reset.dev.tbs.incr32 * 32768 = secU := by decide

/-! ### Witnesses: chapter 15 -/

/-- Slot 9 holds a key that may derive, slot 10 one that may wrap, slot 11 an exportable P-256 pair, slot 12 a stored key,
slot 13 a public key. -/
def vault : Dev := { ready with sec := {
  slots := [(9, { full := true, typ := 3, usage := 0x10 }), (10, { full := true, typ := 2, usage := 0x20 }),
    (11, { full := true, typ := 4, usage := 0x04, exportable := true }), (12, { full := true, typ := 1, usage := 1, persist := true }),
    (13, { full := true, typ := 12, usage := 0x80, key := List.replicate 32 5 })]
  stored := [(12, some ({ full := true, typ := 1 }, 1, 0))], running := true, testsOk := true } }
def cGen : Cmd := secCmd [8 + 2 ^ 8 * 1, 2 ^ 8 * 1]
/-- A public key of type 12 in plain form, as R430 lays it out: FORMAT 1, TYPE, DEST, USAGE, FLAGS, 0, the length of the key. -/
def plainKey : List Byte := [1, 12, 0, 0x80, 0, 0, 32, 0] ++ List.replicate 32 5
def cImport : Cmd := { secCmd [63 + 2 ^ 12, 0x1000, 0, 40] with data := plainKey }
def cExport : Cmd := secCmd [11 + 2 ^ 6 * 10, 0x1000, 0, 4096]
def cDerive : Cmd := secCmd [9 + 2 ^ 6 * 63, 2 ^ 18 * 1 + 2 ^ 8 * 1, 7]

theorem wit_KeyCommandsRun :
    keyGate false vault = none
    ∧ (vault.accepts .keyGenerate cGen = true ∧ argF cGen 0 0 6 = 8 ∧ attrsOk (argF cGen 0 8 4) (argF cGen 1 0 8) (argF cGen 1 8 8) = true
      ∧ (vault.kslot 8).full = false ∧ vault.sec.condFlaw = false)
    ∧ (vault.accepts .keyGenerate (secCmd [7 + 2 ^ 8, 0]) = true ∧ argF (secCmd [7 + 2 ^ 8, 0]) 0 0 6 < 8)
    ∧ (vault.accepts .keyGenerate (secCmd [8 + 2 ^ 8, 0x8000]) = true
      ∧ attrsOk (argF (secCmd [8 + 2 ^ 8, 0x8000]) 0 8 4) (argF (secCmd [8 + 2 ^ 8, 0x8000]) 1 0 8) (argF (secCmd [8 + 2 ^ 8, 0x8000]) 1 8 8) = false)
    ∧ (vault.accepts .keyGenerate (secCmd [9 + 2 ^ 8, 0x100]) = true ∧ (vault.kslot 9).full = true
      ∧ attrsOk (argF (secCmd [9 + 2 ^ 8, 0x100]) 0 8 4) (argF (secCmd [9 + 2 ^ 8, 0x100]) 1 0 8) (argF (secCmd [9 + 2 ^ 8, 0x100]) 1 8 8) = true)
    ∧ (vault.accepts .keyImport cImport = true ∧ argF cImport 0 0 6 = 63 ∧ (vault.kslot 63).full = false ∧ argB cImport 0 12 = true
      ∧ (vault.withArea .keyImport cImport).data = plainKey ∧ blobHeaderOk plainKey = true ∧ 8 ≤ leAt plainKey 1 1
      ∧ plainKey.length = 8 + leAt plainKey 6 2 ∧ attrsOk (leAt plainKey 1 1) (leAt plainKey 2 1) (leAt plainKey 3 1) = true)
    ∧ (vault.accepts .keyExport cExport = true ∧ (vault.kslot (argF cExport 0 0 6)).full = true
      ∧ (vault.kslot (argF cExport 0 0 6)).exportable = true ∧ (vault.kslot (argF cExport 0 6 6)).full = true
      ∧ (vault.kslot (argF cExport 0 6 6)).usage.getLsbD 5 = true ∧ 8 ≤ argF cExport 0 6 6
      ∧ 36 + keyLen (vault.kslot (argF cExport 0 0 6)).typ ≤ (arg cExport 3).toNat)
    ∧ (vault.accepts .keyExport (secCmd [9, 0, 0, 4096]) = true ∧ (vault.kslot 9).full = true ∧ (vault.kslot 9).exportable = false)
    ∧ (vault.accepts .keyDerive cDerive = true ∧ argF cDerive 0 0 6 = 9 ∧ argF cDerive 0 6 6 = 63
      ∧ attrsOk (argF cDerive 1 18 4) (argF cDerive 1 0 8) (argF cDerive 1 8 8) = true ∧ argF cDerive 0 12 2 = 0
      ∧ (vault.kslot 9).usage.getLsbD 4 = true ∧ argF cDerive 1 18 4 < 8)
    ∧ (vault.accepts .keyDerive (secCmd [8, 2 ^ 18, 0]) = true ∧ (vault.kslot 8).full = false)
    ∧ (vault.accepts .keyZeroize (secCmd [9]) = true ∧ argB (secCmd [9]) 0 8 = false ∧ tget none vault.sec.stored 9 = none)
    ∧ (vault.accepts .keyZeroize (secCmd [12]) = true ∧ (vault.kslot 12).full = true ∧ (tget none vault.sec.stored 12).isSome = true)
    ∧ (vault.accepts .keyInfo (secCmd [63]) = true ∧ vault.sec.testFail = false)
    ∧ (vault.accepts .keyPublic (secCmd [13, 0, 0, 32]) = true ∧ (vault.kslot 13).pub = some (List.replicate 32 5)
      ∧ (List.replicate 32 (5 : Byte)).length ≤ (arg (secCmd [13, 0, 0, 32]) 3).toNat)
    ∧ (vault.accepts .keyPublic (secCmd [9, 0, 0, 4096]) = true ∧ (vault.kslot 9).pub = none) := by
  and_intros <;> decide

/-- A device in DEPLOYED with go tokens in force, and one in LOCKED. -/
def fielded : Dev := { ready with sec := { lc := 2, running := true } }
def going : Dev := { fielded with bgl := { enable := true, beacons := [some 1] } }
def lockedUp : Dev := { ready with sec := { lc := 4 } }
def flawed : Dev := { ready with sec := { flaws := 2 } }
def token : List Byte := ascii "PQDBGUNL" ++ List.replicate 112 0
def cUnlock : Cmd := { secCmd [0, 0x1000, 0, 120] with data := token }

theorem wit_SecurityCommandsRun :
    (ready.accepts .lcAdvance (secCmd [2, 0x51434C02]) = true ∧ ready.sec.advance = none
      ∧ (lcTargets ready.sec.lc).contains (argF (secCmd [2, 0x51434C02]) 0 0 3) = true ∧ ready.goActive = false ∧ ready.bgl.enable = false
      ∧ arg (secCmd [2, 0x51434C02]) 1 = ready.lcConfirm (argF (secCmd [2, 0x51434C02]) 0 0 3) ∧ ready.sec.stored = [])
    ∧ (ready.accepts .lcAdvance (secCmd [1, 0]) = true ∧ (lcTargets ready.sec.lc).contains (argF (secCmd [1, 0]) 0 0 3) = false)
    ∧ (going.accepts .lcAdvance (secCmd [3, 0]) = true ∧ going.goActive = true)
    ∧ ready.accepts .lcStatus (secCmd []) = true
    ∧ (fielded.accepts .dbgUnlock cUnlock = true ∧ fielded.sec.lc = 2 ∧ fielded.goActive = false ∧ fielded.bgl.enable = false
      ∧ fielded.sec.advance = none ∧ fielded.tokenOk (fielded.withArea .dbgUnlock cUnlock).data = true
      ∧ (fielded.withArea .dbgUnlock cUnlock).sigOk = true)
    ∧ (lockedUp.accepts .dbgUnlock cUnlock = true ∧ lockedUp.sec.lc = 4)
    ∧ (ready.accepts .selftestRun (secCmd [0x3FFF]) = true ∧ argF (secCmd [0x3FFF]) 0 0 14 &&& ready.sec.flaws.toNat = 0)
    ∧ (flawed.accepts .selftestRun (secCmd [2]) = true ∧ argF (secCmd [2]) 0 0 14 &&& flawed.sec.flaws.toNat ≠ 0)
    ∧ (ready.accepts .tamperCfg (secCmd [0, 0]) = true ∧ ready.sec.lc ≠ 2)
    ∧ (fielded.accepts .tamperCfg (secCmd [0xFFF, 0x3F]) = true
      ∧ fielded.sec.tmp.en &&& ~~~(BitVec.ofNat 12 (argF (secCmd [0xFFF, 0x3F]) 0 0 12)) = 0)
    ∧ (fielded.accepts .tamperCfg (secCmd [0, 0]) = true
      ∧ fielded.sec.tmp.en &&& ~~~(BitVec.ofNat 12 (argF (secCmd [0, 0]) 0 0 12)) ≠ 0)
    ∧ ready.accepts .tamperStatus (secCmd []) = true := by
  and_intros <;> decide

theorem wit_SecurityEvents :
    ({ ready with sec := { zeroizing := true } } : Dev).sec.zeroizing = true
    ∧ (ready.sec.tmp.watches 11 = true ∧ ready.sec.latched = 0 ∧ ready.gen.phase = .ready ∧ ready.blw.st ≠ PwrSt.night)
    ∧ ({ ready with sec := { latched := 0x40 } } : Dev).sec.latched ≠ 0
    ∧ (({ ready with blw := { backup := true } } : Dev).blw.backup = true) := by
  and_intros <;> decide
/-- The supply comes back with source 6 set: a watched source, at a boot. -/
theorem wit_TamperZeroizes : (ready.atReset 1 { tamperLive := 0x40 }).tampered ≠ 0 := by decide

/-! ### Witnesses: chapter 16 -/

/-- A clear awaits its confirmation; one runs; a flush runs; a page of the running flush has failed. -/
def asked : Dev := { ready with evr := { clear := some (5, 0) } }
def late : Dev := { ready with tbs := { mono := 10 * secU + 1 }, evr := { clear := some (5, 0) } }
def clearing : Dev := { ready with evr := { clearing := true } }
def flusher : Dev := { ready with evr := { flushing := true } }
def badPage : Dev := { ready with evr := { flushing := true, badPage := true } }
/-- Two records, the older one in the window. -/
def aRec (n : Nat) : Rec := {
  rnum := n, opTime := 0, pcycle := 0, tai := false, suppSat := false, sentinel := false, retained := false, code := 0xC801, slot := 255
  supp := 0, payload := [], epoch := 0 }
def recs : Dev := { ready with evr := { circ := [aRec 6, aRec 5], next := 7, total := 7, index := 4, count := 1 } }
def cCfg (scope : Word) : Cmd := cmd [0x4001 + 2 ^ 16 * scope, 0x00010001, 1]
def cHist : Cmd := cmd [2 * 63 + 2 ^ 8 + 2 ^ 16 * 15 + 2 ^ 24 * 32 + 2 ^ 31, 0, 1]
def cExt : Cmd := cmd [1 + 2 * 127 + 2 ^ 8 * 8 + 2 ^ 16 * 11 + 2 ^ 31, 0, 1]

theorem wit_RecorderCommandsRun :
    (ready.accepts .recCfg (cCfg 2) = true ∧ argF (cCfg 2) 0 16 2 = 2)
    ∧ (ready.accepts .recCfg (cCfg 0) = true ∧ argF (cCfg 0) 0 16 2 = 0 ∧ argF (cCfg 0) 0 0 16 / 2 ^ 14 ≠ 3 ∧ argF (cCfg 0) 1 0 8 ≠ 0
      ∧ argF (cCfg 0) 1 16 16 ≠ 0)
    ∧ (ready.accepts .recCfg (cCfg 1) = true ∧ argF (cCfg 1) 0 16 2 = 1 ∧ argF (cCfg 1) 0 0 16 / 2 ^ 14 ≠ 3 ∧ argF (cCfg 1) 1 0 8 ≠ 0
      ∧ argF (cCfg 1) 1 16 16 ≠ 0)
    ∧ (ready.accepts .recCfg (cmd [0x4001, 0, 1]) = true ∧ argF (cmd [0x4001, 0, 1]) 0 16 2 ≠ 2
      ∧ argF (cmd [0x4001, 0, 1]) 0 0 16 / 2 ^ 14 ≠ 3 ∧ argF (cmd [0x4001, 0, 1]) 1 0 8 = 0)
    ∧ (ready.accepts .recHistCfg cHist = true ∧ argF cHist 0 1 7 < 64 ∧ argB cHist 0 30 = false ∧ argB cHist 0 0 = false
      ∧ argF cHist 0 24 6 ≠ 0 ∧ argF cHist 0 16 8 ≤ paramMax (argF cHist 0 8 8))
    ∧ (ready.accepts .recHistCfg cExt = true ∧ argB cExt 0 0 = true ∧ argB cExt 0 30 = false
      ∧ argF cExt 0 16 8 ≤ paramMax (argF cExt 0 8 8))
    ∧ (ready.accepts .recHistCfg (cmd [2 ^ 30, 0, 1]) = true ∧ argB (cmd [2 ^ 30, 0, 1]) 0 30 = true ∧ argB (cmd [2 ^ 30, 0, 1]) 0 0 = false)
    ∧ (ready.accepts .recHistCfg (cmd [2 ^ 30 + 1, 0, 1]) = true ∧ argB (cmd [2 ^ 30 + 1, 0, 1]) 0 0 = true)
    ∧ (ready.accepts .recHistRead (cmd [1, 0x1000, 0, 4096]) = true ∧ argB (cmd [1, 0x1000, 0, 4096]) 0 0 = true)
    ∧ (ready.accepts .recHistRead (cmd [126, 0x1000, 0, 4096]) = true ∧ argB (cmd [126, 0x1000, 0, 4096]) 0 0 = false
      ∧ argF (cmd [126, 0x1000, 0, 4096]) 0 1 7 = 63)
    ∧ (ready.accepts .recFlush (cmd []) = true ∧ ready.evr.flushing = false)
    ∧ (flusher.accepts .recFlush (cmd []) = true ∧ flusher.evr.flushing = true)
    ∧ (ready.accepts .recClear (cmd []) = true ∧ ready.evr.clear = none ∧ ready.evr.clearing = false)
    ∧ (asked.accepts .recClear (cmd []) = true ∧ asked.evr.clear.isSome = true)
    ∧ (asked.accepts .recClearConfirm (secCmd [5]) = true ∧ asked.evr.clear = some (5, 0) ∧ (5 : Word) = arg (secCmd [5]) 0
      ∧ asked.tbs.mono ≤ 0 + 10 * secU)
    ∧ (late.accepts .recClearConfirm (secCmd [5]) = true ∧ late.evr.clear = some (5, 0) ∧ 0 + 10 * secU < late.tbs.mono) := by
  and_intros <;> decide

theorem wit_RecorderEvents :
    flusher.evr.flushing = true ∧ flusher.evr.badPage = false ∧ badPage.evr.badPage = true
    ∧ (running.tbs.en = true ∧ running.tbs.resync = false)
    ∧ ready.evr.retired.getLsbD (31 : Fin 32) = false
    ∧ (ready.reaches .hpf0 = true ∧ ready.reaches .spih = false)
    ∧ asked.evr.clear = some (5, 0) ∧ clearing.evr.clearing = true := by
  and_intros <;> decide

/-- NEXT past a record that stays, and a load before the oldest record. -/
theorem wit_WindowFollowsTheCursor :
    (wbit (2 : Word) 1 = true ∧ rnumAfter recs.evr.oldest ((recs.evr.index + recs.evr.count) % 2 ^ 32) = false)
    ∧ (wbit (0 : Word) 1 = false ∧ recs.evr.circ ≠ [] ∧ rnumAfter recs.evr.oldest recs.evr.index = true ∧ wbit (0 : Word) 0 = false)
    ∧ (recs.evr.circ.length ≤ 16384 ∧ recs.evr.founding.length ≤ 1024 ∧ recs.evr.founding.length ≤ recs.evr.total) := by
  and_intros <;> decide

/-! ### Witnesses: chapters 11, 17 and 18 -/

/-- The header of a full container for this part (17 R465): MAGIC, FORMAT, KIND 1, PART, HDR_LEN 5,892, SFN 2, VERSION 3, DATA_LEN
and TO_LEN 4,096; the rest 0. -/
def header : List Byte :=
  ascii "PQDL" ++ [1, 1, 0x92, 0x91] ++ leBytes 2 5892 ++ leBytes 2 2 ++ leBytes 4 3 ++ leBytes 4 0 ++ leBytes 4 4096 ++ leBytes 4 4096
    ++ List.replicate 5864 0
def cBegin : Cmd := { cmd [0, 0x1000, 0, 5892] with data := header }
def cBeginBad : Cmd := { cmd [0, 0x1000, 0, 4] with data := [0, 0, 0, 0] }
def spihBegin : Cmd := { cBeginBad with path := .mbx 8, words := [0, 0x11000, 0, 4] }
def sess0 : Sess := {
  port := 0, id := 1, bank := true, kind := 1, version := 3, sfn := 2, dataLen := 8, toLen := 4, toHash := [], trialS := 600 }
def open0 : Dev := { ready with upd := { bankValid := true, sess := some sess0 } }
def checking : Dev := { ready with upd := { bankValid := true, sess := some {
  sess0 with accepted := 8, out := 4, ended := true, commit := some (.mbx 0, 7) } } }
def cData (o : Word) : Cmd := { cmd [o, 0x1000, 0, 4] with data := [0, 0, 0, 0] }
def trial : Dev := { ready with upd := { bankValid := true, running := true, bankB := { st := .trial, version := 2 }, trialS := 600 } }
/-- Both banks CONFIRMED, with their generations; and a device under go tokens. -/
def two : Dev := { ready with upd := { bankValid := true, bankA := { st := .confirmed, gen := 1 }, bankB := { st := .confirmed, gen := 2 },
                                       gens := [(1, 0), (2, 0)] } }
def active : Dev := { two with bgl := { enable := true } }

theorem wit_UpdateCommandsRun_begin :
    (ready.accepts .updBegin cBegin = true ∧ pathPort cBegin.path ≠ 2 ∧ pathPort cBegin.path ≠ 4 ∧ attached cBegin.path = false)
    ∧ headerOk false header = true
    ∧ (match ready.checkHeader (ready.withArea .updBegin cBegin) ((ready.withArea .updBegin cBegin).data.take (arg cBegin 3).toNat) with
      | .ok x => x.version == 3 && x.dataLen == 4096 | .error _ => false) = true := by
  and_intros <;> decide +kernel

theorem wit_UpdateCommandsRun :
    (ready.accepts .updBegin cBeginBad = true
      ∧ (match ready.checkHeader (ready.withArea .updBegin cBeginBad) ((ready.withArea .updBegin cBeginBad).data.take (arg cBeginBad 3).toNat) with
        | .ok _ => false | .error e => e == .updHeader) = true)
    ∧ (ready.hears spihBegin.path = true ∧ ready.defers .updBegin = false ∧ ready.secPath spihBegin.path = false
      ∧ spihBegin.words.length = 4 ∧ pathPort spihBegin.path = 2)
    ∧ (open0.accepts .updData (cData 0) = true ∧ open0.upd.idlePort ≠ some (pathPort (cData 0).path) ∧ open0.upd.sess = some sess0
      ∧ sess0.port = pathPort (cData 0).path ∧ sess0.commit = none ∧ 4 ≤ (arg (cData 0) 3).toNat ∧ (arg (cData 0) 3).toNat % 4 = 0
      ∧ (arg (cData 0) 0).toNat = sess0.accepted)
    ∧ (open0.accepts .updData (cData 4) = true ∧ (arg (cData 4) 0).toNat ≠ sess0.accepted)
    ∧ (ready.accepts .updData (cData 0) = true ∧ ready.upd.sess = none)
    ∧ (open0.accepts .updCommit (cmd [1]) = true ∧ argF (cmd [1]) 0 0 16 = sess0.id)
    ∧ open0.accepts .updAbort (cmd [1]) = true
    ∧ (trial.accepts .updConfirm (cmd []) = true ∧ trial.onTrial = true)
    ∧ (two.accepts .updConfirm (cmd []) = true ∧ two.onTrial = false)
    ∧ (two.accepts .updRollback (cmd []) = true ∧ two.fleetActive = false ∧ two.rollbackOk = true)
    ∧ (ready.accepts .updRollback (cmd []) = true ∧ ready.fleetActive = false ∧ ready.rollbackOk = false)
    ∧ (active.accepts .updRollback (cmd []) = true ∧ active.fleetActive = true)
    ∧ (two.accepts .updStatus (cmd []) = true ∧ two.upd.sess = none ∧ two.upd.bankA.st ≠ .pending ∧ two.upd.bankB.st ≠ .pending)
    ∧ (active.accepts .bootReset (cmd [0]) = true ∧ active.upd.bootKind = none)
    ∧ (two.accepts .bootReset (cmd [1]) = true) := by
  and_intros <;> decide

def failing : Dev := { ready with blw := { pfw := true } }
def tripped : Dev := { ready with blw := { trip := true } }
def cold : Dev := { ready with blw := { trip := true, off := true } }

theorem wit_BootEvents :
    (({ ready with sec := { debug := true } } : Dev).debugOpen = true)
    ∧ (({ ready with upd := { wdOver := true } } : Dev).upd.wdOver = true)
    ∧ (trial.onTrial = true ∧ trial.upd.trialOver = false)
    ∧ (({ trial with upd := { trial.upd with trialOver := true } } : Dev).upd.trialOver = true ∧ ((List.range trial.nSlots).any trial.moving) = false)
    ∧ failing.blw.pfw = true
    ∧ (ready.blw.backup = false ∧ (1149 : Nat) < 1150
      ∧ ({ ready with blw := { vbatDay := some 0 } } : Dev).blw.vbatDay = some (ready.tbs.mono / (86400 * secU)))
    ∧ (ready.blw.trip = false ∧ ready.blw.off = false ∧ ready.tjMax + 10 ≤ 150)
    ∧ (tripped.blw.trip = true ∧ tripped.blw.off = false)
    ∧ (cold.blw.off = true ∧ (20 : Int) < cold.tjMax - 10)
    ∧ (checking.upd.sess.any fun x => x.good ⟨true, true, true⟩ && x.commit == some (.mbx 0, 7)) = true
    ∧ checking.gen.phase ≠ .recovery
    ∧ (checking.upd.sess.any fun x => !x.good ⟨true, false, true⟩) = true
    ∧ (open0.upd.sess = some sess0 ∧ sess0.commit = none) := by
  and_intros <;> decide

/-- The device as delivered, at its first power-on. -/
theorem wit_BootReachesReady :
    (State.reset.dev.atReset 1 {}).tampered = 0 ∧ (State.reset.dev.atReset 1 {}).sec.latched = 0
    ∧ (State.reset.dev.atReset 1 {}).upd.bootKind = none
    ∧ (Upd.bootBank { (State.reset.dev.atReset 1 {}).upd with
        bankA := (State.reset.dev.atReset 1 {}).upd.bankA.read {}, bankB := (State.reset.dev.atReset 1 {}).upd.bankB.read {}, bootKind := none
        lostSess := false } 1 (State.reset.dev.atReset 1 {}).evr.opTime {}).1 = some false := by
  and_intros <;> decide
/-- The first power-on of a device as delivered ends in READY, with bank A running. -/
theorem test_first_boot :
    (nextOf (exec (.powerOnReset {}) State.reset)).map (fun t => (t.dev.gen.phase, t.dev.gen.cause, t.dev.upd.running)) = some (.ready, 1, false) := by
  decide

/-! ### Witnesses: the epoch and the machine as a whole -/

/-- In the middle of epoch 0: slot 0 has started and its window is open. -/
def inSlot : Dev := { running with tbs := { en := true, slotsFired := 1 } }

/-- The same device at the freeze before boundary 1. -/
def before1 : Dev := (live.advanceTo (1 * epU - msU)).refreshTime

theorem wit_EpochEvents :
    (running.tbs.en = true ∧ running.tbs.rechecked = false ∧ running.tbs.cutoff = false ∧ running.tbs.frozen = false)
    ∧ (live.tbs.en = true ∧ live.tbs.frozen = false ∧ live.nextBoundary = 1 ∧ before1.fleetUp = true ∧ (before1.pwrRecheck 1).bgl.up = true
      ∧ (before1.pwrRecheck 1).blw.st ≠ PwrSt.night ∧ ((before1.pwrRecheck 1).sampling 1).fleetUp = true
      ∧ ((before1.pwrRecheck 1).sampling 1).blw.st ≠ PwrSt.night)
    ∧ (({ State.reset.dev with tbs := { en := true } } : Dev).bgl.up = false ∧ ({ State.reset.dev with tbs := { en := true } } : Dev).fleetUp = false)
    ∧ running.nextBoundary = 1
    ∧ (running.tbs.resync = false ∧ running.tbs.slotsFired = 0 ∧ running.tbs.ticksFired = 0)
    ∧ (inSlot.tbs.winEnded = false ∧ inSlot.tbs.slotsFired ≠ 0)
    ∧ (running.upd.contend = [] ∧ running.upd.bootKind = none) := by
  and_intros <;> decide
theorem wit_EpochEvents_up :
    ((((running.advanceTo (1 * epU)).unfrozen.newEpoch 1).applySteer).radBoundary.fleetUp) = true
    ∧ ((({ State.reset.dev with tbs := { en := true } } : Dev).advanceTo (1 * epU)).unfrozen.newEpoch 1).applySteer.radBoundary.fleetUp = false := by
  and_intros <;> decide
theorem wit_ShadowsApplyInOrder :
    running.tbs.cutoff = false ∧ ({ running with tbs := { en := true, cutoff := true } } : Dev).tbs.cutoff = true
    ∧ (running.runOp .recCfg (cmd [0x4001 + 2 ^ 17, 0, 1])).code = some .success := by
  and_intros <;> decide

theorem wit_StepKeepsMemoryCanonical : Memory.wf State.reset.hostMem = true ∧ State.reset.dev.writes = [] := by decide
theorem wit_StepTakesTheFront : ({ State.reset with pending := [.islandFault] } : State).pending = [.islandFault] ∧ State.reset.pending = [] := by decide
theorem wit_BufferWritesStayInside : ready.writes = [] ∧ ∀ ch : Fin 32, Path.mbx 12 = .mbx ch → ch.val < 8 ∨ 11 < ch.val := by
  decide

/-- A device in NIGHT, and one with a transaction open on the host's port. -/
def asleep : Dev := { ready with blw := { st := .night } }
def cClass : Cmd := cmd [4 + 2 ^ 21 * 200, 17000]
theorem wit_ChecksComeInOrder :
    State.reset.dev.hears (.mbx 0) = false
    ∧ (asleep.hears (.mbx 0) = true ∧ asleep.defers .nop = true)
    ∧ (ready.hears (.mbx 0) = true ∧ ready.defers .txnStatus = false ∧ ready.withArea .txnStatus (cmd [0]) = cmd [0] ∧ ready.gen.phase = .ready)
    ∧ (cmd []).words.length ≠ (opInfo .txnStatus).reqWords
    ∧ (opRank .updBegin { cmd [0, 0, 0, 4] with path := .mbx 12 } < pathRank (.mbx 12))
    ∧ (pathRank (.mbx 0) ≤ opRank .lcStatus (cmd []) ∧ keyClass .lcStatus = true ∧ ready.secPath (.mbx 0) = false)
    ∧ (keyClass .genInfo = false ∧ secPasses .genInfo = false ∧ ready.secPath (.mbx 15) = true)
    ∧ (bufOk .gnsMeasRead { cmd [0, 0, 0, 353] with path := .mbx 8 } = false ∧ keyClass .gnsMeasRead = ready.secPath (.mbx 8))
    ∧ (bufOk .gnsMeasRead (cmd [0, 0, 0, 0]) = true ∧ (opInfo .gnsMeasRead).buf = .std ∧ bufLen .gnsMeasRead (cmd [0, 0, 0, 0]) = 0)
    ∧ ((opn 0 []).gateCheck .schClassCfg cClass = none ∧ (opInfo .schClassCfg).staged = true ∧ (opInfo .schClassCfg).cls ≠ .halted
      ∧ fieldsOk (opFields cClass .schClassCfg) cClass = true)
    ∧ (exp0.gateCheck .schClassCfg cClass = none ∧ (exp0.tport 0).st = .expired) := by
  and_intros <;> decide

/-! ### Values worked out by hand -/

/-- 01 R21: an epoch of 100 ms holds 40 slots of 2.5 ms and 100 ticks of 1 ms. -/
theorem test_epoch_divisions : epU = 40 * slotU ∧ epU = 100 * msU ∧ 10 * epU = secU := by decide
/-- 16 R447: RNUM goes on past 2^32 − 1 with 0. -/
theorem test_rnum_wraps : rnumAfter 0 0xFFFFFFFF = true ∧ rnumAfter 0xFFFFFFFF 0 = false := by decide
/-- 13 R395: a NOP on channel 0 answers SUCCESS with its tag and no words. -/
theorem test_nop : (nextOf (exec (.nop (cmd [])) (st ready))).map (fun t => (t.dev.reply.code, t.dev.reply.tag, t.dev.reply.words))
    = some (.success, 7, []) := by decide
/-- 13 R397, order 2: a NOP with a request word too many ends MSG_LENGTH. -/
theorem test_nop_length : (nextOf (exec (.nop (cmd [0])) (st ready))).map (fun t => t.dev.reply.code) = some .msgLength := by decide
/-- 13 R391: a ring of bit 3 sets that bit of the peer's DB_IN, and bits 0 to 2 stay. -/
theorem test_mbx_ring : (nextOf (exec (.mbxRing .hpf0 0 0xF) (st ready))).map (fun t => (t.dev.mboxEnd 0 true).dbIn) = some 8 := by decide
/-- 02 R62: after a TBS_SYNC write UNC_NS stands, and time is valid again within the limit. -/
theorem test_sync : (nextOf (exec (.tbsSyncWrite .sup 5000) (st steered))).map (fun t => (t.dev.tbs.unc, t.dev.timeValid)) = some (5000, true) := by
  decide
/-- 15 R422: LC_ADVANCE goes forward alone. -/
theorem test_lc_targets : lcTargets 2 = [3, 4] ∧ lcTargets 4 = [] := by decide
/-- 17 R459: the watchdog expires 2 s after its latest restart, and its stop is in force then. -/
theorem test_watchdog : (nextOf (exec .watchdogExpiry (st ready))).map (fun t => (t.dev.tbs.mono == 2 * secU, t.dev.upd.wdOver)) = some (true, true) := by
  decide
/-- 01 R15, 08 R244: a fault of the safety island stands, and stops the fleet with cause ISLAND (9). -/
theorem test_island_fault : (nextOf (exec .islandFault (st live))).map (fun t => (t.dev.bgl.fault, t.dev.bgl.stops.map fun x => (x.fleet, x.cause)))
    = some (true, [(true, 9)]) := by decide

end Sys2Proof.Tests
end

/-! PROOFS. The common queue operations, once each (01 R33 to R36). -/
namespace Sys2Proof.Machine

section QueueLaws
variable {α : Type} (q : Queue α) (a : α) (e : Bool) (old : Nat)

/-! ### The crossings touch the flags of QSTAT and the crossing count alone (01 R37) -/

@[simp] theorem Queue.settle_keeps : (q.settle old).1.depth = q.depth ∧ (q.settle old).1.items = q.items
    ∧ (q.settle old).1.gapOpen = q.gapOpen ∧ (q.settle old).1.drops = q.drops
    ∧ (q.settle old).1.inPacket = q.inPacket := by
  simp only [Queue.settle]
  split_ifs <;> exact ⟨rfl, rfl, rfl, rfl, rfl⟩

/-! ### The GAP marker at the tail (01 R34) -/

/-- What stands before the tail's GAP marker is left alone, GAP markers of earlier bursts included. -/
theorem bumpGap_append_gap (pre : List (QItem α)) (n : Nat) :
    bumpGap (pre ++ [.gap n]) = pre ++ [.gap (min (n + 1) 65535)] := by
  induction pre with
  | nil => rfl
  | cons x xs ih => simp [bumpGap, ih]

@[simp] theorem length_bumpGap (l : List (QItem α)) : (bumpGap l).length = l.length := by
  induction l using bumpGap.induct with
  | case1 => rfl
  | case2 n => rfl
  | case3 i is h ih => simp [bumpGap, ih]

/-! ### The three outcomes of an offered item (01 R33, R34) -/

variable {q}

theorem Queue.push_accepted (h : q.items.length < q.depth - 1) :
    q.push a e = Queue.settle { q with items := q.items ++ [.data a e], gapOpen := false } q.items.length := if_pos h

theorem Queue.push_counted (h : q.depth - 1 ≤ q.items.length) (hg : q.gapOpen = true) :
    q.push a e = ({ q with items := bumpGap q.items, drops := min (q.drops + 1) 0xFFFFFFFF }, false) :=
  (if_neg (Nat.not_lt.mpr h)).trans (if_pos hg)

theorem Queue.push_gapped (h : q.depth - 1 ≤ q.items.length) (hg : q.gapOpen = false) :
    q.push a e = Queue.settle
      { q with items := q.items ++ [.gap 1], gapOpen := true, drops := min (q.drops + 1) 0xFFFFFFFF } q.items.length :=
  (if_neg (Nat.not_lt.mpr h)).trans (if_neg (by simp [hg]))

/-! ### The bound (01 R33): the last entry of a queue is a GAP marker's -/

/-- A queue holds at most D items, and a full one ends in an open GAP marker, so that a further drop needs no entry. -/
def Queue.Bounded (q : Queue α) : Prop :=
  q.items.length ≤ q.depth ∧ (q.items.length = q.depth → q.gapOpen = true)

@[simp] theorem Queue.push_depth : (q.push a e).1.depth = q.depth := by
  simp only [Queue.push]
  split_ifs <;> simp

/-- An accepted item leaves the GAP marker's entry free; a drop takes it where no marker is open, which a full queue
rules out; and an open marker counts in place. -/
theorem Queue.push_keeps_bounded (hb : q.Bounded) : (q.push a e).1.Bounded := by
  obtain ⟨hle, hfull⟩ := hb
  rcases Nat.lt_or_ge q.items.length (q.depth - 1) with h | h
  · simp only [Queue.push_accepted a e h, Queue.Bounded, Queue.settle_keeps, List.length_append,
      List.length_singleton]
    omega
  cases hg : q.gapOpen
  case true => simpa [Queue.push_counted a e h hg, Queue.Bounded, hg] using hle
  case false =>
    have hroom : q.items.length ≠ q.depth := fun hl => by simp [hfull hl] at hg
    simp only [Queue.push_gapped a e h hg, Queue.Bounded, Queue.settle_keeps,
      List.length_append, List.length_singleton, implies_true, and_true]
    omega

/-- 01 R34: QDROP counts a drop whether a GAP marker is open or not. -/
theorem Queue.push_drops (h : q.depth - 1 ≤ q.items.length) :
    (q.push a e).1.drops = min (q.drops + 1) 0xFFFFFFFF := by
  cases hg : q.gapOpen
  · simp [Queue.push_gapped a e h hg]
  · simp [Queue.push_counted a e h hg]

/-! ### What leaves a queue (01 R33, R36) -/

theorem Queue.pop_cons {i : QItem α} {is : List (QItem α)} (h : q.items = i :: is) :
    q.pop.1 = some i ∧ q.pop.2.items = is := by
  simp [Queue.pop, h]

/-- The search for the end of packet passes over data items that end none and over GAP markers. -/
theorem afterPacket_append_eop (pre post : List (QItem α)) (a : α) (h : ∀ x ∈ pre, ∀ b, x ≠ .data b true) :
    afterPacket (pre ++ .data a true :: post) = (post, true) := by
  induction pre with
  | nil => rfl
  | cons x xs ih =>
    obtain ⟨hx, hxs⟩ := List.forall_mem_cons.mp h
    match x with
    | .data b true => exact absurd rfl (hx b)
    | .data _ false => exact ih hxs
    | .gap _ => exact ih hxs

theorem Queue.dropPacket_outside (h : q.inPacket = false) : q.dropPacket = q := by
  simp [Queue.dropPacket, h]

theorem Queue.dropPacket_inside (h : q.inPacket = true) :
    q.dropPacket.items = (afterPacket q.items).1 ∧ q.dropPacket.inPacket = !(afterPacket q.items).2 := by
  simp [Queue.dropPacket, h]

end QueueLaws

/-- Settles O8: the items left are those after the first end of packet, which the search finds behind `pre`. -/
theorem dropPacketDiscards : Obligations.DropPacketDiscards := by
  intro α q
  refine ⟨Queue.dropPacket_outside, fun pre post a hin hitems hpre => ?_⟩
  simpa [hitems, afterPacket_append_eop pre post a hpre] using Queue.dropPacket_inside hin

/-- Settles O9: the bound with its open GAP marker is kept by every offer, and each of the three outcomes of an offer
states its own clause. -/
theorem queuesStayBounded : Obligations.QueuesStayBounded := by
  intro α q a e _ hle hfull
  have hb := Queue.push_keeps_bounded a e (q := q) ⟨hle, hfull⟩
  rw [Queue.Bounded, Queue.push_depth] at hb
  refine ⟨hb.1, hb.2, fun hroom => ?accepted, fun hno => ⟨Queue.push_drops a e hno, fun hg => ?gapped,
    fun pre n hg hitems => ?counted⟩, fun i is => Queue.pop_cons⟩
  case accepted => simp [Queue.push_accepted a e hroom]
  case gapped => simp [Queue.push_gapped a e hno hg]
  case counted => simp [Queue.push_counted a e hno hg, hitems, bumpGap_append_gap, hg]

end Sys2Proof.Machine

/-! PROOFS. GO_ACTIVE in the two status words, and the count of missing heartbeats (08 R240, R241). -/
namespace Sys2Proof.Machine

/-! ### A flag of a status word -/

theorem b2n_le_one (b : Bool) : b2n b ≤ 1 := by cases b <;> decide

theorem b2n_eq_one {b : Bool} : b2n b = 1 ↔ b = true := by cases b <;> decide

theorem wbit_word {v i : Nat} (hi : i < 32) : wbit (word v) i = true ↔ v / 2 ^ i % 2 = 1 := by
  rw [wbit, word, BitVec.getLsbD_ofNat, Nat.testBit_eq_decide_div_mod_eq]
  simp [hi]

/-- BGL_STATUS bit 0 (08 R241): every other field stands above it. -/
theorem Dev.bglStatus_goActive (d : Dev) : wbit d.bglStatus 0 = true ↔ d.goActive = true := by
  rw [Dev.bglStatus, wbit_word (by decide), ← b2n_eq_one]
  have := b2n_le_one d.goActive
  omega

/-- TBS_STATUS bit 4 (08 R241): four one-bit flags stand below it, so that no carry reaches it. -/
theorem Dev.tbsStatus_goActive (d : Dev) : wbit d.tbsStatus 4 = true ↔ d.goActive = true := by
  rw [Dev.tbsStatus, wbit_word (by decide), ← b2n_eq_one]
  have := b2n_le_one d.tbs.en
  have := b2n_le_one d.timeValid
  have := b2n_le_one d.holdover
  have := b2n_le_one d.tbs.on32k
  have := b2n_le_one d.goActive
  omega

theorem Dev.goActive_iff (d : Dev) : d.goActive = true ↔ ∃ b ∈ d.bgl.beacons.take 4, b.isSome = true := List.any_eq_true

/-- Settles O10: each status word shows GO_ACTIVE, which looks at the last four frozen beacons. -/
theorem goActiveMeansToken : Obligations.GoActiveMeansToken := fun d =>
  ⟨d.bglStatus_goActive.trans d.goActive_iff, d.tbsStatus_goActive.trans d.goActive_iff⟩

/-! ### What the parts of a sampling leave of Bugle's state -/

@[simp] theorem Dev.irqIf_bgl (d : Dev) (n : Nat) (b : Bool) : (d.irqIf n b).bgl = d.bgl := by
  obtain ⟨g, h⟩ := d.irqIf_only n b
  rw [h]

@[simp] theorem Dev.bglIrq_bgl (d old : Dev) : (d.bglIrq old).bgl = d.bgl := d.irqIf_bgl 1 _

@[simp] theorem Dev.logStop_bgl (d : Dev) (code cause : Nat) (fleet new : Bool) (slots : BitVec 192) :
    (d.logStop code cause fleet new slots).bgl = d.bgl := by
  obtain ⟨e, g, h⟩ := d.logStop_only code cause fleet new slots
  rw [h]

@[simp] theorem Dev.revealStop_hbFail (d : Dev) : d.revealStop.1.bgl.hbFail = d.bgl.hbFail := by
  unfold Dev.revealStop Dev.stopGenSwitch
  dsimp only
  split <;> split <;> rfl

@[simp] theorem Dev.driveStopOut_hbFail (d : Dev) : d.driveStopOut.bgl.hbFail = d.bgl.hbFail := by
  unfold Dev.driveStopOut
  split <;> rfl

@[simp] theorem Dev.goChange_keeps (d : Dev) (e : Nat) : (d.goChange e).bgl.hb = d.bgl.hb
    ∧ (d.goChange e).bgl.hbFail = d.bgl.hbFail ∧ (d.goChange e).bgl.up = d.bgl.up := by
  unfold Dev.goChange
  dsimp only
  split <;> exact ⟨rfl, rfl, rfl⟩

/-- A stop demand leaves the count of missing heartbeats alone, whether it does anything or not. -/
@[simp] theorem Dev.fleetStop_hbFail (d : Dev) (cause : Nat) : (d.fleetStop cause).bgl.hbFail = d.bgl.hbFail := by
  unfold Dev.fleetStop Dev.stopDemand
  split
  · rfl
  · simp only [Dev.bglIrq_bgl, Dev.logStop_bgl, Dev.driveStopOut_hbFail]
    split
    · exact d.revealStop_hbFail
    · rfl

/-! ### A fleet stop stands after its demand (08 R246) -/

theorem exists_mem_joinStop (x : Stop) (l : List Stop) : ∃ y ∈ joinStop x l, y.cause = x.cause ∧ y.fleet = x.fleet := by
  induction l with
  | nil => exact ⟨x, by simp [joinStop]⟩
  | cons z l ih =>
    by_cases hz : z.cause = x.cause ∧ z.fleet = x.fleet
    · exact ⟨{ z with slots := z.slots ||| x.slots }, by simp [joinStop, hz]⟩
    · obtain ⟨y, hy, hyx⟩ := ih
      exact ⟨y, by simp [joinStop, hz, hy], hyx⟩

theorem Dev.fleetStop_stands (d : Dev) (cause : Nat) (hup : d.bgl.up = true) :
    ∃ x ∈ (d.fleetStop cause).bgl.stops, x.fleet = true ∧ x.cause = cause := by
  obtain ⟨b, rec, g, hd, hstops, -⟩ := d.stopDemand_up cause true 0 hup (.inl rfl)
  obtain ⟨x, hx, hcause, hfleet⟩ := exists_mem_joinStop ⟨cause, true, 0⟩ d.bgl.stops
  refine ⟨x, ?_, hfleet, hcause⟩
  rw [Dev.fleetStop, hd]
  exact hstops ▸ hx

/-! ### The heartbeats of a sampling (08 R238 bit 0, R240) -/

/-- Samplings in a row without a heartbeat, the one for epoch e included. -/
def Dev.missed (d : Dev) (e : Nat) : Nat := if d.bgl.hb = some (epoch32 e) then 0 else d.bgl.hbFail + 1

/-- A sampling takes on the count, and at 3 demands the fleet stop; then only the interrupt is left. -/
theorem Dev.sampling_counts (d : Dev) (e : Nat) : ∃ x : Dev, x.bgl.hbFail = d.missed e ∧ x.bgl.up = d.bgl.up
    ∧ d.sampling e = (if d.missed e = 3 then x.fleetStop 5 else x).bglIrq d := by
  have hfail : (if ((d.goChange e).goConds e).headD false then 0 else (d.goChange e).bgl.hbFail + 1) = d.missed e := by
    simp [Dev.goConds, Dev.missed]
  unfold Dev.sampling
  simp only [hfail]
  refine ⟨_, ?count, ?up, rfl⟩
  case count => rfl
  case up => exact (d.goChange_keeps e).2.2

@[simp] theorem Dev.sampling_hbFail (d : Dev) (e : Nat) : (d.sampling e).bgl.hbFail = d.missed e := by
  obtain ⟨x, hfail, -, hs⟩ := d.sampling_counts e
  rw [hs, Dev.bglIrq_bgl]
  split <;> simp [hfail]

theorem Dev.sampling_third_stops (d : Dev) (e : Nat) (hup : d.bgl.up = true) (h3 : d.missed e = 3) :
    ∃ x ∈ (d.sampling e).bgl.stops, x.fleet = true ∧ x.cause = 5 := by
  obtain ⟨x, -, hxup, hs⟩ := d.sampling_counts e
  rw [hs, Dev.bglIrq_bgl, if_pos h3]
  exact x.fleetStop_stands 5 (hxup.trans hup)

/-- Settles O11: a sampling leaves `missed` as its count, and a count of 3 demands the fleet stop, which stands while Bugle
is up. -/
theorem threeLostHeartbeatsStop : Obligations.ThreeLostHeartbeatsStop := by
  intro d e hup
  refine ⟨fun hb => ?good, fun hb => ?missing, fun hb h2 => d.sampling_third_stops e hup ?third⟩
  case good => simp [Dev.missed, hb]
  case missing => simp [Dev.missed, hb]
  case third => simp [Dev.missed, hb, h2]

end Sys2Proof.Machine

/-! PROOFS. One step, and the queue of waiting commands worked off (O1, O2, O3). -/
namespace Sys2Proof.Machine

theorem step_cons {s : State} {i : Instr} {is : List Instr} (h : s.pending = i :: is) :
    step s = exec i { s with pending := is } := by
  simp [step, h]

theorem step_nil {s : State} (h : s.pending = []) : step s = .next (s.after s.dev.idle) := by
  simp [step, h, act]

/-- Settles O1: the two arms of `step`. -/
theorem stepTakesTheFront : Obligations.StepTakesTheFront :=
  ⟨fun _ _ _ => step_cons, fun _ => step_nil⟩

/-- The state that a command makes, which every command does. -/
theorem exec_eq_nextOf (i : Instr) (s : State) : exec i s = .next ((nextOf (exec i s)).getD s) := by
  obtain ⟨t, h⟩ := exec_next i s
  simp [h, nextOf]

/-- A command's meaning does not look at the queue behind it. -/
theorem exec_queue {i : Instr} {s t : State} (h : exec i s = .next t) (l : List Instr) :
    exec i { s with pending := l } = .next { t with pending := l } := by
  obtain ⟨f, hf⟩ := exec_is_act i
  rw [hf] at h ⊢
  cases h
  rfl

/-- The commands of a list, one after another. -/
def execAll (s : State) (l : List Instr) : State := l.foldl (fun u i => (nextOf (exec i u)).getD u) s

theorem run_queue (l : List Instr) (s : State) (h : s.pending = l) :
    Sys2Proof.core.run l.length s = .next (execAll { s with pending := [] } l) := by
  induction l generalizing s with
  | nil => cases s; cases h; rfl
  | cons i is ih =>
    obtain ⟨t, ht⟩ := exec_next i { s with pending := is }
    have hstep : Sys2Proof.core.step s = .next t := (step_cons h).trans ht
    have hnext : exec i { s with pending := [] } = .next { t with pending := [] } := exec_queue ht []
    calc Sys2Proof.core.run (i :: is).length s
        = Sys2Proof.core.run is.length t := by simp only [List.length_cons, Host.Core.run, hstep]
      _ = .next (execAll { t with pending := [] } is) := ih t (exec_pending ht).1
      _ = .next (execAll { s with pending := [] } (i :: is)) := by simp [execAll, hnext, nextOf]

theorem execAll_pending (l : List Instr) (s : State) : (execAll s l).pending = s.pending := by
  induction l generalizing s with
  | nil => rfl
  | cons i is ih => exact (ih _).trans (exec_pending (exec_eq_nextOf i s)).1

/-- Settles O2, by induction on the queue: a command's meaning does not look at what waits behind it. -/
theorem queueRunsInOrder : Obligations.QueueRunsInOrder := fun l s h =>
  ⟨_, run_queue l s h, execAll_pending l _, rfl⟩

/-- Every command keeps the canonical form of host memory. -/
theorem exec_wf {i : Instr} {s t : State} (hw : Memory.wf s.hostMem = true) (h : exec i s = .next t) :
    Memory.wf t.hostMem = true := by
  obtain ⟨f, hf⟩ := exec_is_act i
  rw [hf] at h
  cases h
  exact State.after_wf hw _

/-- Settles O3: the writes of a step reach host memory byte by byte, each in its place. -/
theorem stepKeepsMemoryCanonical : Obligations.StepKeepsMemoryCanonical := by
  intro s t hw _ h
  cases hp : s.pending with
  | nil =>
    rw [step_nil hp] at h
    cases h
    exact ⟨State.after_wf hw _, rfl, hp⟩
  | cons i is =>
    rw [step_cons hp] at h
    obtain ⟨hq, hwr⟩ := exec_pending h
    exact ⟨exec_wf (s := { s with pending := is }) hw h, hwr, hq⟩

end Sys2Proof.Machine

/-! PROOFS. The state after reset (O4), buffers in host memory (O5), and the order of a command's checks (O6). -/
namespace Sys2Proof.Machine

theorem Dev.command_unheard {d : Dev} {c : Cmd} (h : d.hears c.path = false) (op : Op) : d.command op c = d := by
  simp [Dev.command, h]

/-- Settles O4: the reset state is a literal, and its ROM serves no path. -/
theorem resetState : Obligations.ResetState :=
  ⟨rfl, rfl, rfl, rfl, rfl, rfl, rfl, rfl, rfl, fun _ => rfl, rfl, rfl, fun op _ => Dev.command_unheard rfl op⟩

/-! ### A run of bytes in host memory (14 R408, 13 R389, R401) -/

theorem Memory.read_cellsSet_outside {m : List Host.Cell} {a x : Nat} {bs : List Byte} (h : x < a ∨ a + bs.length ≤ x) :
    Memory.read (cellsSet m a bs) x = Memory.read m x := by
  induction bs generalizing m a with
  | nil => rfl
  | cons b bs ih =>
    rw [List.length_cons] at h
    rw [cellsSet, ih (by omega), Memory.read_cellSet_ne m b (by omega)]

theorem Memory.read_cellsSet_inside {m : List Host.Cell} {a i : Nat} {bs : List Byte} {b : Byte} (h : bs[i]? = some b) :
    Memory.read (cellsSet m a bs) (a + i) = some b := by
  induction bs generalizing m a i with
  | nil => simp at h
  | cons b' bs ih =>
    cases i with
    | zero =>
      obtain rfl : b' = b := by simpa using h
      rw [cellsSet, Nat.add_zero, Memory.read_cellsSet_outside (by omega)]
      exact Memory.read_cellSet_self m a b'
    | succ i =>
      rw [cellsSet, ← Nat.add_assoc, Nat.add_right_comm]
      exact ih (by simpa using h)

/-- Only the channels 8 to 11 have a buffer elsewhere, their transfer area (13 R386). -/
theorem Dev.toBuffer_host (d : Dev) {p : Path} (hp : ∀ ch, p = .mbx ch → ch.val < 8 ∨ 11 < ch.val) (a : Nat) (bs : List Byte) :
    d.toBuffer p a bs = d.dma a bs := by
  cases p with
  | mbx ch => exact if_neg (by have := hp ch rfl; omega)
  | ring | mgmt | site | field => rfl

/-- Settles O5: the buffer's bytes are the one write of the step. -/
theorem bufferWritesStayInside : Obligations.BufferWritesStayInside := by
  intro s d p a bs hd hp
  have hmem : (s.after (d.toBuffer p a bs)).hostMem = cellsSet s.hostMem a bs := by
    simp [d.toBuffer_host hp, hd, applyWrites]
  refine ⟨fun i b h => ?inside, fun x h => ?outside, ?device, rfl⟩
  case inside => rw [hmem, Memory.read_cellsSet_inside h]
  case outside => rw [hmem, Memory.read_cellsSet_outside h]
  case device => rw [d.toBuffer_host hp, State.after, Dev.dma, ← hd]

/-! ### The checks of 13 R397, in their order -/

section Checks
variable {d : Dev} {op : Op} {c : Cmd}

theorem Dev.command_deferred (hears : d.hears c.path = true) (hdef : d.defers op = true) :
    d.command op c = { d.wake 3 with
      blw := { (d.wake 3).blw with deferred := (d.wake 3).blw.deferred ++ [(op, c)] }
      reply := { tag := c.tag, epoch := d.epoch, pendingDone := true } } := by
  simp [Dev.command, hears, Dev.take, hdef, later']

theorem Dev.command_handled {r : Res} {e : Rc} (hears : d.hears c.path = true) (hdef : d.defers op = false)
    (h : d.handle op c = r) (he : r.code = some e) :
    d.command op c = r.st.answer e c.tag r.words (d.replyEpoch op c e) := by
  simp [Dev.command, hears, Dev.take, hdef, h, he]

/-- Only SUCCESS and ACCEPTED_ASYNC name another epoch than the current one. -/
theorem Dev.replyEpoch_else {e : Rc} (hs : e ≠ .success) (ha : e ≠ .acceptedAsync) : d.replyEpoch op c e = d.epoch := by
  simp [Dev.replyEpoch, hs, ha]

/-- The codes of checks 2 to 6 are neither SUCCESS nor ACCEPTED_ASYNC. -/
theorem Dev.gateCheck_code {n : Nat} {e : Rc} (h : d.gateCheck op c = some (n, e)) : e ≠ .success ∧ e ≠ .acceptedAsync := by
  have hsec : ∀ x, d.secCheck op c = some x → x ≠ .success ∧ x ≠ .acceptedAsync := by
    intro x hx
    unfold Dev.secCheck at hx
    split_ifs at hx <;> cases hx <;> decide
  unfold Dev.gateCheck at h
  cases hx : d.secCheck op c with
  | some x =>
    simp only [hx] at h
    split_ifs at h <;> cases h
    · decide
    · decide
    · decide
    · exact hsec e hx
  | none =>
    simp only [hx] at h
    split_ifs at h <;> cases h <;> decide

theorem Dev.handle_gate {n : Nat} {e : Rc} (hw : d.withArea op c = c) (h : d.gateCheck op c = some (n, e)) :
    d.handle op c = ⟨some e, refusalWords op, d.countOrder c.path n⟩ := by
  simp [Dev.handle, hw, h]

/-- Past checks 1 to 6 the outcome of checks 7 and 8 is counted, and answered. -/
theorem Dev.command_late {n : Nat} {e : Rc} {r : Res} (hears : d.hears c.path = true) (hdef : d.defers op = false)
    (hw : d.withArea op c = c) (hg : d.gateCheck op c = none) (hl : d.lateChecks op c = (n, r)) (he : r.code = some e) :
    d.command op c = (if rcAccepted e then r.st.countAccepted c.path else r.st.countOrder c.path n).answer e c.tag r.words
      (d.replyEpoch op c e) := by
  have hh : d.handle op c = { r with st := if rcAccepted e then r.st.countAccepted c.path else r.st.countOrder c.path n } := by
    cases ha : rcAccepted e <;> simp [Dev.handle, hw, hg, hl, he, ha]
  exact Dev.command_handled hears hdef hh he

/-- Check 7 on a port whose transaction has expired. -/
theorem Dev.lateChecks_expired (hs : (opInfo op).staged = true) (ht : (d.tport (pathPort c.path)).st = .expired) :
    d.lateChecks op c = (7, ⟨some .txnExpired, refusalWords op, d⟩) := by
  simp [Dev.lateChecks, Dev.portExpired, hs, ht]

/-- Check 7 on a port with an open transaction and room in it. -/
theorem Dev.lateChecks_staged (hs : (opInfo op).staged = true) (ht : (d.tport (pathPort c.path)).st = .opened)
    (hroom : (d.tport (pathPort c.path)).staged.length < 256) (hcls : (opInfo op).cls ≠ .halted ∨ unstagedGroup op = true)
    (htrk : op ≠ .trkLoad) (hf : fieldsOk (opFields c op) c = true) :
    d.lateChecks op c = (7, ⟨some .txnStaged, [],
      d.tportMod (pathPort c.path) fun t => { t with staged := t.staged ++ [{ op := op, cmd := c }] }⟩) := by
  have hstage : d.stageCheck op c = .stage := by
    rcases hcls with h | h <;> simp [Dev.stageCheck, ht, hs, htrk, h, hroom]
  simp [Dev.lateChecks, Dev.portExpired, ht, hf, hstage]

/-! Checks 2 to 6 of a device that is READY. -/

section Gate
variable (hready : d.gen.phase = .ready) (hlen : c.words.length = (opInfo op).reqWords) (hrank : pathRank c.path ≤ opRank op c)
include hready

theorem Dev.gateCheck_length (h : c.words.length ≠ (opInfo op).reqWords) : d.gateCheck op c = some (2, .msgLength) := by
  simp [Dev.gateCheck, hready, h]

include hlen

theorem Dev.gateCheck_rank (h : opRank op c < pathRank c.path) : d.gateCheck op c = some (3, .noAuthority) := by
  simp [Dev.gateCheck, hready, hlen, h]

include hrank

theorem Dev.gateCheck_sec {e : Rc} (h : d.secCheck op c = some e) : d.gateCheck op c = some (4, e) := by
  simp [Dev.gateCheck, hready, hlen, Nat.not_lt.mpr hrank, h]

theorem Dev.gateCheck_buf (hsec : d.secCheck op c = none) (h : bufOk op c = false) :
    d.gateCheck op c = some (5, .noDmaPath) := by
  simp [Dev.gateCheck, hready, hlen, Nat.not_lt.mpr hrank, hsec, h]

theorem Dev.gateCheck_zero (hsec : d.secCheck op c = none) (hb : bufOk op c = true) (hstd : (opInfo op).buf = .std)
    (hop : op ≠ .isbSend) (h : bufLen op c = 0) : d.gateCheck op c = some (6, .zeroLength) := by
  simp [Dev.gateCheck, hready, hlen, Nat.not_lt.mpr hrank, hsec, hb, hstd, hop, h]

end Gate

theorem Dev.secCheck_ready (hready : d.gen.phase = .ready) : d.secCheck op c =
    if keyClass op && !d.secPath c.path then some .notSecChannel
    else if d.secPath c.path && !keyClass op && !secPasses op then some .secOnlyChannel else none := by
  simp [Dev.secCheck, hready]

/-- Settles O6: each check answers on its own terms once those before it find nothing. -/
theorem checksComeInOrder : Obligations.ChecksComeInOrder := by
  refine ⟨fun d op c h => Dev.command_unheard h op, fun d op c hh hd => ⟨_, rfl, Dev.command_deferred hh hd⟩,
    fun d op c hh hd hw hready => ⟨?failed, Dev.gateCheck_length hready,
      fun hlen => ⟨Dev.gateCheck_rank hready hlen, fun hrank => ⟨?notSec, ?secOnly, fun hkey hsec => ?buffer⟩⟩, ?staged, ?expired⟩⟩
  case failed =>
    intro n e _ h
    obtain ⟨hs, ha⟩ := Dev.gateCheck_code h
    simpa [Dev.replyEpoch_else hs ha] using Dev.command_handled hh hd (Dev.handle_gate hw h) rfl
  case notSec =>
    intro hk hp
    exact Dev.gateCheck_sec hready hlen hrank (by simp [Dev.secCheck_ready hready, hk, hp])
  case secOnly =>
    intro hk hs hp
    exact Dev.gateCheck_sec hready hlen hrank (by simp [Dev.secCheck_ready hready, hk, hp, hs])
  case buffer =>
    have hnone : d.secCheck op c = none := by
      rw [Dev.secCheck_ready hready]
      rcases hkey with h | ⟨h, h'⟩ <;> cases hk : keyClass op <;> simp_all
    exact ⟨Dev.gateCheck_buf hready hlen hrank hnone, Dev.gateCheck_zero hready hlen hrank hnone⟩
  case staged =>
    intro hg hs ht hroom hcls htrk hf
    have h := Dev.command_late hh hd hw hg (Dev.lateChecks_staged hs ht hroom hcls htrk hf) rfl
    rwa [if_pos (by decide), Dev.replyEpoch_else (by decide) (by decide)] at h
  case expired =>
    intro hg hs ht
    have h := Dev.command_late hh hd hw hg (Dev.lateChecks_expired hs ht) rfl
    rwa [if_neg (by decide), Dev.replyEpoch_else (by decide) (by decide)] at h

end Checks

end Sys2Proof.Machine

/-! PROOFS. A command of the catalogue once its checks pass: its own meaning decides the next state. One lemma for each way in
which a meaning answers, for commands without and with a buffer. -/
namespace Sys2Proof.Machine

/-- A command whose meaning is its row of `runPlain` alone: no transaction command, none of Orchard, not BOOT_RESET. -/
def plainOp (op : Op) : Bool := opGroup op != 1 && opGroup op != 6 && op != .bootReset

/-- A plain command that applies at once and names no buffer. -/
def directOp (op : Op) : Bool := plainOp op && decide ((opInfo op).cls ≠ .epoch) && decide ((opInfo op).buf = .none)

/-- A plain command that applies at once and names a buffer. -/
def bufferOp (op : Op) : Bool := plainOp op && decide ((opInfo op).cls ≠ .epoch)

/-- A plain command that waits for the boundary. -/
def epochOp (op : Op) : Bool := plainOp op && decide ((opInfo op).cls = .epoch) && decide ((opInfo op).buf = .none)

section
variable {op : Op}

theorem plainOp_iff : plainOp op = true ↔ opGroup op ≠ 1 ∧ opGroup op ≠ 6 ∧ op ≠ .bootReset := by
  simp [plainOp, and_assoc]

theorem bufferOp_iff : bufferOp op = true ↔ plainOp op = true ∧ (opInfo op).cls ≠ .epoch := by
  simp [bufferOp]

theorem directOp_iff : directOp op = true ↔ bufferOp op = true ∧ (opInfo op).buf = .none := by
  simp [directOp, bufferOp]

theorem epochOp_iff : epochOp op = true ↔ plainOp op = true ∧ (opInfo op).cls = .epoch ∧ (opInfo op).buf = .none := by
  simp [epochOp, and_assoc]

end

/-! ### The operands do not change with the data of a transfer area -/

section
variable (d : Dev) (op : Op) (c : Cmd)

@[simp] theorem arg_withArea (i : Nat) : arg (d.withArea op c) i = arg c i := by rw [arg, Dev.withArea_words, arg]
@[simp] theorem argF_withArea (i lo n : Nat) : argF (d.withArea op c) i lo n = argF c i lo n := by simp [argF]
@[simp] theorem argB_withArea (i lo : Nat) : argB (d.withArea op c) i lo = argB c i lo := by simp [argB]
@[simp] theorem argI_withArea (i : Nat) : argI (d.withArea op c) i = argI c i := by simp [argI]
@[simp] theorem arg64_withArea (i : Nat) : arg64 (d.withArea op c) i = arg64 c i := by simp [arg64]
@[simp] theorem withArea_path_eq : (d.withArea op c).path = c.path := d.withArea_path op c
@[simp] theorem withArea_tag_eq : (d.withArea op c).tag = c.tag := d.withArea_tag op c

end

/-! ### The answer of a meaning is the answer of the command -/

section Taken
variable {i : Instr} {op : Op} {c : Cmd} {s : State} {st : Dev} {ws : List Word} {e : Rc}

theorem exec_of_command {x : Dev} (hi : i.cmd? = some (op, c)) (hb : op ≠ .bootReset) (h : s.dev.command op c = x) :
    exec i s = .next (s.after x) := by
  rw [exec_command i op c hi hb s, act, h]

/-- A meaning that answers `r` with a code, whatever the code. -/
theorem Dev.command_answered {d : Dev} {r : Res} (ha : d.accepts op c = true) (hc : (opInfo op).cls ≠ .epoch)
    (hr : d.runOp op (d.withArea op c) = r) (he : r.code = some e)
    (hw : r.words ≠ [] ∨ rcAccepted e = true ∨ refusalWords op = []) :
    d.command op c = (if rcAccepted e then r.st.countAccepted c.path else r.st.countOrder c.path 8).answer e c.tag r.words
      (d.replyEpoch op c e) := by
  obtain ⟨h1, h2⟩ := Dev.accepts_take ha
  have hl : ¬((opInfo op).cls ≠ .none ∧ d.locked op (d.withArea op c) = true) := by
    simp only [Dev.accepts, Bool.and_eq_true, Bool.or_eq_true, Bool.not_eq_true', decide_eq_true_eq] at ha
    rintro ⟨hn, hlk⟩
    rcases ha.2 with h | h
    · exact hn h
    · simp [h] at hlk
  have hn : d.runNow op (d.withArea op c) = r := by
    rw [Dev.runNow, if_neg hl, hr]
    obtain ⟨code, words, st⟩ := r
    rcases hw with h | h | h
    · simp_all
    · simp_all
    · cases words <;> simp_all
  cases hacc : rcAccepted e <;> simp [Dev.command, h1, h2, hn, he, hacc]

/-- A buffered command that succeeds. -/
theorem exec_done_area (hi : i.cmd? = some (op, c)) (hp : bufferOp op = true) (ha : s.dev.accepts op c = true)
    (hr : runPlain op (s.dev.withArea op c) s.dev = done st ws) : exec i s = .next (s.replied c st ws) := by
  obtain ⟨hplain, hcls⟩ := bufferOp_iff.mp hp
  obtain ⟨h1, h6, hb⟩ := plainOp_iff.mp hplain
  exact exec_of_command hi hb (Dev.command_done ha hcls (Dev.runOp_plain h6 h1 hr))

/-- A buffered command that completes later. -/
theorem exec_later_area (hi : i.cmd? = some (op, c)) (hp : bufferOp op = true) (ha : s.dev.accepts op c = true)
    (hr : runPlain op (s.dev.withArea op c) s.dev = later' st) : exec i s = .next (s.underway c st) := by
  obtain ⟨hplain, hcls⟩ := bufferOp_iff.mp hp
  obtain ⟨h1, h6, hb⟩ := plainOp_iff.mp hplain
  exact exec_of_command hi hb (Dev.command_later ha hcls (Dev.runOp_later h6 h1 hr))

/-- A command that its own checks refuse, buffered or not, at once or at the boundary. -/
theorem exec_refused_area (hi : i.cmd? = some (op, c)) (hp : plainOp op = true) (he : rcAccepted e = false)
    (ha : s.dev.accepts op c = true) (hr : runPlain op (s.dev.withArea op c) s.dev = refuse s.dev e) :
    exec i s = .next (s.turnedDown op c 8 e) := by
  obtain ⟨h1, -, hb⟩ := plainOp_iff.mp hp
  exact exec_of_command hi hb (Dev.command_refused ha (Dev.runOp_refuse h1 he hr) he)

/-- A command without a buffer that succeeds. -/
theorem exec_done (hi : i.cmd? = some (op, c)) (hp : directOp op = true) (ha : s.dev.accepts op c = true)
    (hr : runPlain op c s.dev = done st ws) : exec i s = .next (s.replied c st ws) := by
  obtain ⟨hbuf, hnone⟩ := directOp_iff.mp hp
  exact exec_done_area hi hbuf ha (by rwa [Dev.withArea_none _ _ _ hnone])

/-- A command without a buffer that completes later. -/
theorem exec_later (hi : i.cmd? = some (op, c)) (hp : directOp op = true) (ha : s.dev.accepts op c = true)
    (hr : runPlain op c s.dev = later' st) : exec i s = .next (s.underway c st) := by
  obtain ⟨hbuf, hnone⟩ := directOp_iff.mp hp
  exact exec_later_area hi hbuf ha (by rwa [Dev.withArea_none _ _ _ hnone])

/-- A command without a buffer that its own checks refuse. -/
theorem exec_refused (hi : i.cmd? = some (op, c)) (hp : plainOp op = true) (hn : (opInfo op).buf = .none)
    (he : rcAccepted e = false) (ha : s.dev.accepts op c = true) (hr : runPlain op c s.dev = refuse s.dev e) :
    exec i s = .next (s.turnedDown op c 8 e) :=
  exec_refused_area hi hp he ha (by rwa [Dev.withArea_none _ _ _ hn])

/-- A write of an EPOCH field whose own checks succeed waits in the shadow. -/
theorem exec_waits (hi : i.cmd? = some (op, c)) (hp : epochOp op = true) (ha : s.dev.accepts op c = true)
    (hr : runPlain op c s.dev = done st ws) :
    exec i s = .next (s.waits op c ws) ∧ s.dev.runOp op c = done st ws := by
  obtain ⟨hplain, hcls, hnone⟩ := epochOp_iff.mp hp
  obtain ⟨h1, h6, hb⟩ := plainOp_iff.mp hplain
  have hrun := Dev.runOp_plain h6 h1 hr
  exact ⟨exec_of_command hi hb (Dev.command_waits ha hcls hnone hrun), hrun⟩

end Taken

/-! ### Pending reads -/

/-- 03 R108: a read is posted while its path holds fewer than 16. -/
theorem pendRead_posts {k : ReadKind} {c : Cmd} {d : Dev} (h : (d.reads.filter fun r => r.path == c.path).length < 16) :
    pendRead k c d = later' { d with reads := d.reads ++
      [{ kind := k, path := c.path, tag := c.tag, addr := arg64 c 1, len := (arg c 3).toNat, at_ := d.tbs.mono }] } := by
  rw [pendRead, if_neg (by omega)]

/-- The same for the command with the data of its transfer area. -/
theorem pendRead_area {k : ReadKind} {op : Op} {c : Cmd} {d : Dev} (h : (d.reads.filter fun r => r.path == c.path).length < 16) :
    pendRead k (d.withArea op c) d = later' { d with reads := d.reads ++
      [{ kind := k, path := c.path, tag := c.tag, addr := arg64 c 1, len := (arg c 3).toNat, at_ := d.tbs.mono }] } := by
  rw [pendRead_posts (by simpa using h)]
  simp

end Sys2Proof.Machine

/-! PROOFS. What records, interrupts and the passing of time leave alone. -/
namespace Sys2Proof.Machine

/-- A record changes the recorder and the GEN block alone (16 R446). -/
@[simp] theorem Dev.recordRaw_keeps (d : Dev) (code : Nat) (slot : Byte) (p : List Byte) :
    (d.recordRaw code slot p).tbs = d.tbs ∧ (d.recordRaw code slot p).gnss = d.gnss ∧ (d.recordRaw code slot p).ref = d.ref
    ∧ (d.recordRaw code slot p).fix = d.fix ∧ (d.recordRaw code slot p).orc = d.orc ∧ (d.recordRaw code slot p).prf = d.prf
    ∧ (d.recordRaw code slot p).bgl = d.bgl ∧ (d.recordRaw code slot p).rad = d.rad ∧ (d.recordRaw code slot p).sw = d.sw
    ∧ (d.recordRaw code slot p).sch = d.sch ∧ (d.recordRaw code slot p).blw = d.blw ∧ (d.recordRaw code slot p).ifc = d.ifc
    ∧ (d.recordRaw code slot p).mbx = d.mbx ∧ (d.recordRaw code slot p).cr = d.cr ∧ (d.recordRaw code slot p).txn = d.txn
    ∧ (d.recordRaw code slot p).sec = d.sec ∧ (d.recordRaw code slot p).upd = d.upd
    ∧ (d.recordRaw code slot p).shadow = d.shadow ∧ (d.recordRaw code slot p).shadowNext = d.shadowNext
    ∧ (d.recordRaw code slot p).reads = d.reads ∧ (d.recordRaw code slot p).asyncQ = d.asyncQ
    ∧ (d.recordRaw code slot p).reply = d.reply ∧ (d.recordRaw code slot p).writes = d.writes
    ∧ (d.recordRaw code slot p).free = d.free := by
  obtain ⟨e, g, h⟩ := d.recordRaw_only code slot p
  rw [h]
  exact ⟨rfl, rfl, rfl, rfl, rfl, rfl, rfl, rfl, rfl, rfl, rfl, rfl, rfl, rfl, rfl, rfl, rfl, rfl, rfl, rfl, rfl, rfl, rfl, rfl⟩

@[simp] theorem Dev.log_keeps (d : Dev) (code : Nat) (p : List Byte) :
    (d.log code p).tbs = d.tbs ∧ (d.log code p).gnss = d.gnss ∧ (d.log code p).ref = d.ref ∧ (d.log code p).fix = d.fix
    ∧ (d.log code p).orc = d.orc ∧ (d.log code p).prf = d.prf ∧ (d.log code p).bgl = d.bgl ∧ (d.log code p).rad = d.rad
    ∧ (d.log code p).sw = d.sw ∧ (d.log code p).sch = d.sch ∧ (d.log code p).blw = d.blw ∧ (d.log code p).ifc = d.ifc
    ∧ (d.log code p).mbx = d.mbx ∧ (d.log code p).cr = d.cr ∧ (d.log code p).txn = d.txn ∧ (d.log code p).sec = d.sec
    ∧ (d.log code p).upd = d.upd ∧ (d.log code p).shadow = d.shadow ∧ (d.log code p).shadowNext = d.shadowNext
    ∧ (d.log code p).reads = d.reads ∧ (d.log code p).asyncQ = d.asyncQ ∧ (d.log code p).reply = d.reply
    ∧ (d.log code p).writes = d.writes ∧ (d.log code p).free = d.free :=
  d.recordRaw_keeps code 0xFF p

/-- An interrupt changes the GEN block alone (12 R359). -/
@[simp] theorem Dev.irqIf_keeps (d : Dev) (n : Nat) (b : Bool) :
    (d.irqIf n b).tbs = d.tbs ∧ (d.irqIf n b).gnss = d.gnss ∧ (d.irqIf n b).ref = d.ref ∧ (d.irqIf n b).fix = d.fix
    ∧ (d.irqIf n b).orc = d.orc ∧ (d.irqIf n b).prf = d.prf ∧ (d.irqIf n b).rad = d.rad
    ∧ (d.irqIf n b).sw = d.sw ∧ (d.irqIf n b).sch = d.sch ∧ (d.irqIf n b).blw = d.blw ∧ (d.irqIf n b).ifc = d.ifc
    ∧ (d.irqIf n b).mbx = d.mbx ∧ (d.irqIf n b).cr = d.cr ∧ (d.irqIf n b).txn = d.txn ∧ (d.irqIf n b).sec = d.sec
    ∧ (d.irqIf n b).evr = d.evr ∧ (d.irqIf n b).upd = d.upd ∧ (d.irqIf n b).shadow = d.shadow
    ∧ (d.irqIf n b).shadowNext = d.shadowNext ∧ (d.irqIf n b).reads = d.reads ∧ (d.irqIf n b).asyncQ = d.asyncQ
    ∧ (d.irqIf n b).reply = d.reply ∧ (d.irqIf n b).writes = d.writes ∧ (d.irqIf n b).free = d.free := by
  obtain ⟨g, h⟩ := d.irqIf_only n b
  rw [h]
  exact ⟨rfl, rfl, rfl, rfl, rfl, rfl, rfl, rfl, rfl, rfl, rfl, rfl, rfl, rfl, rfl, rfl, rfl, rfl, rfl, rfl, rfl, rfl, rfl, rfl⟩

/-- Elapsed time goes on to an instant, and is not gone back (log entry 5). -/
@[simp] theorem Dev.advanceMono_mono (d : Dev) (t : Nat) : (d.advanceMono t).tbs.mono = max d.tbs.mono t := by
  rw [Dev.advanceMono, Dev.advance_mono]
  omega

/-- What the passing of elapsed time leaves alone. -/
@[simp] theorem Dev.advanceMono_rest (d : Dev) (n : Nat) :
    (d.advanceMono n).gen = d.gen ∧ (d.advanceMono n).gnss = d.gnss ∧ (d.advanceMono n).ref = d.ref ∧ (d.advanceMono n).fix = d.fix
    ∧ (d.advanceMono n).orc = d.orc ∧ (d.advanceMono n).prf = d.prf ∧ (d.advanceMono n).bgl = d.bgl ∧ (d.advanceMono n).rad = d.rad
    ∧ (d.advanceMono n).sw = d.sw ∧ (d.advanceMono n).sch = d.sch ∧ (d.advanceMono n).ifc = d.ifc ∧ (d.advanceMono n).mbx = d.mbx
    ∧ (d.advanceMono n).cr = d.cr ∧ (d.advanceMono n).txn = d.txn ∧ (d.advanceMono n).sec = d.sec ∧ (d.advanceMono n).upd = d.upd
    ∧ (d.advanceMono n).shadow = d.shadow ∧ (d.advanceMono n).shadowNext = d.shadowNext ∧ (d.advanceMono n).reads = d.reads
    ∧ (d.advanceMono n).asyncQ = d.asyncQ ∧ (d.advanceMono n).reply = d.reply ∧ (d.advanceMono n).writes = d.writes
    ∧ (d.advanceMono n).free = d.free := d.advance_rest _

@[simp] theorem Dev.advanceTo_rest (d : Dev) (n : Nat) :
    (d.advanceTo n).gen = d.gen ∧ (d.advanceTo n).gnss = d.gnss ∧ (d.advanceTo n).ref = d.ref ∧ (d.advanceTo n).fix = d.fix
    ∧ (d.advanceTo n).orc = d.orc ∧ (d.advanceTo n).prf = d.prf ∧ (d.advanceTo n).bgl = d.bgl ∧ (d.advanceTo n).rad = d.rad
    ∧ (d.advanceTo n).sw = d.sw ∧ (d.advanceTo n).sch = d.sch ∧ (d.advanceTo n).ifc = d.ifc ∧ (d.advanceTo n).mbx = d.mbx
    ∧ (d.advanceTo n).cr = d.cr ∧ (d.advanceTo n).txn = d.txn ∧ (d.advanceTo n).sec = d.sec ∧ (d.advanceTo n).upd = d.upd
    ∧ (d.advanceTo n).shadow = d.shadow ∧ (d.advanceTo n).shadowNext = d.shadowNext ∧ (d.advanceTo n).reads = d.reads
    ∧ (d.advanceTo n).asyncQ = d.asyncQ ∧ (d.advanceTo n).reply = d.reply ∧ (d.advanceTo n).writes = d.writes
    ∧ (d.advanceTo n).free = d.free := d.advance_rest _

end Sys2Proof.Machine

/-! PROOFS. Updates of one entry of a table: only the entry's present value counts. -/
namespace Sys2Proof.Machine

/-- Two updates that agree on the entry make the same table. -/
theorem tmod_congr {α : Type} [DecidableEq α] {a : α} {t : Tab α} {k : Nat} {f g : α → α}
    (h : f (tget a t k) = g (tget a t k)) : tmod a t k f = tmod a t k g := by
  rw [tmod, tmod, h]

theorem Dev.fslotMod_congr {d : Dev} {k : Nat} {f g : FixSlot → FixSlot} (h : f (d.fslot k) = g (d.fslot k)) :
    d.fslotMod k f = d.fslotMod k g := by
  rw [Dev.fslotMod, Dev.fslotMod, tmod_congr h]

end Sys2Proof.Machine

/-! PROOFS. The commands of the tracking block (O22). -/
namespace Sys2Proof.Machine

/-- Settles O22: each command's own meaning, under the hypotheses that its checks ask for. -/
theorem gnssCommandsRun : Obligations.GnssCommandsRun := by
  rintro c s _ k ch rfl rfl rfl
  refine ⟨fun ha hen hlo hhi hcx hreal hcoh => exec_done rfl rfl ha ?laneCfg, fun ha hcfg => exec_done rfl rfl ha ?laneEn,
    fun ha hband hbits => exec_waits rfl rfl ha ?monCfg, fun ha => exec_waits rfl rfl ha rfl,
    fun n ha hsat hfcn htake hfor hdup => exec_done rfl rfl ha ?alloc, fun ha hn hid => exec_done rfl rfl ha ?free,
    fun ha hfit => exec_waits rfl rfl ha ?plan, fun ha hn hmode hwarm hst hlane hroom => exec_done rfl rfl ha ?acq,
    fun r ha hr => exec_done rfl rfl ha ?laneStatus, fun h ha hn hh => exec_done rfl rfl ha ?chanStatus,
    fun ha hroom => exec_later_area rfl rfl ha (pendRead_area hroom)⟩
  case laneCfg =>
    show gnsLaneCfgRun c s.dev = _
    have hok : ¬ ((arg c 1).toNat < 4000000 ∨ 125000000 < (arg c 1).toNat ∨ (argB c 0 6 ∧ argI c 3 ≠ 0)
        ∨ (!argB c 0 6 ∧ (argI c 3 ≤ 0 ∨ ((arg c 1).toNat : Int) ≤ 2 * argI c 3))
        ∨ (argB c 0 9 ∧ (argF c 4 0 16 = 0 ∨ argF c 4 16 16 = 0
          ∨ (arg c 1).toNat * argF c 4 16 16 ≠ s.dev.refHz * argF c 4 0 16))) := by
      rintro (h | h | ⟨h, h'⟩ | ⟨h, h'⟩ | ⟨h, h'⟩)
      · omega
      · omega
      · exact h' (hcx h)
      · have := hreal (by simpa using h); omega
      · obtain ⟨h1, h2, h3⟩ := hcoh h
        tauto
    rw [gnsLaneCfgRun, if_neg hok, if_neg (by simp [hen])]
    rfl
  case laneEn => exact if_pos hcfg
  case monCfg =>
    show gnsMonCfgRun c s.dev = _
    rw [gnsMonCfgRun, if_neg]
    rintro (h | ⟨h, h'⟩)
    · omega
    · simp [hbits h] at h'
  case alloc =>
    show gnsChanAllocRun c s.dev = _
    have hfcn' : ¬ ((signal (argF c 0 3 5)).gnss ≠ 1 ∧ argF c 0 17 4 ≠ 0) := by tauto
    have hdup' : (s.dev.gnss.chans.any fun x => x.2.ident == some (argF c 0 0 3, argF c 0 3 5, argF c 0 8 6, argF c 0 17 4)) = false := by
      simpa using hdup
    rw [gnsChanAllocRun]
    simp only [hfor, htake, hdup']
    rw [if_neg (by omega)]
    rfl
  case free =>
    show gnsChanFreeRun c s.dev = _
    rw [gnsChanFreeRun, if_neg (by omega), if_neg (by simpa [Option.isSome_iff_ne_none] using hid)]
  case plan => exact if_pos hfit
  case acq =>
    show gnsAcqRun c s.dev = _
    have hw : ¬ (argF c 0 11 2 = 1 ∧ (argF c 2 0 16 = 0 ∨ 2000 < argF c 2 0 16)) := by omega
    rw [gnsAcqRun, if_neg (by omega), if_neg hw, if_neg hst, if_neg (by simp [hlane]), if_neg (by omega)]
    simp [show argF c 0 11 2 ≠ 2 by omega, Dev.acqPush, hroom, Dev.chanMod]
  case laneStatus => subst hr; rfl
  case chanStatus =>
    subst hh
    exact if_neg (by omega)

end Sys2Proof.Machine

/-! PROOFS. The commands of the reference station (O24) and its events (O25). -/
namespace Sys2Proof.Machine

/-- 04 R114: the antenna reference point may change while Bugle issues no token and Orchard holds nothing. -/
theorem Dev.arpBusy_false {d : Dev} (hgo : d.goActive = false) (hst : d.orc.store = []) : d.arpBusy = false := by
  simp [Dev.arpBusy, hgo, hst]

/-- Settles O24: each command's own meaning, under the hypotheses that its checks ask for. -/
theorem referenceCommandsRun : Obligations.ReferenceCommandsRun := by
  rintro c s _ rfl
  refine ⟨fun ha hle hgo hst => exec_waits rfl rfl ha ?survey, fun ha hgo hst => exec_waits rfl rfl ha ?arpSet,
    fun ha => exec_waits rfl rfl ha rfl, fun ha => exec_waits rfl rfl ha rfl, fun ha => exec_waits rfl rfl ha rfl,
    fun ha hclr => exec_waits rfl rfl ha ?schedClear,
    fun e ha hclr he htyp hlo hhi hofs hmsm hrate => exec_waits rfl rfl ha ?schedSet,
    fun ha hrate hfit => exec_waits rfl rfl ha ?zfl, fun ha hname => exec_waits rfl rfl ha (if_neg hname),
    fun ha hen hroom hnew => exec_done rfl rfl ha ?userNew, fun ha hen => exec_done rfl rfl ha ?userGone,
    fun ha => exec_waits rfl rfl ha rfl, fun ha => exec_done rfl rfl ha rfl,
    fun ha hroom => exec_later_area rfl rfl ha ?corrRead⟩
  case survey =>
    show refArpSurveyRun c s.dev = _
    rw [refArpSurveyRun, if_neg (by omega), if_neg (by simp [Dev.arpBusy_false hgo hst])]
  case arpSet =>
    show refArpSetRun c s.dev = _
    rw [refArpSetRun, if_neg (by simp [Dev.arpBusy_false hgo hst])]
    rfl
  case schedClear => exact if_pos hclr
  case schedSet =>
    show refSchedSetRun c s.dev = _
    subst he
    have hval : (!rtcmType (argF c 1 0 12) || decide (argF c 1 12 10 < 1) || decide (600 < argF c 1 12 10)
        || decide (argF c 1 12 10 ≤ argF c 1 22 10)) = false := by
      simp only [Bool.or_eq_false_iff, Bool.not_eq_false', decide_eq_false_iff_not]
      refine ⟨⟨⟨htyp, ?_⟩, ?_⟩, ?_⟩ <;> dsimp only at hlo hhi hofs <;> omega
    rw [refSchedSetRun, if_neg (by simp [hclr]), if_neg (by simp only [hval]; decide),
      if_neg ?noDup, if_neg (by simp [hrate])]
    intro hdup
    split at hdup
    · next g h => exact absurd h (hmsm g)
    · cases hdup
  case zfl =>
    show refZflCfgRun c s.dev = _
    rw [refZflCfgRun, if_neg (by omega), if_neg (by simp [hfit])]
  case userNew =>
    show refNtripUserRun c s.dev = _
    rw [refNtripUserRun, if_neg (by simp [hen])]
    simp only [hnew]
    rw [if_neg (by simp; omega)]
    rfl
  case userGone => exact if_pos (by simp [hen])
  case corrRead =>
    show refCorrReadRun _ s.dev = _
    rw [refCorrReadRun, argF_withArea]
    exact pendRead_area hroom

/-! ### Events -/

theorem Dev.saveArp_ref (d : Dev) : d.saveArp.ref = d.ref := by
  unfold Dev.saveArp
  dsimp only
  split <;> rfl

theorem Dev.surveyHold_ref (d : Dev) : d.surveyHold.ref.arpSt = .held ∧ d.surveyHold.ref.arp = mean3 d.ref.svSum d.ref.svSolved := by
  simp [Dev.surveyHold, Dev.holdArp, Dev.saveArp_ref]

/-- Settles O25: the two ends of a survey that runs out of time, and the answers of the caster. -/
theorem referenceEvents : Obligations.ReferenceEvents := by
  rintro s _ rfl
  refine ⟨fun hsv hfew => ⟨_, rfl, ?lost⟩, fun hsv hsome hmany => ⟨_, rfl, ?held⟩, ?ntrip⟩
  case lost => simp [hsv, Nat.not_le.mpr hfew]
  case held => simp [hsv, hsome, hmany, Dev.surveyHold_ref]
  case ntrip =>
    rintro r _ rfl
    refine ⟨rfl, fun hv => by simp [Dev.ntripAnswer, hv], fun hv hr => by simp [Dev.ntripAnswer, hv, hr], fun o ho => ?_⟩
    simp only [Dev.ntripAnswer] at ho
    generalize hfind : List.find? _ _ = found at ho
    cases found with
    | none => split_ifs at ho
    | some o' =>
      dsimp only at ho
      split_ifs at ho
      cases ho
      exact ⟨by omega, List.mem_range.mp (List.mem_of_find?_eq_some hfind)⟩

end Sys2Proof.Machine

/-! PROOFS. The commands of positioning (O26) and its events (O27). -/
namespace Sys2Proof.Machine

/-- The status that FIX_STATUS shows (05 R164): an instant without a fix shows none. -/
def FixSlot.shownStatus (f : FixSlot) : Nat :=
  if f.reason = 1 ∨ f.reason = 2 ∨ f.reason = 11 then 0 else f.newest.elim 0 Pos.status

theorem FixSlot.shownStatus_le (f : FixSlot) : f.shownStatus ≤ 3 + f.newest.elim 0 Pos.status := by
  unfold FixSlot.shownStatus
  split_ifs <;> omega

theorem fixStatusRun_counts {c : Cmd} {d : Dev} {f : FixSlot} (hk : argF c 0 0 8 < d.nSlots) (hf : f = d.fslot (argF c 0 0 8))
    (hsel : argF c 0 8 2 = 0) : fixStatusRun c d = done d
      [word (f.mode + 4 * f.shownStatus + 32 * f.reason + 512 * b2n (d.posOk (argF c 0 0 8))), sat32 f.nAcc, sat32 f.nRef,
       sat32 f.nDup, sat32 f.nNon, sat32 f.nFixed, 0, 0] := by
  subst hf
  rw [fixStatusRun, if_neg (by omega), FixSlot.shownStatus]
  cases hn : (d.fslot (argF c 0 0 8)).newest <;> simp [hsel, hn]

/-- Settles O26: each command's own meaning, under the hypotheses that its checks ask for. -/
theorem positioningCommandsRun : Obligations.PositioningCommandsRun := by
  rintro c s _ k rfl rfl
  refine ⟨fun ha hk hmode hfit => exec_waits rfl rfl ha ?cfgKeep, fun ha hk hmode hbit hfit => exec_waits rfl rfl ha ?cfgMode,
    fun ha hk hmode hbit => exec_refused rfl rfl rfl rfl ha ?cfgMoving, fun t ha ht hair => exec_waits rfl rfl ha ?global,
    fun ha hk => exec_done rfl rfl ha (if_neg (by omega)), fun f ha hk hf => ?status,
    fun ha hroom => exec_later_area rfl rfl ha (pendRead_area hroom), fun ha => exec_done rfl rfl ha rfl⟩
  case cfgKeep =>
    show fixCfgRun c s.dev = _
    rw [fixCfgRun, if_neg (by omega), if_neg (by simp [hmode])]
    refine (if_pos hfit).trans (congrArg (done · []) (Dev.fslotMod_congr ?_))
    simp [hmode]
  case cfgMode =>
    show fixCfgRun c s.dev = _
    rw [fixCfgRun, if_neg (by omega), if_neg (by simp [hbit])]
    refine (if_pos hfit).trans (congrArg (done · []) (Dev.fslotMod_congr ?_))
    simp [hmode, FixSlot.restart]
  case cfgMoving =>
    show fixCfgRun c s.dev = _
    rw [fixCfgRun, if_neg (by omega), if_pos ⟨hmode, hbit⟩]
  case global =>
    subst ht
    refine if_pos ?_
    simp only [Dev.searchFits, List.all_eq_true, List.mem_range, decide_eq_true_eq]
    exact hair
  case status =>
    refine ⟨fun hsel => ⟨_, f.shownStatus_le, exec_done rfl rfl ha (fixStatusRun_counts hk hf hsel)⟩,
      fun hsel => exec_done rfl rfl ha ?low, fun hsel => exec_done rfl rfl ha ?high⟩
    all_goals subst hf
    case low =>
      show fixStatusRun c s.dev = _
      rw [fixStatusRun, if_neg (by omega), hsel]
      rfl
    case high =>
      show fixStatusRun c s.dev = _
      rw [fixStatusRun, if_neg (by omega), hsel]
      rfl

/-! ### Events -/

/-- A sample of a histogram changes the recorder alone. -/
theorem Dev.sample_only (d : Dev) (src p : Nat) (v : Int) : ∃ e : Recorder, d.sample src p v = { d with evr := e } := by
  have fold : ∀ (l : List Nat) (g : Dev → Nat → Dev) (_ : ∀ x k, ∃ e : Recorder, g x k = { x with evr := e }) (x : Dev),
      ∃ e : Recorder, l.foldl g x = { x with evr := e } := by
    intro l g hg
    induction l with
    | nil => exact fun x => ⟨x.evr, rfl⟩
    | cons k l ih =>
      intro x
      obtain ⟨e, he⟩ := hg x k
      obtain ⟨e', he'⟩ := ih (g x k)
      exact ⟨e', by rw [List.foldl_cons, he', he]⟩
  unfold Dev.sample
  dsimp only
  generalize hy : List.foldl _ d (List.range 64) = y
  obtain ⟨e, rfl⟩ : ∃ e : Recorder, y = { d with evr := e } := by
    rw [← hy]
    refine fold _ _ (fun x k => ?_) d
    split
    · exact ⟨_, rfl⟩
    · exact ⟨x.evr, rfl⟩
  refine (fold _ _ (fun x k => ?_) _).imp fun e' h => h
  split
  · exact ⟨_, rfl⟩
  · exact ⟨x.evr, rfl⟩

@[simp] theorem Dev.sample_fix (d : Dev) (src p : Nat) (v : Int) : (d.sample src p v).fix = d.fix := by
  obtain ⟨e, h⟩ := d.sample_only src p v
  rw [h]

/-- The end of a search once it is counted and sampled: it is validated for the instant that the slots await, or for the one
it was submitted for. -/
def Dev.searched (d : Dev) (q : Nat × Nat) (f : FilterIn) (r : SearchIn) : Dev :=
  let i := d.fix.inst.getD (q.2, d.tbs.mono - (d.tbs.time - q.2 * epU))
  if i.1 = q.2 then d.validate q.1 f r i else d.validate q.1 f r (q.2, d.tbs.mono - (d.tbs.time - q.2 * epU))

theorem Dev.searched_awaited {d : Dev} {q i : Nat × Nat} {f : FilterIn} {r : SearchIn} (hi : d.fix.inst = some i)
    (hiq : i.1 = q.2) : d.searched q f r = d.validate q.1 f r i := by
  simp [Dev.searched, hi, hiq]

/-- Settles O27: each event at its instant, with what it finds in the state. -/
theorem positioningEvents : Obligations.PositioningEvents := by
  rintro s _ rfl
  refine ⟨fun hdue hinst => ⟨?instant, rfl⟩, fun b i x y hi hx hy hlvl hus => ⟨?block, rfl⟩,
    fun i x hi hinst hx => ⟨?waitMono, ?wait⟩, fun k f i hk hmode hi hobs href hrec hfloat hn => ?filter,
    fun r q i qs f x hq hf hi hiq hx => ?search⟩
  case instant =>
    show execMeasurementInstant s = _
    exact act_next (by simp [hdue, hinst])
  case block =>
    show execMeasBlockReady b s = _
    refine act_next ?_
    simp only [hi, ← hx, ← hy]
    rw [if_neg hlvl, if_neg (by omega)]
  case waitMono => simp [hx]
  case wait =>
    show execRefWaitTimeout s = _
    obtain ⟨j, hj⟩ := Option.isSome_iff_exists.mp hinst
    refine act_next ?_
    simp only [hi, hj, ← hx, Dev.noRef]
    rfl
  case filter =>
    refine ⟨_, rfl, ?_⟩
    have hgo : ¬ (s.dev.nSlots ≤ k ∨ (s.dev.fslot k).mode ≠ 1 ∨ (s.dev.fslot k).obsFor ≠ some i.1
        ∨ s.dev.fix.refFor ≠ some i.1 ∨ (s.dev.fslot k).hostRec.isSome ∨ (s.dev.fslot k).float.isSome) := by
      simp [hmode, hobs, href, hrec, hfloat]; omega
    simp only [hi]
    rw [if_neg hgo, if_neg (by omega)]
    exact ⟨Dev.advanceMono_mono _ _, rfl, rfl, rfl⟩
  case search =>
    show execBrambleSearchDone r s = _
    have hn : ((cdiv r.nodes 1000 : Nat) : Int) = ((r.nodes : Int) + 999) / 1000 := by simp [cdiv]
    rw [← hn, ← Dev.searched_awaited (q := q) (by simp [hx, hi]) hiq]
    refine act_next ?_
    subst hx
    simp only [hq, hi, if_pos hiq, hf, Dev.advanceMono_rest, Dev.searched]

end Sys2Proof.Machine

/-! PROOFS. What a stop demand leaves alone, and a fleet stop while Bugle is up (08 R234, R244 to R246). -/
namespace Sys2Proof.Machine

/-- What the demand of a stop leaves of Bugle: the tokens and their marks. -/
def Bgl.tokenPart (b : Bgl) : Bool × List Byte × BitVec 192 × Nat × Nat := (b.noToken, b.token, b.bitmap, b.markGo, b.goIdx)

@[simp] theorem Dev.revealStop_tokenPart (d : Dev) : d.revealStop.1.bgl.tokenPart = d.bgl.tokenPart := by
  unfold Dev.revealStop Dev.stopGenSwitch
  dsimp only
  split <;> split <;> rfl

@[simp] theorem Dev.driveStopOut_tokenPart (d : Dev) : d.driveStopOut.bgl.tokenPart = d.bgl.tokenPart := by
  unfold Dev.driveStopOut
  split <;> rfl

theorem Dev.stopDemand_tokenPart (d : Dev) (cause : Nat) (fleet : Bool) (slots : BitVec 192) :
    (d.stopDemand cause fleet slots).1.bgl.tokenPart = d.bgl.tokenPart := by
  unfold Dev.stopDemand
  split
  · rfl
  · simp only [Dev.bglIrq_bgl, Dev.logStop_bgl, Dev.driveStopOut_tokenPart]
    split
    · exact d.revealStop_tokenPart
    · rfl

/-- A stop demand changes Bugle, the recorder and the GEN block alone, heard or not. -/
theorem Dev.stopDemand_only (d : Dev) (cause : Nat) (fleet : Bool) (slots : BitVec 192) : ∃ (b : Bgl) (e : Recorder) (g : Gen),
    (d.stopDemand cause fleet slots).1 = { d with bgl := b, evr := e, gen := g } := by
  by_cases hn : d.bgl.up = true ∧ (fleet = true ∨ slots ≠ 0)
  · obtain ⟨b, e, g, h, -⟩ := d.stopDemand_up cause fleet slots hn.1 hn.2
    exact ⟨b, e, g, h⟩
  · refine ⟨d.bgl, d.evr, d.gen, ?_⟩
    rw [Dev.stopDemand, if_pos]
    cases hu : d.bgl.up <;> cases fleet <;> simp_all

@[simp] theorem Dev.fleetStop_rest (d : Dev) (cause : Nat) :
    (d.fleetStop cause).tbs = d.tbs ∧ (d.fleetStop cause).gnss = d.gnss ∧ (d.fleetStop cause).ref = d.ref
    ∧ (d.fleetStop cause).fix = d.fix ∧ (d.fleetStop cause).orc = d.orc ∧ (d.fleetStop cause).prf = d.prf
    ∧ (d.fleetStop cause).rad = d.rad ∧ (d.fleetStop cause).sw = d.sw ∧ (d.fleetStop cause).sch = d.sch
    ∧ (d.fleetStop cause).blw = d.blw ∧ (d.fleetStop cause).ifc = d.ifc ∧ (d.fleetStop cause).mbx = d.mbx
    ∧ (d.fleetStop cause).cr = d.cr ∧ (d.fleetStop cause).txn = d.txn ∧ (d.fleetStop cause).sec = d.sec
    ∧ (d.fleetStop cause).upd = d.upd ∧ (d.fleetStop cause).shadow = d.shadow
    ∧ (d.fleetStop cause).shadowNext = d.shadowNext ∧ (d.fleetStop cause).reads = d.reads
    ∧ (d.fleetStop cause).asyncQ = d.asyncQ ∧ (d.fleetStop cause).reply = d.reply
    ∧ (d.fleetStop cause).writes = d.writes ∧ (d.fleetStop cause).free = d.free := by
  obtain ⟨b, e, g, h⟩ := d.stopDemand_only cause true 0
  rw [Dev.fleetStop, h]
  exact ⟨rfl, rfl, rfl, rfl, rfl, rfl, rfl, rfl, rfl, rfl, rfl, rfl, rfl, rfl, rfl, rfl, rfl, rfl, rfl, rfl, rfl, rfl, rfl⟩

@[simp] theorem Dev.fleetStop_tokenPart (d : Dev) (cause : Nat) : (d.fleetStop cause).bgl.noToken = d.bgl.noToken
    ∧ (d.fleetStop cause).bgl.token = d.bgl.token ∧ (d.fleetStop cause).bgl.bitmap = d.bgl.bitmap
    ∧ (d.fleetStop cause).bgl.markGo = d.bgl.markGo ∧ (d.fleetStop cause).bgl.goIdx = d.bgl.goIdx := by
  have h := d.stopDemand_tokenPart cause true 0
  simp only [Bgl.tokenPart, Prod.mk.injEq] at h
  exact h

/-- A fleet stop while Bugle is up: it joins the stops in force, GO_EN falls, and STOP_OUT is low. -/
theorem Dev.fleetStop_up (d : Dev) (cause : Nat) (hup : d.bgl.up = true) :
    (d.fleetStop cause).bgl.stops = joinStop ⟨cause, true, 0⟩ d.bgl.stops ∧ (d.fleetStop cause).bgl.lastCause = cause
    ∧ (d.fleetStop cause).bgl.enable = false ∧ (d.fleetStop cause).bgl.stopOut = .low
    ∧ (d.fleetStop cause).bgl.up = true ∧ (d.fleetStop cause).bgl.fault = d.bgl.fault := by
  obtain ⟨b, e, g, h, hstops, hcause, hen, hbup, hfault, hout⟩ := d.stopDemand_up cause true 0 hup (.inl rfl)
  obtain ⟨x, hx, -, hfleet⟩ := exists_mem_joinStop ⟨cause, true, 0⟩ d.bgl.stops
  have hany : (b.stops.any Stop.fleet || d.bgl.fault) = true := by
    rw [List.any_eq_true.mpr ⟨x, hstops ▸ hx, hfleet⟩, Bool.true_or]
  rw [Dev.fleetStop, h]
  exact ⟨hstops, hcause, by simpa using hen, by rw [hout, if_pos hany], hbup, hfault⟩

@[simp] theorem Dev.endTokens_keeps (d : Dev) : d.endTokens.bgl.up = d.bgl.up ∧ d.endTokens.bgl.stops = d.bgl.stops
    ∧ d.endTokens.bgl.noToken = true ∧ d.endTokens.bgl.fault = d.bgl.fault ∧ d.endTokens.orc = d.orc := ⟨rfl, rfl, rfl, rfl, rfl⟩

end Sys2Proof.Machine

/-! PROOFS. Orchard: its commands, its audit, and what an unforced grant takes (chapter 06). -/
namespace Sys2Proof.Machine

/-! ### Commands of Orchard: their own meaning, then S_LIM of the holder's channel (07 R207) -/

/-- A command of Orchard that applies at once. -/
def orcOp (op : Op) : Bool := opGroup op == 6 && decide ((opInfo op).cls ≠ .epoch)

section
variable {i : Instr} {op : Op} {c : Cmd} {s : State} {st : Dev} {ws : List Word}

theorem exec_orc_area (hi : i.cmd? = some (op, c)) (hp : orcOp op = true) (ha : s.dev.accepts op c = true)
    (hr : runPlain op (s.dev.withArea op c) s.dev = done st ws) :
    exec i s = .next (s.replied c (st.afterOrc op (s.dev.withArea op c)) ws) := by
  obtain ⟨h6, hcls⟩ : opGroup op = 6 ∧ (opInfo op).cls ≠ .epoch := by simpa [orcOp] using hp
  have hb : op ≠ .bootReset := by rintro rfl; exact absurd h6 (by decide)
  exact exec_of_command hi hb (Dev.command_done ha hcls (Dev.runOp_orc (by omega) hr))

theorem exec_orc (hi : i.cmd? = some (op, c)) (hp : orcOp op = true) (hn : (opInfo op).buf = .none)
    (ha : s.dev.accepts op c = true) (hr : runPlain op c s.dev = done st ws) :
    exec i s = .next (s.replied c (st.afterOrc op c) ws) := by
  have hw := Dev.withArea_none s.dev op c hn
  simpa only [hw] using exec_orc_area hi hp ha (hw.symm ▸ hr)

/-- An Orchard command without a holder's channel to recompute. -/
theorem exec_orc_same (hi : i.cmd? = some (op, c)) (hp : orcOp op = true) (hn : (opInfo op).buf = .none)
    (ha : s.dev.accepts op c = true) (hst : st.afterOrc op c = st) (hr : runPlain op c s.dev = done st ws) :
    exec i s = .next (s.replied c st ws) := by
  have h := exec_orc hi hp hn ha hr
  rwa [hst] at h

/-- An Orchard command without a buffer that its own checks refuse with words, in a state of their own. -/
theorem Dev.runOp_denied {d : Dev} {r : Res} {e : Rc} (h1 : opGroup op ≠ 1) (he : r.code = some e) (hr : rcAccepted e = false)
    (h : runPlain op c d = r) : d.runOp op c = r := by
  unfold Dev.runOp
  split
  · exact absurd rfl h1
  · exact absurd rfl h1
  · exact absurd rfl h1
  · exact absurd rfl h1
  · simp [h, he, hr]

theorem exec_orc_denied {r : Res} {e : Rc} (hi : i.cmd? = some (op, c)) (hp : orcOp op = true) (hn : (opInfo op).buf = .none)
    (he : r.code = some e) (hr : rcAccepted e = false) (ha : s.dev.accepts op c = true) (h : runPlain op c s.dev = r)
    (hw : r.words ≠ []) :
    exec i s = .next (s.after ((r.st.countOrder c.path 8).answer e c.tag r.words s.dev.epoch)) := by
  obtain ⟨h6, hcls⟩ : opGroup op = 6 ∧ (opInfo op).cls ≠ .epoch := by simpa [orcOp] using hp
  have hb : op ≠ .bootReset := by rintro rfl; exact absurd h6 (by decide)
  have hrun : s.dev.runOp op (s.dev.withArea op c) = r := by
    rw [Dev.withArea_none _ _ _ hn]
    exact Dev.runOp_denied (by omega) he hr h
  refine exec_of_command hi hb ?_
  rw [Dev.command_answered ha hcls hrun he (.inl hw), if_neg (by simp [hr]), Dev.replyEpoch_else]
  · rintro rfl; exact absurd hr (by decide)
  · rintro rfl; exact absurd hr (by decide)

end

/-- A holder that is no machine of the part has no channel to recompute. -/
theorem Dev.afterOrc_zone {d : Dev} {op : Op} {c : Cmd} (h : d.nSlots ≤ argF c 0 0 8) : d.afterOrc op c = d := by
  rw [Dev.afterOrc, if_neg]
  rintro ⟨-, -, -, -, -, hlt⟩
  omega

/-- The same for the four commands that name no holder. -/
theorem Dev.afterOrc_none {d : Dev} {op : Op} {c : Cmd}
    (h : op = .orcGridCfg ∨ op = .orcGlobalCfg ∨ op = .orcTileRead ∨ op = .orcStatus) : d.afterOrc op c = d := by
  rw [Dev.afterOrc, if_neg]
  rintro ⟨-, h1, h2, h3, h4, -⟩
  tauto

/-! ### Conflict is symmetric (R171) -/

theorem Dev.excludes_comm (d : Dev) (a b : Nat) : d.excludes a b = d.excludes b a := by
  unfold Dev.excludes
  split <;> split
  · exact bne_comm
  all_goals rfl

theorem Dev.meets_comm (d : Dev) (x y : Interval) : d.meets x y = d.meets y x := Bool.and_comm _ _

theorem Dev.conflict_comm (d : Dev) (x y : Interval) : d.conflict x y = d.conflict y x := by
  rw [Dev.conflict, Dev.conflict, d.excludes_comm x.holder, d.meets_comm x, Bool.beq_comm (a := x.i), Bool.beq_comm (a := x.j)]

/-! ### Requests (R173, R177) -/

/-- The words of a job's intervals under a grant: an unforced job enters them as granted, and no machine is stopped. -/
theorem Dev.enterJob_unforced {d : Dev} {b : OrcJob} (hf : b.req.force = false) :
    d.enterJob b none = ({ d with orc := { d.orc with
        store := d.orc.store ++ b.tiles.map fun x => b.iv ((d.nextId 0xFFFF d.orc.nextGrant).getD d.orc.nextGrant) x
        nextGrant := ((d.nextId 0xFFFF d.orc.nextGrant).getD d.orc.nextGrant + 1) % 0xFFFF } },
      (d.nextId 0xFFFF d.orc.nextGrant).getD d.orc.nextGrant, false) := by
  have hiv (g : Nat) (x : Nat × Nat) : { b.iv g x with pending := false, txn := none } = b.iv g x := rfl
  have hcl (g : Nat) (x : Nat × Nat) : (b.iv g x).claim = false := rfl
  have hms (g : Nat) : ((b.tiles.map (b.iv g)).flatMap fun x => if x.claim = true then d.machineConflicts x else []) = [] := by
    rw [List.flatMap_eq_nil_iff]
    rintro x hx
    obtain ⟨y, -, rfl⟩ := List.mem_map.mp hx
    rw [if_neg (by simp [hcl])]
  simp [Dev.enterJob, hf, hiv, hcl, hms, Dev.stopUnder, Function.comp_def]

/-- A request that meets a conflict: what the answer counts. -/
def Dev.denied (d : Dev) : Dev :=
  { d with orc := { d.orc with denials := min (d.orc.denials + 1) 0xFFFFFFFF, denWin := d.orc.denWin + 1 } }

theorem orcRequestRun_denied {c : Cmd} {d : Dev} {b : OrcJob} {x : Interval} (hb : d.orcCheck (orcParse c) = .ok b)
    (hf : (orcParse c).force = false) (hx : d.firstConflict b = some x) :
    orcRequestRun c d = ⟨some .orcDenied, orcWords 0xFFFF b.clipped false b.tiles.length x.holder x.i x.j
      (word (max b.ts (x.tStart - d.orc.guard))), d.denied⟩ := by
  simp [orcRequestRun, hb, hf, hx, Dev.denied, b2n]

theorem orcRequestRun_granted {c : Cmd} {d : Dev} {b : OrcJob} {g : Nat} (hb : d.orcCheck (orcParse c) = .ok b)
    (hq : b.req = orcParse c) (hr : b.req.replaces = none) (hf : b.req.force = false) (hx : d.firstConflict b = none)
    (hroom : d.orcRoom b = none) (hg : g = (d.nextId 0xFFFF d.orc.nextGrant).getD d.orc.nextGrant) {t : Dev}
    (ht : t = { d with orc := { d.orc with
        store := d.orc.store ++ b.tiles.map fun x => b.iv g x, nextGrant := (g + 1) % 0xFFFF } }.promote) :
    orcRequestRun c d = done { t with orc := { t.orc with grants := min (t.orc.grants + 1) 0xFFFFFFFF } }
      (orcWords g b.clipped false b.tiles.length 0 0 0 0) := by
  have he := Dev.enterJob_unforced (d := d) hf
  rw [← hg] at he
  rw [hq] at hr hf
  simp only [orcRequestRun, hb, hf, hx, hr, hroom, he, ← ht, Option.isSome_none, Bool.false_eq_true, false_and, if_false]

/-- A denied request: a denial is counted, and the response names the conflict. -/
theorem exec_orcRequest_denied {c : Cmd} {s : State} {b : OrcJob} {x : Interval} (ha : s.dev.accepts .orcRequest c = true)
    (hb : s.dev.orcCheck (orcParse c) = .ok b) (hf : (orcParse c).force = false) (hx : s.dev.firstConflict b = some x) :
    exec (.orcRequest c) s = .next (s.after ((s.dev.denied.countOrder c.path 8).answer .orcDenied c.tag
      (orcWords 0xFFFF b.clipped false b.tiles.length x.holder x.i x.j (word (max b.ts (x.tStart - s.dev.orc.guard))))
      s.dev.epoch)) :=
  exec_orc_denied rfl rfl rfl rfl rfl ha (orcRequestRun_denied hb hf hx) (by simp [orcWords])

/-! ### Configuration and snapshots (R196, 14 R409) -/

theorem orcSlotCfgRun_rest {c : Cmd} {d : Dev} (hlt : argF c 0 0 8 < d.nSlots) (hm : d.moving (argF c 0 0 8) = false) :
    orcSlotCfgRun c d = done (d.oslotMod (argF c 0 0 8) fun _ => {
      depot := argB c 0 8, foot := argF c 0 16 16, vMax := argF c 1 0 16, tReact := argF c 1 16 16 }) [] := by
  simp only [orcSlotCfgRun]
  rw [if_neg (by omega), if_neg (by simp [hm])]

theorem wholeFit_length (n : Nat) (l : List (List Byte)) : (wholeFit n l).flatten.length ≤ n := by
  induction l generalizing n with
  | nil => simp [wholeFit]
  | cons e l ih =>
    rw [wholeFit]
    split
    · have := ih (n - e.length)
      rw [List.flatten_cons, List.length_append]
      omega
    · simp

/-- A snapshot read puts bytes of whole entries in the buffer, as many as its length holds. -/
theorem snapshot_fits (c : Cmd) (d : Dev) (l : List (List Byte)) : ∃ bs trunc, bs.length ≤ (arg c 3).toNat ∧
    snapshot c d l = done (d.toBuffer c.path (arg64 c 1) bs) [word bs.length, word (b2n trunc), d.epoch, 0] :=
  ⟨_, _, wholeFit_length _ l, rfl⟩

theorem orcTileReadRun_inside {c : Cmd} {d : Dev} {g : Grid} (hg : d.orc.grid = some g) (hi : argF c 0 0 10 < g.ni)
    (hj : argF c 0 10 10 < g.nj) : ∃ bs trunc, bs.length ≤ (arg c 3).toNat ∧
    orcTileReadRun c d = done (d.toBuffer c.path (arg64 c 1) bs) [word bs.length, word (b2n trunc), d.epoch, 0] := by
  have hin : (!g.inside (argF c 0 0 10) (argF c 0 10 10)) = false := by
    simp [Grid.inside]
    omega
  simp only [orcTileReadRun, hg, hin, Bool.false_eq_true, if_false]
  exact snapshot_fits _ _ _

theorem Dev.nSlots_le (d : Dev) : d.nSlots ≤ 192 := by
  rw [Dev.nSlots]
  split <;> decide

/-! ### The commands -/

/-- Settles O28: each command's meaning, and the state that it leaves. -/
theorem orchardCommandsRun : Obligations.OrchardCommandsRun := by
  rintro c s _ h rfl rfl
  refine ⟨fun ha hst => ?grid, fun ha => ?global, fun ha hlt hmv => ?slot, fun ha hlt hmv => ?slotMoving, fun ha hz hany hty => ?zone,
    fun b g ha hb hq hr hf hx hroom hg => ⟨_, rfl, ?granted⟩, fun b x ha hb hf hx => ?denied, fun ha hz hfr hg => ?release,
    fun ha hok hfr => ?thaw, fun g ha hg hi hj => ?tile, fun ha => ?status⟩
  case grid =>
    have hrun : runPlain .orcGridCfg c s.dev = done { s.dev with orc := { s.dev.orc with grid := some {
        log2 := argF c 0 0 3, ni := argF c 0 3 10 + 1, nj := argF c 0 13 10 + 1, e0 := argI c 1, n0 := argI c 2 } } } [] := by
      show orcGridCfgRun c s.dev = _
      simp only [orcGridCfgRun]
      split
      · next hsame => rw [← hsame]
      · simp [hst]
    exact exec_orc_same rfl rfl rfl ha (Dev.afterOrc_none (.inl rfl)) hrun
  case global =>
    have hrun : s.dev.runOp .orcGlobalCfg c = _ := Dev.runOp_orc (by decide) (rfl : runPlain .orcGlobalCfg c s.dev = done _ _)
    rw [Dev.afterOrc_none (.inr (.inl rfl))] at hrun
    exact ⟨exec_of_command rfl (by decide) (Dev.command_waits ha rfl rfl hrun), hrun⟩
  case slot =>
    have hrun : s.dev.runOp .orcSlotCfg c = _ := Dev.runOp_orc (by decide) (orcSlotCfgRun_rest hlt hmv)
    rw [Dev.afterOrc, if_pos ⟨rfl, by decide, by decide, by decide, by decide, hlt⟩] at hrun
    exact ⟨exec_of_command rfl (by decide) (Dev.command_waits ha rfl rfl hrun), hrun⟩
  case slotMoving =>
    have hrun : runPlain .orcSlotCfg c s.dev = refuse s.dev .slotMoving := by
      show orcSlotCfgRun c s.dev = _
      simp only [orcSlotCfgRun]
      rw [if_neg (by omega), if_pos hmv]
    refine exec_of_command rfl (by decide) (Dev.command_refused ha ?_ rfl)
    rw [Dev.withArea_none _ _ _ rfl]
    exact Dev.runOp_refuse (by decide) rfl hrun
  case zone =>
    refine exec_orc_same rfl rfl rfl ha (Dev.afterOrc_zone (s.dev.nSlots_le.trans hz)) ?_
    show orcZoneCfgRun c s.dev = _
    simp only [orcZoneCfgRun]
    rw [if_neg (by omega), if_neg (by omega), if_neg (by simp [hany])]
  case granted => exact exec_orc rfl rfl rfl ha (orcRequestRun_granted hb hq hr hf hx hroom hg rfl)
  case denied => exact exec_orcRequest_denied ha hb hf hx
  case release =>
    refine exec_orc rfl rfl rfl ha ?_
    show orcReleaseRun c s.dev = _
    have hraw : s.dev.orcReleaseRaw (argF c 0 0 8) (argF c 0 16 16) = .ok (s.dev.dropIvs fun x =>
        x.holder == argF c 0 0 8 && (argF c 0 16 16 == 0xFFFF || x.grant == argF c 0 16 16) && x.txn.isNone) := by
      rw [Dev.orcReleaseRaw, if_neg (by simp [Dev.holderOk, hz]), if_neg (by simp [hfr]), if_neg]
      rintro ⟨hne, hno⟩
      rcases hg with h | h
      · exact hne h
      · rw [h] at hno
        exact absurd hno (by decide)
    simp only [orcReleaseRun, hraw]
    rw [if_neg (by omega)]
  case thaw =>
    refine exec_orc rfl rfl rfl ha ?_
    show orcReleaseFrozenRun c s.dev = _
    simp only [orcReleaseFrozenRun]
    rw [if_neg (by simp [hok]), if_neg (by simp [hfr])]
  case tile =>
    obtain ⟨bs, trunc, hlen, hrun⟩ := orcTileReadRun_inside (c := s.dev.withArea .orcTileRead c) hg (by simpa using hi)
      (by simpa using hj)
    have h := exec_orc_area (i := .orcTileRead c) rfl rfl ha hrun
    rw [Dev.afterOrc_none (.inr (.inr (.inl rfl)))] at h
    exact ⟨bs, trunc, by simpa using h, by simpa using hlen⟩
  case status => exact exec_orc_same rfl rfl rfl ha (Dev.afterOrc_none (.inr (.inr (.inr rfl)))) rfl

/-! ### The audit and overruns (R193) -/

/-- The audit passes exactly when no two granted intervals conflict. -/
theorem Dev.auditFail_none_iff (d : Dev) : d.auditFail = none ↔
    ∀ x ∈ d.orc.store, ∀ y ∈ d.orc.store, x.pending = false → y.pending = false → d.conflict x y = false := by
  simp only [Dev.auditFail, Option.map_eq_none_iff, List.find?_eq_none, Bool.and_eq_true, Bool.not_eq_true', List.any_eq_true,
    not_and, not_exists, Bool.not_eq_true]
  exact ⟨fun h x hx y hy hpx hpy => h x hx hpx y hy hpy, fun h x hx hpx y hy hpy => h x hx y hy hpx hpy⟩

/-- What a failed audit makes of the device before the fleet stop: FAULT, the record of the tile, and no more tokens. -/
def Dev.auditFault (d : Dev) (x : Nat × Nat) : Dev :=
  (Dev.log { d with orc := { d.orc with fault := true } } 0xC602 (leBytes 2 x.1 ++ leBytes 2 x.2)).endTokens

/-- Settles O29: a sweep counts; a conflict faults Orchard and demands the fleet stop; an overrun is kept. -/
theorem orchardEvents : Obligations.OrchardEvents := by
  rintro s _ rfl
  refine ⟨fun hok => ?sound, fun x hx hup => ?conflict, s.dev.auditFail_none_iff, ⟨_, rfl, rfl, ?overrun, rfl⟩⟩
  case sound =>
    show execOrchardAudit s = _
    exact act_next (by simp only [hok])
  case conflict =>
    obtain ⟨hstops, -, hen, hout, -, -⟩ := (s.dev.auditFault x).fleetStop_up 8 (by simpa [Dev.auditFault] using hup)
    have ht : exec .orchardAudit s = .next (s.after ((s.dev.auditFault x).fleetStop 8)) := by
      show execOrchardAudit s = _
      exact act_next (by simp only [hx, Dev.auditFault])
    exact ⟨_, ht, by simp [Dev.auditFault], by simp [Dev.auditFault], hen, by simpa [Dev.auditFault] using hstops, hout,
      by simp [Dev.auditFault]⟩
  case overrun => simp [Dev.orcHealthy]

/-! ### What an unforced grant takes (R171, R173) -/

/-- The step of the search of R177: the earlier start, and among equal starts the lower holder. -/
def Dev.better (d : Dev) (x : Interval) (best : Option Interval) (y : Interval) : Option Interval :=
  if d.conflict x y then
    match best with
    | none => some y
    | some z => if y.tStart < z.tStart ∨ (y.tStart = z.tStart ∧ y.holder < z.holder) then some y else best
  else best

/-- The search of a tile's conflicts keeps what it has found. -/
theorem Dev.tileConflict_fold (d : Dev) (x : Interval) (l : List Interval) (best : Option Interval)
    (h : l.foldl (d.better x) best = none) : best = none ∧ ∀ y ∈ l, d.conflict x y = false := by
  induction l generalizing best with
  | nil => exact ⟨h, by simp⟩
  | cons y l ih =>
    obtain ⟨hy, hl⟩ := ih _ h
    cases hc : d.conflict x y
    · have hb : best = none := by simpa [Dev.better, hc] using hy
      exact ⟨hb, by simpa [hc] using hl⟩
    · simp only [Dev.better, hc, if_true] at hy
      split at hy
      · exact absurd hy (by simp)
      · split at hy <;> exact absurd hy (by simp)

/-- A tile without a conflict: nothing that the store holds conflicts with the interval. -/
theorem Dev.tileConflict_none {d : Dev} {x : Interval} (h : d.tileConflict x = none) : ∀ y ∈ d.orc.store, d.conflict x y = false := by
  exact (d.tileConflict_fold x _ none h).2

/-- Settles O30: a request that meets a conflict is denied, so one that succeeds met none; and conflict is symmetric. -/
theorem grantsMeetNoConflict : Obligations.GrantsMeetNoConflict := by
  refine ⟨fun c s t b ha hb hf ht hcode x hx y hy => ?_, Dev.conflict_comm⟩
  cases hc : s.dev.firstConflict b with
  | some z =>
    rw [exec_orcRequest_denied ha hb hf hc] at ht
    cases ht
    exact absurd hcode (by simp)
  | none => exact Dev.tileConflict_none (List.findSome?_eq_none_iff.mp hc x hx) y hy

end Sys2Proof.Machine

/-! PROOFS. The tick law, and the commands of the profile engine and of the track library (chapter 07, 14 R418). -/
namespace Sys2Proof.Machine

/-! ### The tick law (R205) -/

/-- Settles O12: the commanded acceleration moves by a step clamped to the jerk. -/
theorem tickRespectsTheJerk : Obligations.TickRespectsTheJerk := by
  intro p tgt au
  refine ⟨_, ?jerk, rfl, ?standstill, ?forward⟩
  case jerk =>
    rw [add_sub_cancel_left]
    omega
  case standstill =>
    by_cases h : (p.law tgt au).v = 0 ∧ tgt = 0
    · exact .inr ⟨if_pos h, h⟩
    · exact .inl (if_neg h)
  case forward => exact Nat.le_add_right _ _

/-! ### Updates of a channel -/

theorem Dev.pchMod_congr {d : Dev} {k : Nat} {f g : Prf → Prf} (h : f (d.pch k) = g (d.pch k)) :
    d.pchMod k f = d.pchMod k g := by
  rw [Dev.pchMod, Dev.pchMod, tmod_congr h]

/-! ### Channel commands (R201, R208, R214) -/

theorem prfChanCfgRun_rest {c : Cmd} {d : Dev} {q : Prf} (hk : argF c 0 0 8 < d.nSlots) (hd : argF c 2 16 16 ≤ argF c 1 16 16)
    (hj : argF c 3 0 16 ≤ argF c 2 0 16) (hen : argB c 0 8 = (d.pch (argF c 0 0 8)).en)
    (hq : q = { d.pch (argF c 0 0 8) with
      reverseOk := argB c 0 9, aLat := argF c 0 16 16, accelCap := argF c 1 0 16, decelCap := argF c 1 16 16
      jerkCap := argF c 2 0 16, decelDef := argF c 2 16 16, jerkDef := argF c 3 0 16, revVMax := argF c 3 16 16 })
    (hne : q ≠ d.pch (argF c 0 0 8)) :
    prfChanCfgRun c d = if (d.pch (argF c 0 0 8)).v ≠ 0 ∨ d.moving (argF c 0 0 8) = true then refuse d .notHalted
      else done (d.pchMod (argF c 0 0 8) fun _ => q) [] := by
  simp only [prfChanCfgRun]
  rw [if_neg (by omega), if_neg (by omega), if_pos hen, ← hq, if_neg hne]

/-- Settles O31: each command's meaning, and the state that it leaves. -/
theorem profileCommandsRun : Obligations.ProfileCommandsRun := by
  rintro c s _ k p rfl rfl rfl
  refine ⟨fun ha hk hd hj hen hv hm q hq hne => exec_done rfl rfl ha ?chan,
    fun ha hk hd hj hen hacc hm => exec_refused rfl rfl rfl rfl ha ?chanMoving,
    fun ha hk => exec_waits rfl rfl ha ?lag,
    fun t ha hk hoff hq hheld ht hl h0 h1 hrev => exec_done rfl rfl ha ?push,
    fun ha hk hoff hfull => exec_refused rfl rfl rfl rfl ha ?full,
    fun g gs n ha hk hoff hq hv hn => exec_done rfl rfl ha ?flush,
    fun g gs ha hk hoff hq hr hlen hend hstop => exec_done rfl rfl ha ?retarget,
    fun ha hk hoff hq => exec_refused rfl rfl rfl rfl ha ?retargetEmpty,
    fun q ha hk hoff hq => exec_done rfl rfl ha ?decel, fun ha hk hl hm => exec_done rfl rfl ha ?clear,
    fun ha hk => ?status,
    fun t ha ht hu hroom => exec_done_area rfl rfl ha ?load, fun ha hu hl => exec_done rfl rfl ha ?delete,
    fun ha hu => exec_refused rfl rfl rfl rfl ha (if_pos hu),
    fun t ha ht hl => exec_done rfl rfl ha ?info, rfl⟩
  case chan =>
    show prfChanCfgRun c s.dev = _
    rw [prfChanCfgRun_rest hk hd hj hen hq hne, if_neg (by simp [hv, hm])]
  case chanMoving =>
    show prfChanCfgRun c s.dev = _
    rw [prfChanCfgRun_rest hk hd hj hen rfl, if_pos (.inr hm)]
    intro h
    exact hacc (congrArg Prf.accelCap h)
  case lag => exact if_neg (by omega)
  case push =>
    -- no segment before it, so there is no joint to check
    subst ht
    have hno : (argB c 0 8 && !(s.dev.pch (argF c 0 0 8)).reverseOk) = false := by
      cases hb : argB c 0 8
      · rfl
      · simp [hrev hb]
    show prfSegPushRun c s.dev = _
    simp only [prfSegPushRun, hq, hheld, hl, hno, List.getLast?_nil, Bool.false_eq_true, if_false, Option.none_or,
      List.length_nil, Bool.not_true, Nat.zero_add, Nat.mul_one]
    rw [if_neg (by omega), if_neg hoff, if_neg (by omega), if_neg (by omega)]
  case full =>
    show prfSegPushRun c s.dev = _
    simp only [prfSegPushRun]
    rw [if_neg (by omega), if_neg hoff, if_pos hfull]
  case flush =>
    show prfFlushRun c s.dev = _
    simp only [prfFlushRun, hq]
    rw [if_neg (by omega), if_neg hoff]
    simp [hv, hn, mmF]
  case retarget =>
    have hahead : g.sta0 + ((s.dev.pch (argF c 0 0 8)).stopPos - (s.dev.pch (argF c 0 0 8)).entry) / mmF ≤ (arg c 1).toNat := hstop
    have hfar : ¬ g.sta1 < (arg c 1).toNat := by omega
    show prfRetargetRun c s.dev = _
    simp only [prfRetargetRun, hq]
    rw [if_neg (by omega), if_neg hoff, if_neg (by omega)]
    simp [hr, Leg.staAt, hahead, hfar]
  case retargetEmpty =>
    show prfRetargetRun c s.dev = _
    simp only [prfRetargetRun, hq]
    rw [if_neg (by omega), if_neg hoff]
  case decel =>
    show prfDecelRun c s.dev = _
    simp only [prfDecelRun, ← hq]
    rw [if_neg (by omega), if_neg hoff]
  case clear =>
    show prfClearRun c s.dev = _
    simp only [prfClearRun]
    rw [if_neg (by omega), if_neg (by simp [hl]), if_neg (by simp [hm])]
  case status => exact ⟨_, exec_done rfl rfl ha (if_neg (by omega)), rfl, rfl, rfl, rfl⟩
  case load =>
    show trkLoadRun (s.dev.withArea .trkLoad c) s.dev = _
    simp only [trkLoadRun, ht, argF_withArea]
    rw [if_neg (by omega), if_neg (by simp [hroom]), Dev.trkStore, argF_withArea]
  case delete =>
    show trkDeleteRun c s.dev = _
    simp only [trkDeleteRun]
    rw [if_neg (by omega), if_neg (by simp [hl])]
  case info =>
    subst ht
    exact if_neg (by simp [hl])

end Sys2Proof.Machine

/-! PROOFS. Bugle: its commands, its events, and the sampling that issues a token (chapter 08). -/
namespace Sys2Proof.Machine

/-! ### Records and pins leave the stops alone -/

theorem Dev.logStops_bgl (l : List Stop) (d : Dev) (code : Nat) (m : BitVec 192) :
    (l.foldl (fun s x => s.logStop code x.cause x.fleet false (x.slots &&& m)) d).bgl = d.bgl := by
  induction l generalizing d with
  | nil => rfl
  | cons x l ih => rw [List.foldl_cons, ih, Dev.logStop_bgl]

@[simp] theorem Dev.driveStopOut_keeps (d : Dev) : d.driveStopOut.bgl.stops = d.bgl.stops
    ∧ d.driveStopOut.bgl.enable = d.bgl.enable := by
  unfold Dev.driveStopOut
  split <;> exact ⟨rfl, rfl⟩

theorem Dev.stopFleet_false_iff (d : Dev) : d.stopFleet = false ↔ ∀ x ∈ d.bgl.stops, x.fleet = false := by
  simp [Dev.stopFleet]

/-- A mask of slots that the part has. -/
theorem Dev.maskUnfit_false {d : Dev} {m : BitVec 192} (h : m.toNat < 2 ^ d.nSlots) : d.maskUnfit m = false := by
  rw [Dev.maskUnfit, decide_eq_false_iff_not]
  omega

/-! ### Commands (R246, R247, R251) -/

/-- The release rules decide in their order, once a stop is named. -/
theorem bglReleaseRun_named {c : Cmd} {d : Dev} (hm : (slotMask c).toNat < 2 ^ d.nSlots)
    (hn : d.bgl.stops.filter (namedStop (argB c 0 0) (slotMask c)) ≠ []) :
    ∃ t : Dev, t.bgl.enable = d.bgl.enable
      ∧ t.bgl.stops = (d.bgl.stops.map fun x : Stop => if x.fleet then x else { x with slots := x.slots &&& ~~~slotMask c }).filter
          (fun x => if x.fleet then !argB c 0 0 else x.slots != 0)
      ∧ bglReleaseRun c d =
        if (d.bgl.stops.filter (namedStop (argB c 0 0) (slotMask c))).any fun x => !d.releaseOk x (slotMask c) then
          refuse d .bglCausePresent
        else if (d.bgl.stops.filter (namedStop (argB c 0 0) (slotMask c))).any fun x => decide (6 ≤ x.cause) then
          refuse d .bglResetOnly
        else done t [] := by
  simp only [bglReleaseRun, Dev.maskUnfit_false hm, Bool.false_eq_true, if_false]
  rw [if_neg (by simpa using hn)]
  refine ⟨_, ?enable, ?stops, rfl⟩
  case enable => rw [Dev.bglIrq_bgl, (Dev.driveStopOut_keeps _).2, Dev.logStops_bgl]
  case stops => rw [Dev.bglIrq_bgl, (Dev.driveStopOut_keeps _).1, Dev.logStops_bgl]

/-- Settles O32: a stop and a release change the stops in force by the laws of the stop demand and of the release rules. -/
theorem bugleCommandsRun : Obligations.BugleCommandsRun := by
  rintro c s _ _ _ rfl rfl rfl
  refine ⟨fun ha hm hup hn => ?stop, fun left ha hm hnamed hok hleft => ?release, fun x hx ha hm hn hok => ?present,
    fun x hx ha hm hn h6 hok => ?resetOnly, fun ha hf hlc hroot hdbg => exec_done rfl rfl ha ?enable,
    fun x hx ha hf => exec_refused rfl rfl rfl rfl ha (if_pos ?underStop), fun ha => exec_done rfl rfl ha rfl,
    fun gen base ha hanchor => exec_done_area rfl rfl ha ?anchor⟩
  case stop =>
    obtain ⟨b, e, g, hd, hstops, hcause, hen, -, -, hout⟩ := s.dev.stopDemand_up 2 (argB c 0 0) (slotMask c) hup hn
    refine ⟨(s.dev.stopDemand 2 (argB c 0 0) (slotMask c)).1, ⟨(s.dev.stopDemand 2 (argB c 0 0) (slotMask c)).2,
      exec_done rfl rfl ha ?_⟩, ?_⟩
    · show bglStopRun c s.dev = _
      simp only [bglStopRun]
      rw [if_neg (by simp [Dev.maskUnfit_false hm])]
    · rw [hd]
      exact ⟨hstops, hcause, hen, hout, rfl, rfl, rfl, rfl, rfl, rfl⟩
  case release =>
    obtain ⟨t, hen, hstops, hrun⟩ := bglReleaseRun_named hm hnamed
    rw [if_neg (by simpa using fun x hx hxn => (hok x hx hxn).2), if_neg (by simpa using fun x hx hxn => (hok x hx hxn).1)] at hrun
    exact ⟨t, exec_done rfl rfl ha hrun, hstops.trans hleft.symm, hen⟩
  case present =>
    obtain ⟨t, -, -, hrun⟩ := bglReleaseRun_named hm (List.ne_nil_of_mem (List.mem_filter.mpr ⟨hx, hn⟩))
    rw [if_pos (List.any_eq_true.mpr ⟨x, List.mem_filter.mpr ⟨hx, hn⟩, by simp [hok]⟩)] at hrun
    exact exec_refused rfl rfl rfl rfl ha hrun
  case resetOnly =>
    obtain ⟨t, -, -, hrun⟩ := bglReleaseRun_named hm (List.ne_nil_of_mem (List.mem_filter.mpr ⟨hx, hn⟩))
    rw [if_neg (by simpa using hok), if_pos (List.any_eq_true.mpr ⟨x, List.mem_filter.mpr ⟨hx, hn⟩, by simpa using h6⟩)] at hrun
    exact exec_refused rfl rfl rfl rfl ha hrun
  case enable =>
    show bglEnableRun c s.dev = _
    rw [bglEnableRun, if_neg (by simp [(Dev.stopFleet_false_iff _).mpr hf]), if_neg (by simp [Dev.lifecycleOk, hlc, hroot, hdbg])]
  case underStop => exact List.any_eq_true.mpr ⟨x, hx, hf⟩
  case anchor =>
    show bglAnchorReadRun (s.dev.withArea .bglAnchorRead c) s.dev = _
    simp only [bglAnchorReadRun, argF_withArea, argB_withArea, hanchor, withArea_path_eq, arg64_withArea]

/-! ### Events (R227, R229, R236, R237, R242, R243) -/

@[simp] theorem Bgl.setPin_keeps (b : Bgl) (ch : Nat) (run : Bool) : (b.setPin ch run).stops = b.stops
    ∧ (b.setPin ch run).up = b.up ∧ (b.setPin ch run).discrep = b.discrep ∧ (b.setPin ch run).bothStop = b.bothStop := by
  unfold Bgl.setPin
  split <;> exact ⟨rfl, rfl, rfl, rfl⟩

/-- The second pin to read RUN leaves both at RUN. -/
theorem Bgl.setPin_both {b : Bgl} {ch : Fin 2} (h : (if ch = 0 then b.pinB else b.pinA) = true) :
    (b.setPin ch true).pinA = true ∧ (b.setPin ch true).pinB = true := by
  rw [Bgl.setPin]
  by_cases h0 : ch = 0
  · simp_all
  · have hv : ch.val ≠ 0 := fun hz => h0 (Fin.ext hz)
    simp_all

/-- A fleet stop of a device whose Bugle is up and holds the stops of d. -/
theorem Dev.fleetStop_from (d : Dev) (b : Bgl) (cause : Nat) (hup : b.up = true) (hst : b.stops = d.bgl.stops) :
    (Dev.fleetStop { d with bgl := b } cause).bgl.stops = joinStop ⟨cause, true, 0⟩ d.bgl.stops
    ∧ (Dev.fleetStop { d with bgl := b } cause).bgl.enable = false ∧ (Dev.fleetStop { d with bgl := b } cause).bgl.stopOut = .low
    ∧ (Dev.fleetStop { d with bgl := b } cause).bgl.lastCause = cause := by
  obtain ⟨hstops, hcause, hen, hout, -, -⟩ := Dev.fleetStop_up { d with bgl := b } cause hup
  exact ⟨hst ▸ hstops, hen, hout, hcause⟩

/-- Settles O33: each event's meaning, branch by branch. -/
theorem bugleEvents : Obligations.BugleEvents := by
  rintro s _ rfl
  refine ⟨fun ht hk hb => ?goBuilt, fun ht hk hb => ?stopBuilt, fun hb hr hd => ?build, rfl, fun e => rfl,
    fun p hw hf => ⟨_, ?confirm, rfl⟩, fun p x hw hx => ?timeout, fun ch hup => ?stop, fun ch hpin hboth => ?run, fun hne => ?discrepancy,
    fun hrec => ?cycle⟩
  case goBuilt =>
    show execChainBuilt true s = _
    exact act_next (by simp only [ht, hk, hb, Bool.not_true, Bool.or_self, Bool.false_eq_true, if_false, if_true]; rfl)
  case stopBuilt =>
    show execChainBuilt false s = _
    exact act_next (by simp only [ht, hk, hb, Bool.not_true, Bool.or_self, Bool.false_eq_true, if_false, if_true]; rfl)
  case build =>
    show execGoGenBuildStart s = _
    refine act_next ?_
    rw [if_pos (by simpa [hb, hr, goM] using hd)]
  case confirm =>
    show execBurstConfirm p s = _
    refine act_next ?_
    simp only [hw, hf, if_true, Bool.false_eq_true, false_and, if_false]
  case timeout =>
    show execBurstConfirmTimeout p s = _
    refine act_next ?_
    simp only [hw, if_true, ← hx, Bool.not_eq_true']
  case stop =>
    exact ⟨_, rfl, s.dev.fleetStop_from _ 1 (by simpa using hup) (by simp)⟩
  case run =>
    refine ⟨_, rfl, ?_⟩
    obtain ⟨hA, hB⟩ := Bgl.setPin_both hpin
    simp [hA, hB, hboth]
  case discrepancy =>
    refine ⟨_, rfl, ?_⟩
    simp [hne]
  case cycle =>
    refine ⟨_, rfl, ?_⟩
    simp [hrec]

/-- Settles O35: each of the four conditions shuts the window. -/
theorem burstsNeedAStop : Obligations.BurstsNeedAStop := by
  intro d h
  have hoff (due : Bool) : (d.bgl.up && !d.bgl.fault && !d.bgl.stops.isEmpty && d.blw.st != .night
      && d.blw.backAt != some d.tbs.mono && (d.bgl.bursting || due)) = false := by
    rcases h with h | h | h | h <;> simp [h]
  simp [Dev.stopWindow, hoff]

/-! ### The sampling (R229, R232, R238, R239) -/

/-- Bits of the indices below n that a test passes, as the sum of their values. -/
theorem bitSum_lt (f : Nat → Bool) (n : Nat) :
    ((List.range n).foldl (fun m k => if f k then m + 2 ^ k else m) 0) < 2 ^ n := by
  induction n with
  | zero => simp
  | succ n ih =>
    rw [List.range_succ, List.foldl_append, List.foldl_cons, List.foldl_nil, pow_succ]
    split <;> omega

theorem testBit_bitSum (f : Nat → Bool) (n k : Nat) :
    ((List.range n).foldl (fun m k => if f k then m + 2 ^ k else m) 0).testBit k = (decide (k < n) && f k) := by
  induction n with
  | zero => simp
  | succ n ih =>
    have hlt := bitSum_lt f n
    rw [List.range_succ, List.foldl_append, List.foldl_cons, List.foldl_nil]
    split
    · next hn =>
      rw [Nat.add_comm, ← Nat.mul_one (2 ^ n), Nat.two_pow_add_eq_or_of_lt hlt, Nat.testBit_or, ih, Nat.mul_one, Nat.testBit_two_pow]
      by_cases hk : n = k
      · subst hk; simp [hn]
      · have : (k < n + 1) ↔ k < n := by omega
        simp [hk, this]
    · next hn =>
      rw [ih]
      by_cases hk : n = k
      · subst hk; simp [hn]
      · have : (k < n + 1) ↔ k < n := by omega
        simp [this]

/-- A sampling for epoch e issues a token: every condition of GO_COND holds, and tokens have not ended. -/
def Dev.issues (d : Dev) (e : Nat) : Bool := (d.goConds e).all id && !d.bgl.noToken

/-- The slots whose conditions all hold, as the bitmap of a token. -/
def Dev.slotBits (d : Dev) : Nat :=
  (List.range d.nSlots).foldl (fun m k => if (d.slotConds k).all id then m + 2 ^ k else m) 0

theorem Dev.goChange_same {d : Dev} (e : Nat) (h : d.bgl.roll = false) : d.goChange e = d := by
  simp [Dev.goChange, h]

/-- The fleet stop of the third sampling without a heartbeat leaves tokens and marks alone (R240). -/
theorem Dev.thirdStop_tokenPart (p : Prop) [Decidable p] (d : Dev) (cause : Nat) :
    (if p then d.fleetStop cause else d).bgl.tokenPart = d.bgl.tokenPart := by
  split
  · exact d.stopDemand_tokenPart cause true 0
  · rfl

/-- What a sampling makes of the token, its bitmap, the mark and the index, while no generation is about to change. -/
theorem Dev.sampling_tokenPart {d : Dev} (e : Nat) (hr : d.bgl.roll = false) : (d.sampling e).bgl.tokenPart =
    (d.bgl.noToken, (if d.issues e then d.goToken e d.slotBits else []),
      (if d.issues e then BitVec.ofNat 192 d.slotBits else 0), (if d.issues e then e - d.bgl.goBase else d.bgl.markGo),
      (if d.issues e then e - d.bgl.goBase else d.bgl.goIdx)) := by
  unfold Dev.sampling
  simp only [Dev.goChange_same e hr, Dev.bglIrq_bgl, List.foldl_map]
  rw [Dev.thirdStop_tokenPart]
  rfl

theorem Dev.goToken_ne_nil (d : Dev) (e m : Nat) : d.goToken e m ≠ [] := by
  simp [Dev.goToken, Dev.tokenHead, leBytes]

theorem Dev.sampling_token_iff {d : Dev} (e : Nat) (hr : d.bgl.roll = false) : (d.sampling e).bgl.token ≠ [] ↔ d.issues e = true := by
  have h := congrArg (fun x => x.2.1) (d.sampling_tokenPart e hr)
  simp only [Bgl.tokenPart] at h
  rw [h]
  cases d.issues e <;> simp [Dev.goToken_ne_nil]

/-- GO_COND by name. -/
theorem Dev.goConds_all_iff (d : Dev) (e : Nat) : (d.goConds e).all id = true ↔
    d.bgl.hb = some (epoch32 e) ∧ d.stopFleet = false ∧ d.ref.level ≠ 2 ∧ (d.timeValid = true ∧ d.tbs.resync = false)
      ∧ d.orcHealthy = true ∧ d.gen.tamper = false ∧ d.lifecycleOk = true ∧ d.bgl.enable = true ∧ d.chainOk e = true := by
  simp [Dev.goConds]

/-- Settles O34: a token stands for `issues`; its bitmap holds the slots whose conditions hold, and its index lies above the
mark. -/
theorem tokensNeedEveryCondition : Obligations.TokensNeedEveryCondition := by
  refine ⟨fun d e hr ht => ?conditions, fun d e hr => ⟨fun ht => ?none, fun ht => ?moved⟩⟩
  case conditions =>
    have hi := (d.sampling_token_iff e hr).mp ht
    have h := d.sampling_tokenPart e hr
    simp only [Bgl.tokenPart, hi, if_true, Prod.mk.injEq] at h
    obtain ⟨-, -, hmap, -, -⟩ := h
    obtain ⟨hb, hs, hl, ⟨htv, hre⟩, ho, hta, hlc, hen, -⟩ :=
      (d.goConds_all_iff e).mp (Bool.and_eq_true_iff.mp hi).1
    refine ⟨hb, hs, hl, htv, hre, ho, hta, hlc, hen, fun k hk => ?_⟩
    rw [hmap, BitVec.getLsbD_ofNat, Bool.and_eq_true] at hk
    have := hk.2
    rw [Dev.slotBits, testBit_bitSum] at this
    simpa using this
  case none =>
    have hi : d.issues e = false := by
      rw [← Bool.not_eq_true, ← d.sampling_token_iff e hr, ht]
      exact fun h => h rfl
    have h := d.sampling_tokenPart e hr
    simp only [Bgl.tokenPart, hi, Prod.mk.injEq] at h
    exact ⟨h.2.2.2.1, h.2.2.2.2⟩
  case moved =>
    have hi := (d.sampling_token_iff e hr).mp ht
    have h := d.sampling_tokenPart e hr
    simp only [Bgl.tokenPart, hi, if_true, Prod.mk.injEq] at h
    obtain ⟨-, -, -, hmark, hidx⟩ := h
    obtain ⟨hall, hno⟩ : (d.goConds e).all id = true ∧ d.bgl.noToken = false := by simpa [Dev.issues] using hi
    refine ⟨hmark, hidx, hall, hno, fun hgen => ?_⟩
    obtain ⟨-, -, -, -, -, -, -, -, hchain⟩ := (d.goConds_all_iff e).mp hall
    simp only [Dev.chainOk, if_pos hgen, Bool.and_eq_true, decide_eq_true_eq] at hchain
    exact hmark ▸ hchain.2

end Sys2Proof.Machine

/-! PROOFS. The radio: its commands, its events, and the checks of received frames (chapter 09). -/
namespace Sys2Proof.Machine

/-! ### Commands (R252, R255, R264, R268, R269, R273, R278, R283, R288 to R290, 14 R419) -/

/-- A HALTED write of a stopped block applies (01 R39). -/
theorem halted_stopped {stopped : Bool} {d t : Dev} (h : stopped = true) : halted stopped d t = done t [] := by
  rw [halted, if_pos h]
  split
  · next he => rw [eq_of_beq he]
  · rfl

/-- A HALTED write that changes a running block is refused (01 R39). -/
theorem halted_running {stopped : Bool} {d t : Dev} (h : stopped = false) (hne : t ≠ d) :
    halted stopped d t = refuse d .notHalted := by
  rw [halted, if_neg (by simpa using hne), if_neg (by simp [h])]

/-- Settles O36: each command's meaning, and the state that it leaves. -/
theorem radioCommandsRun : Obligations.RadioCommandsRun := by
  rintro c s _ _ _ rfl rfl rfl
  refine ⟨fun ha hoff => exec_done rfl rfl ha (halted_stopped hoff),
    fun ha hon hne => exec_refused rfl rfl rfl rfl ha (halted_running hon ?globalNew),
    fun t r ha hp ht hr hen hfit hpt hroom => exec_done rfl rfl ha ?port,
    fun bs l ha hp hb hlen hen hv hn0 hn hh ht hst h2 => exec_done_area rfl rfl ha ?script,
    fun ha hp hpres hon hen hroom => exec_waits rfl rfl ha ?portEn,
    fun ha hk hpres hm hb => ?slot, fun ha hk hpres hm hst => exec_waits rfl rfl ha ?deregister,
    fun ha hk hpres hm => exec_refused rfl rfl rfl rfl ha ?deregisterMoving,
    fun i ha hp hi hb hslot hslot' hper hper' hph hothers hnew => exec_waits rfl rfl ha ?partner,
    fun t ha hoff ht hne => exec_done rfl rfl ha ?role,
    fun ha h0 hn hb hk hst hcount => exec_later_area rfl rfl ha ?send,
    fun ha h0 hn hb hk hst hst' => exec_refused_area rfl rfl rfl ha ?sendInactive,
    fun ha hp => exec_done rfl rfl ha (if_neg (by omega)),
    fun r ha hp hr => ⟨fun hb => exec_done rfl rfl ha ?status0, fun hb => exec_done rfl rfl ha ?status1⟩,
    fun r ha hk hr => exec_done rfl rfl ha ?slotStatus, fun x ha hp hx hst => exec_done rfl rfl ha ?partnerStatus⟩
  case globalNew =>
    intro h
    exact hne (congrArg (fun d => d.rad.pan) h).symm
  case port =>
    show radPortCfgRun c s.dev = _
    simp only [radPortCfgRun, ← ht, ← hr]
    rw [if_neg (by omega)]
    split
    · next hsame => rw [hsame]
    · rw [if_neg (by simp [hen]), if_neg (by omega), if_neg, if_neg (by omega)]
      simp only [List.any_eq_true, List.mem_range, Bool.and_eq_true, bne_iff_ne, decide_eq_true_eq, not_exists, not_and]
      intro i hi hst
      rcases hpt i hi with h | h
      · exact absurd h hst
      · omega
  case script =>
    show radScriptLoadRun (s.dev.withArea .radScriptLoad c) s.dev = _
    simp only [radScriptLoadRun, argF_withArea, arg_withArea, ← hb, hst]
    rw [if_neg (by omega), if_neg (by omega)]
    split
    · next hsame => rw [hsame]
    · rw [if_neg (by simp [hen]), if_neg (by omega), if_neg (by omega)]
  case portEn =>
    show radPortEnRun c s.dev = _
    simp only [radPortEnRun, hon, hen]
    rw [if_neg (by omega), if_neg (by simp [hpres]), if_neg (by omega), if_neg (by simp)]
    rfl
  case slot =>
    have hrun : radSlotCfgRun c s.dev = done _ [] :=
      (if_neg (by simp [hpres, hk])).trans ((if_neg (by simp [hm])).trans (if_pos hb))
    obtain ⟨hexec, hop⟩ := exec_waits (i := .radSlotCfg c) rfl rfl ha hrun
    exact ⟨hexec, _, hop, rfl⟩
  case deregister =>
    show radDeregisterRun c s.dev = _
    simp only [radDeregisterRun]
    rw [if_neg (by simp [hpres, hk]), if_neg (by simp [hm]), if_neg hst]
  case deregisterMoving =>
    show radDeregisterRun c s.dev = _
    simp only [radDeregisterRun]
    rw [if_neg (by simp [hpres, hk]), if_pos hm]
  case partner =>
    show radPartnerCfgRun c s.dev = _
    simp only [radPartnerCfgRun, hi]
    rw [if_neg (by omega), if_neg (by simp [hb]), if_neg (by omega), if_neg (by omega), if_neg]
    · simp [hnew]
    · simp only [List.any_eq_true, List.mem_range, Bool.and_eq_true, bne_iff_ne, not_exists, not_and]
      intro j hj hji hst
      rcases hothers j hj with h | h
      · exact absurd h hji.1
      · exact absurd h hji.2
  case role =>
    subst ht
    exact (if_neg hne).trans (if_neg (by simp [hoff]))
  case send =>
    show radAppSendRun (s.dev.withArea .radAppSend c) s.dev = _
    simp only [radAppSendRun, argF_withArea, argB_withArea, arg_withArea, hb, withArea_path_eq, withArea_tag_eq]
    rw [if_neg (by omega), if_neg (by omega), if_neg (by simp [hk, hst]), if_neg (by simpa using hcount)]
    rfl
  case sendInactive =>
    show radAppSendRun (s.dev.withArea .radAppSend c) s.dev = _
    simp only [radAppSendRun, argF_withArea, argB_withArea, arg_withArea, hb]
    rw [if_neg (by omega), if_neg (by omega), if_pos (by simp [hst, hst'])]
  case status0 =>
    subst hr
    show radStatusRun c s.dev = _
    simp only [radStatusRun]
    rw [if_neg (by omega), if_neg (by simp [hb])]
  case status1 =>
    subst hr
    show radStatusRun c s.dev = _
    simp only [radStatusRun]
    rw [if_neg (by omega), if_pos hb]
    rfl
  case slotStatus =>
    subst hr
    exact if_neg (by omega)
  case partnerStatus =>
    subst hx
    show radPartnerStatusRun c s.dev = _
    simp only [radPartnerStatusRun]
    rw [if_neg (by omega), if_neg hst]

/-! ### Events (R260, R266, R270, R271, R278 to R281, R283, R284, R288, 02 R68) -/

/-- A port that is no longer as after reset reads as it was written. -/
theorem Dev.rport_rportMod {d : Dev} {p : Nat} {g : RPort → RPort} (h : g (d.rport p) ≠ {}) :
    (d.rportMod p g).rport p = g (d.rport p) := tget_tset_of_ne _ _ h

/-- A count of a table that has risen is listed. -/
theorem tinc_ne_nil (t : Tab Nat) (k : Nat) : tinc t k ≠ [] := by
  intro h
  have hv : min (tget 0 t k + 1) 0xFFFFFFFF ≠ 0 := by omega
  have hget : tget 0 (tinc t k) k = min (tget 0 t k + 1) 0xFFFFFFFF := tget_tset_of_ne t k hv
  rw [h] at hget
  exact hv hget.symm

theorem Dev.rxDrop_rawSel (d : Dev) (p n : Nat) : ((d.rxDrop p n).rport p).rawSel = (d.rport p).rawSel := by
  rw [Dev.rxDrop, Dev.rport_rportMod]
  exact fun h => tinc_ne_nil _ _ (congrArg RPort.drops h)

/-- A port whose raw queue selects nothing copies no frame (R288). -/
theorem Dev.rxCopy_off {d : Dev} {p : Nat} (failed : Bool) (h : RxItem) (bs : List Byte) (hs : (d.rport p).rawSel = 0) :
    d.rxCopy p failed h bs = d := by
  simp [Dev.rxCopy, hs]

theorem words256_zero (v : Nat) : words256 v 0 = [word v] := by simp [words256]

/-- A frame that is no beacon of the own PAN's base: the first three checks in their order (R260). -/
theorem exec_frameReceive_drop {s : State} {p : Fin 8} {f : RxFrame} (hs : s.dev.serves p = true) (ha : f.aborted = false)
    (hk : f.isAck = false) (hraw : (s.dev.rport p).rawSel = 0) (hb : f.beacon = false ∨ f.src ≠ 0) {n : Nat}
    (hn : (f.fcsOk = false ∧ n = 1) ∨ (f.fcsOk = true ∧ f.dataV2 = false ∧ n = 2)
      ∨ (f.fcsOk = true ∧ f.dataV2 = true ∧ (f.pan ≠ s.dev.rad.pan ∨ f.dst ≠ 0) ∧ n = 3)) :
    exec (.frameReceive p f) s = .next (s.after (s.dev.rxDrop p n)) := by
  have hno : ¬(f.beacon = true ∧ f.fcsOk = true ∧ f.pan = s.dev.rad.pan ∧ f.src = 0) := by
    rintro ⟨h1, -, -, h4⟩
    rcases hb with h | h
    · simp [h1] at h
    · exact h h4
  have hcopy (n : Nat) (h : RxItem) : (s.dev.rxDrop p n).rxCopy p true h f.mpdu = s.dev.rxDrop p n :=
    Dev.rxCopy_off _ _ _ (by rw [Dev.rxDrop_rawSel, hraw])
  show execFrameReceive p f s = _
  refine act_next ?_
  simp only [hs, ha, hk, if_neg hno, hcopy, Bool.not_true, Bool.false_eq_true, if_false]
  rcases hn with ⟨h1, rfl⟩ | ⟨h1, h2, rfl⟩ | ⟨h1, h2, h3, rfl⟩
  · simp [h1]
  · simp [h1, h2]
  · simp only [h1, h2, Bool.not_true, Bool.false_eq_true, if_false, if_pos h3]

/-- Settles O37: each event's meaning, branch by branch. -/
theorem radioEvents : Obligations.RadioEvents := by
  rintro s _ rfl
  refine ⟨fun m p x xs hp hx => ⟨_, rfl, ?rxq⟩, fun m p x xs hp hx => ⟨_, rfl, ?txts⟩, fun p f hs ha hraw => ?aborted,
    fun p f g hs ha hk hf hg hseq => ?acked,
    fun p f hs ha hk hraw hb => ⟨fun h1 => exec_frameReceive_drop hs ha hk hraw hb (.inl ⟨h1, rfl⟩),
      fun h1 h2 => exec_frameReceive_drop hs ha hk hraw hb (.inr (.inl ⟨h1, h2, rfl⟩)),
      fun h1 h2 h3 => exec_frameReceive_drop hs ha hk hraw hb (.inr (.inr ⟨h1, h2, h3, rfl⟩))⟩,
    fun p f r hw hr => ?timeout, fun p i x lo hi mid hx hs hst hper hep hlast hmid hlo hhi => ?wake, fun p i x w hx hw hm => ?miss,
    fun hen hplan => ⟨_, rfl, ?plan⟩, fun p f fs hplan hl hs hair hw hwin => ?gate, fun b hf hl hslot hh hfcs hpan hsrc hep hst hg => ?beacon,
    fun hf hm hh => ⟨_, rfl, ?holdover⟩⟩
  case rxq =>
    simp [Dev.rxqDataRead, Nat.not_le.mpr hp, Queue.pop_cons hx, words256_zero, Dev.readOut]
  case txts =>
    simp [Dev.txtsDataRead, Nat.not_le.mpr hp, Queue.pop_cons hx, words256_zero, Dev.readOut]
  case aborted =>
    show execFrameReceive p f s = _
    refine act_next ?_
    simp only [hs, ha, Bool.not_true, Bool.false_eq_true, if_false, if_true]
    rw [Dev.rxCopy_off]
    rw [Dev.rport_rportMod]
    · exact hraw
    · intro h
      have := congrArg RPort.aborted h
      simp only at this
      omega
  case acked =>
    show execFrameReceive p f s = _
    exact act_next (by simp [hs, ha, hk, hf, hg, hseq])
  case timeout =>
    subst hr
    show execBaseAckTimeout p s = _
    refine act_next ?_
    simp only [hw]
    rfl
  case wake =>
    subst hx
    show execPartnerWakeWindow p i s = _
    refine act_next ?_
    simp only
    rw [if_pos ⟨hs, hst, hper, hep, hlast⟩, hlo, hhi, hmid]
  case miss =>
    subst hx
    show execPartnerMiss p i s = _
    refine act_next ?_
    have hn : min ((s.dev.partner (partnerKey p i)).misses + 1) 7 = (s.dev.partner (partnerKey p i)).misses + 1 := by omega
    have hl : ¬ 4 ≤ (s.dev.partner (partnerKey p i)).misses + 1 := by omega
    simp [hw, hn, hl]
  case plan =>
    show execDownlinkPlan s = _
    refine act_next ?_
    simp only
    rw [if_neg (by simp [hen, hplan])]
  case gate =>
    show execLaunchGateFire (.radio p) s = _
    refine act_next ?_
    simp [hplan, hl, hs, hair, hw, hwin, Dev.strobeNext]
  case beacon =>
    show execFollowerBeacon b s = _
    refine act_next ?_
    have hgood : min (s.dev.rad.goodBeacons + 1) 2 = 2 := by omega
    simp [hf, hl, hslot, hh, hfcs, hpan, hsrc, hep, hst, hgood]
  case holdover =>
    simp [hf, hm, hh]

/-! ### The checks of a frame for the base (R260, R269) -/

theorem Dev.addrCounts_partner (d : Dev) (k : Nat) :
    d.addrCounts (partnerAddr k) = ((d.partner k).txCnt, (d.partner k).rxMark) := by
  rw [Dev.addrCounts, partnerAddr, if_neg (by omega), Nat.add_sub_cancel_left]

theorem Dev.addrCounts_slot (d : Dev) {k : Nat} (hk : k < 192) :
    d.addrCounts (slotAddr k) = ((d.rslot k).txCnt, (d.rslot k).rxMark) := by
  rw [Dev.addrCounts, slotAddr, if_pos (by omega), Nat.add_sub_cancel_left]

/-- Settles O38: the checks in their order; each way to acceptance passes the tag and the counter. -/
theorem uplinkChecksInOrder : Obligations.UplinkChecksInOrder := by
  refine ⟨?order, ?accepted⟩
  case order =>
    rintro d p f _ _ hopen rfl rfl
    simp only [Dev.rxChecks, hopen, Option.filter_none]
    refine ⟨fun hw => by simp [hw], fun hn => by simp [hn], fun hw hn => ?_⟩
    rw [if_neg (by simp [hw, hn])]
    refine ⟨fun h5 => if_pos h5, fun hsrc hk => ?_⟩
    rw [if_neg (by omega)]
    refine ⟨fun h6 => if_pos h6, fun h6 => ?_⟩
    rw [if_neg h6]
    refine ⟨fun h7 => by simp [h7], fun h7 h8 => by simp [h7, h8], fun h7 h8 => ?_⟩
    rw [if_neg (by simp [h7]), if_neg (by omega)]
    refine ⟨fun h9 => by rw [h9], fun cs h9 => ?_⟩
    rw [h9, hsrc]
  case accepted =>
    intro d p f src cs h
    simp only [Dev.rxChecks] at h
    split at h
    case h_1 i hi =>
      split_ifs at h with h5 h7 h8
      split at h
      · cases h
      · cases h
        refine ⟨rfl, by simpa using h7, ?_⟩
        rw [not_not.mp h5, Dev.addrCounts_partner]
        omega
    case h_2 hi =>
      split_ifs at h with h4 h5 h6 h7 h8
      split at h
      · cases h
      · cases h
        obtain ⟨hsrc, hk⟩ := not_or.mp h5
        have := d.nSlots_le
        refine ⟨rfl, by simpa using h7, ?_⟩
        rw [not_not.mp hsrc, Dev.addrCounts_slot _ (by omega)]
        omega

end Sys2Proof.Machine

/-! PROOFS. The LPM TCAM: the order of the routes, and what a lookup returns (10 R306, R307). -/
namespace Sys2Proof.Machine

open scoped List

/-- Routes in order of falling length (10 R307). -/
def Falling (l : List Route) : Prop := l.Pairwise fun x y => y.plen ≤ x.plen

/-! ### The groups of one length -/

theorem mem_grp {l : List Route} {g : Nat} {x : Route} (h : x ∈ grp l g) : x ∈ l ∧ x.plen = g := by
  simpa [grp] using h

/-- Routes in order: those of length n and more, then the shorter ones. -/
theorem Falling.split {l : List Route} (h : Falling l) (n : Nat) :
    l = l.filter (fun x => decide (n ≤ x.plen)) ++ l.filter fun x => decide (x.plen < n) := by
  induction l with
  | nil => rfl
  | cons x xs ih =>
    obtain ⟨hx, hxs⟩ := List.pairwise_cons.mp h
    by_cases hn : n ≤ x.plen
    · rw [List.filter_cons_of_pos (by simpa using hn), List.filter_cons_of_neg (by simpa using hn), List.cons_append, ← ih hxs]
    · have hlong : xs.filter (fun y => decide (n ≤ y.plen)) = [] := List.filter_eq_nil_iff.mpr fun y hy => by
        have := hx y hy
        simp only [decide_eq_true_eq]
        omega
      have hshort : xs.filter (fun y => decide (y.plen < n)) = xs := List.filter_eq_self.mpr fun y hy => by
        have := hx y hy
        simp only [decide_eq_true_eq]
        omega
      rw [List.filter_cons_of_neg (by simpa using hn), List.filter_cons_of_pos (by simpa using hn), hlong, hshort, List.nil_append]

/-- The groups below length n, longest first, each in an order of its own. -/
def lower (rot : List Route → List Route) (l : List Route) (n : Nat) : List Route :=
  (List.range n).reverse.flatMap fun g => rot (grp l g)

theorem lower_succ (rot : List Route → List Route) (l : List Route) (n : Nat) :
    lower rot l (n + 1) = rot (grp l n) ++ lower rot l n := by
  rw [lower, List.range_succ, List.reverse_append, List.reverse_singleton, List.singleton_append, List.flatMap_cons]
  rfl

section
variable {rot : List Route → List Route} (hrot : ∀ l, (rot l).Perm l)
include hrot

/-- The groups below n hold the routes shorter than n. -/
theorem lower_perm (l : List Route) (n : Nat) : (lower rot l n).Perm (l.filter fun x => decide (x.plen < n)) := by
  induction n with
  | zero => simp [lower]
  | succ n ih =>
    have hsplit := List.filter_append_perm (fun x : Route => x.plen == n) (l.filter fun x => decide (x.plen < n + 1))
    have heq : (l.filter fun x => decide (x.plen < n + 1)).filter (fun x => x.plen == n) = grp l n := by
      rw [List.filter_filter, grp]
      exact List.filter_congr fun x _ => by by_cases hx : x.plen = n <;> simp [hx]
    have hlt : (l.filter fun x => decide (x.plen < n + 1)).filter (fun x => !(x.plen == n))
        = l.filter fun x => decide (x.plen < n) := by
      rw [List.filter_filter]
      refine List.filter_congr fun x _ => ?_
      rw [Bool.eq_iff_iff]
      simp only [Bool.and_eq_true, Bool.not_eq_true', beq_eq_false_iff_ne, decide_eq_true_eq]
      omega
    rw [heq, hlt] at hsplit
    rw [lower_succ]
    exact ((hrot _).append ih).trans hsplit

theorem lower_lt {l : List Route} {n : Nat} {x : Route} (h : x ∈ lower rot l n) : x.plen < n := by
  have := (lower_perm hrot l n).mem_iff.mp h
  simpa using (List.mem_filter.mp this).2

theorem lower_falling (l : List Route) (n : Nat) : Falling (lower rot l n) := by
  induction n with
  | zero => simp [lower, Falling]
  | succ n ih =>
    rw [lower_succ]
    have hg : ∀ x ∈ rot (grp l n), x.plen = n := fun x hx => (mem_grp ((hrot _).mem_iff.mp hx)).2
    refine List.pairwise_append.mpr ⟨?_, ih, fun x hx y hy => ?_⟩
    · exact List.pairwise_of_forall_mem_list fun x hx y hy => by rw [hg x hx, hg y hy]
    · have := hg x hx
      have := lower_lt hrot hy
      omega

end

theorem rotUp_perm (l : List Route) : (rotUp l).Perm l := by
  cases l with
  | nil => exact .rfl
  | cons x xs => exact List.perm_append_singleton x xs

theorem rotDown_perm (l : List Route) : (rotDown l).Perm l := by
  unfold rotDown
  split
  · next x hx =>
    have h := List.dropLast_append_getLast? x hx
    exact (List.perm_append_singleton x l.dropLast).symm.trans (.of_eq h)
  · next hn => rw [List.getLast?_eq_none_iff.mp hn]

/-! ### Adding a route -/

theorem Dev.routeInsert_tcam (d : Dev) (r : Route) : (d.routeInsert r).sw.tcam =
    d.sw.tcam.filter (fun x => decide (r.plen ≤ x.plen)) ++ [r] ++ lower rotUp d.sw.tcam r.plen := rfl

theorem Dev.routeInsert_falling {d : Dev} (h : Falling d.sw.tcam) (r : Route) : Falling (d.routeInsert r).sw.tcam := by
  rw [Dev.routeInsert_tcam]
  have hlong : ∀ x ∈ d.sw.tcam.filter (fun x => decide (r.plen ≤ x.plen)) ++ [r], r.plen ≤ x.plen := by
    intro x hx
    rcases List.mem_append.mp hx with hx | hx
    · simpa using (List.mem_filter.mp hx).2
    · rw [List.mem_singleton.mp hx]
  refine List.pairwise_append.mpr ⟨List.pairwise_append.mpr ⟨h.filter _, List.pairwise_singleton _ _, ?_⟩,
    lower_falling rotUp_perm _ _, fun x hx y hy => ?_⟩
  · intro x hx y hy
    rw [List.mem_singleton.mp hy]
    exact hlong x (List.mem_append_left _ hx)
  · have := hlong x hx
    have := lower_lt rotUp_perm hy
    omega

theorem Dev.routeInsert_perm (d : Dev) (r : Route) : (d.routeInsert r).sw.tcam.Perm (r :: d.sw.tcam) := by
  rw [Dev.routeInsert_tcam, List.append_assoc, List.singleton_append]
  refine List.perm_middle.trans (List.Perm.cons r ?_)
  have hsplit := List.filter_append_perm (fun x : Route => decide (r.plen ≤ x.plen)) d.sw.tcam
  have hlt : d.sw.tcam.filter (fun x => !decide (r.plen ≤ x.plen)) = d.sw.tcam.filter fun x => decide (x.plen < r.plen) :=
    List.filter_congr fun x _ => by rw [← decide_not, decide_eq_decide]; omega
  rw [hlt] at hsplit
  exact ((List.Perm.refl _).append (lower_perm rotUp_perm _ _)).trans hsplit

/-! ### Deleting a route -/

/-- A group without the route at a position: the last one takes its place. -/
def without (g : List Route) (k : Nat) : List Route :=
  match g.getLast? with
  | some z => if k + 1 = g.length then g.dropLast else (g.set k z).dropLast
  | none => []

theorem without_perm {g : List Route} {k : Nat} {r : Route} (h : g[k]? = some r) : (r :: without g k).Perm g := by
  obtain ⟨hk, hr⟩ := List.getElem?_eq_some_iff.mp h
  obtain ⟨l, z, rfl⟩ : ∃ l z, g = l ++ [z] := 
    (List.eq_nil_or_concat' g).resolve_left (List.ne_nil_of_length_pos (by omega))
  have hlen : k < l.length + 1 := by simpa using hk
  simp only [without, List.getLast?_concat, List.length_append, List.length_singleton]
  split
  · next hlast =>
    have hz : z = r := by
      rw [← hr]
      simp [show k = l.length by omega]
    rw [List.dropLast_concat, hz]
    exact (List.perm_append_singleton r l).symm
  · next hlast =>
    have hkl : k < l.length := by omega
    have hrl : l[k] = r := by rw [← hr, List.getElem_append_left hkl]
    rw [List.set_append_left _ _ hkl, List.dropLast_concat]
    refine List.Perm.trans ?_ (List.perm_append_singleton z l).symm
    rw [← hrl, List.set_eq_take_append_cons_drop, if_pos hkl]
    calc l[k] :: (l.take k ++ z :: l.drop (k + 1))
      _ ~ l[k] :: z :: (l.take k ++ l.drop (k + 1)) := List.Perm.cons _ List.perm_middle
      _ ~ z :: l[k] :: (l.take k ++ l.drop (k + 1)) := List.Perm.swap _ _ _
      _ ~ z :: (l.take k ++ l[k] :: l.drop (k + 1)) := List.Perm.cons _ List.perm_middle.symm
      _ ~ z :: l := .of_eq (by rw [List.getElem_cons_drop, List.take_append_drop])

theorem Dev.routeDelete_tcam (d : Dev) (i : Nat) (r : Route) : (d.routeDelete i r).sw.tcam =
    d.sw.tcam.filter (fun x => decide (r.plen < x.plen)) ++ without (grp d.sw.tcam r.plen) (i - Machine.endOf d.sw.tcam (r.plen + 1))
      ++ lower rotDown d.sw.tcam r.plen := rfl

/-- Routes in order: the longer ones, the group of a length, and the shorter ones. -/
theorem Falling.split_grp {l : List Route} (h : Falling l) (n : Nat) :
    l = l.filter (fun x => decide (n < x.plen)) ++ (grp l n ++ l.filter fun x => decide (x.plen < n)) := by
  have hshort : Falling (l.filter fun x => decide (x.plen < n + 1)) := List.Pairwise.filter _ h
  have hgrp : (l.filter fun x => decide (x.plen < n + 1)).filter (fun x => decide (n ≤ x.plen)) = grp l n := by
    rw [List.filter_filter, grp]
    refine List.filter_congr fun x _ => ?_
    rw [Bool.eq_iff_iff]
    simp only [Bool.and_eq_true, decide_eq_true_eq, beq_iff_eq]
    omega
  have hlt : (l.filter fun x => decide (x.plen < n + 1)).filter (fun x => decide (x.plen < n))
      = l.filter fun x => decide (x.plen < n) := by
    rw [List.filter_filter]
    refine List.filter_congr fun x _ => ?_
    rw [Bool.eq_iff_iff]
    simp only [Bool.and_eq_true, decide_eq_true_eq]
    omega
  have hsplit := hshort.split n
  rw [hgrp, hlt] at hsplit
  rw [← hsplit]
  exact h.split (n + 1)

/-- The route at a position stands in the group of its length, behind the longer ones. -/
theorem Falling.getElem?_grp {l : List Route} (h : Falling l) {i : Nat} {r : Route} (hi : l[i]? = some r) :
    (grp l r.plen)[i - endOf l (r.plen + 1)]? = some r := by
  rw [show endOf l (r.plen + 1) = (l.filter fun x => decide (r.plen < x.plen)).length from rfl]
  rw [h.split_grp r.plen] at hi
  have hlong : (l.filter fun x => decide (r.plen < x.plen)).length ≤ i := by
    by_contra hlt
    rw [List.getElem?_append_left (not_le.mp hlt)] at hi
    have := (List.mem_filter.mp (List.mem_of_getElem? hi)).2
    simp at this
  rw [List.getElem?_append_right hlong] at hi
  have hin : i - (l.filter fun x => decide (r.plen < x.plen)).length < (grp l r.plen).length := by
    by_contra hge
    rw [List.getElem?_append_right (not_lt.mp hge)] at hi
    have := (List.mem_filter.mp (List.mem_of_getElem? hi)).2
    simp at this
  exact (List.getElem?_append_left hin).symm.trans hi

theorem Dev.routeDelete_falling {d : Dev} (h : Falling d.sw.tcam) {i : Nat} {r : Route} (hi : d.sw.tcam[i]? = some r) :
    Falling (d.routeDelete i r).sw.tcam := by
  rw [Dev.routeDelete_tcam]
  have hwithout : ∀ x ∈ without (grp d.sw.tcam r.plen) (i - Machine.endOf d.sw.tcam (r.plen + 1)), x.plen = r.plen := fun x hx =>
    (mem_grp ((without_perm (h.getElem?_grp hi)).mem_iff.mp (List.mem_cons_of_mem r hx))).2
  have hlong : ∀ x ∈ d.sw.tcam.filter (fun x => decide (r.plen < x.plen)), r.plen < x.plen := fun x hx => by
    simpa using (List.mem_filter.mp hx).2
  refine List.pairwise_append.mpr ⟨List.pairwise_append.mpr ⟨h.filter _,
    List.pairwise_of_forall_mem_list fun x hx y hy => by rw [hwithout x hx, hwithout y hy], fun x hx y hy => ?_⟩,
    lower_falling rotDown_perm _ _, fun x hx y hy => ?_⟩
  · have := hlong x hx
    have := hwithout y hy
    omega
  · have := lower_lt rotDown_perm hy
    rcases List.mem_append.mp hx with hx | hx
    · have := hlong x hx
      omega
    · have := hwithout x hx
      omega

theorem Dev.routeDelete_perm {d : Dev} (h : Falling d.sw.tcam) {i : Nat} {r : Route} (hi : d.sw.tcam[i]? = some r) :
    (r :: (d.routeDelete i r).sw.tcam).Perm d.sw.tcam := by
  have hgroup : r :: (without (grp d.sw.tcam r.plen) (i - Machine.endOf d.sw.tcam (r.plen + 1)) ++ lower rotDown d.sw.tcam r.plen)
      ~ grp d.sw.tcam r.plen ++ d.sw.tcam.filter fun x => decide (x.plen < r.plen) :=
    (without_perm (h.getElem?_grp hi)).append (lower_perm rotDown_perm _ _)
  rw [Dev.routeDelete_tcam, List.append_assoc]
  refine List.perm_middle.symm.trans ?_
  exact ((List.Perm.refl _).append hgroup).trans (.of_eq (h.split_grp r.plen).symm)

/-- Settles O41: both keep the groups in their order and move routes within their group alone. -/
theorem routesStayInOrder : Obligations.RoutesStayInOrder := fun _ h =>
  ⟨fun r => ⟨Dev.routeInsert_falling h r, Dev.routeInsert_perm _ r⟩,
    fun _ _ hi => ⟨Dev.routeDelete_falling h hi, Dev.routeDelete_perm h hi⟩⟩

/-- Settles O42: the first match is a longest one, since no later route is longer. -/
theorem lookupReturnsLongestPrefix : Obligations.LookupReturnsLongestPrefix := by
  intro d a vid r h hl
  obtain ⟨hr, as, bs, hsplit, hbefore⟩ := List.find?_eq_some_iff_append.mp hl
  have hmatch : (r.vid = 0 ∨ r.vid = vid) ∧ prefixHit r.pfx r.plen a = true := by simpa using hr
  refine ⟨hsplit ▸ by simp, hmatch.1, hmatch.2, fun x hx hvid hhit => ?_⟩
  rw [hsplit] at hx h
  rcases List.mem_append.mp hx with hx | hx
  · have hmiss := hbefore x hx
    have hhit' : ((x.vid == 0 || x.vid == vid) && prefixHit x.pfx x.plen a) = true := by simpa using ⟨hvid, hhit⟩
    rw [hhit'] at hmiss
    exact absurd hmiss (by decide)
  · rcases List.mem_cons.mp hx with rfl | hx
    · exact le_rfl
    · exact (List.pairwise_cons.mp (List.pairwise_append.mp h).2.1).1 x hx

end Sys2Proof.Machine

/-! PROOFS. The switch: its commands and its events (chapter 10). -/
namespace Sys2Proof.Machine

/-! ### What the commands rest on -/

theorem Dev.l2Insert_put {d : Dev} {e : L2} {n : Nat} (h : ((l2Cands e.mac e.vid).find? fun n => (d.l2At n).isNone) = some n) :
    d.l2Insert e = (d.l2Set n (some e), .put n) := by
  simp only [Dev.l2Insert, h]

theorem Dev.retryHeld_none {d : Dev} (h : d.sw.heldIns = []) : d.retryHeld = d := by
  rw [Dev.retryHeld, h, List.foldl_nil]

/-- A snapshot read puts bytes of whole entries in the buffer, as many as its length holds. -/
theorem snapshot1_fits (c : Cmd) (d : Dev) (l : List (List Byte)) : ∃ bs, bs.length ≤ (arg c 3).toNat ∧
    snapshot1 c d l = done (d.toBuffer c.path (arg64 c 1) bs) [word bs.length] :=
  ⟨_, wholeFit_length _ l, rfl⟩

@[simp] theorem Dev.toBuffer_sw (d : Dev) (p : Path) (a : Nat) (bs : List Byte) : (d.toBuffer p a bs).sw = d.sw := by
  unfold Dev.toBuffer
  repeat' split
  all_goals rfl

theorem swDigestReadRun_fits (c : Cmd) (d : Dev) : ∃ bs, bs.length ≤ (arg c 3).toNat ∧
    swDigestReadRun c d = done (d.toBuffer c.path (arg64 c 1) bs) [word bs.length] := snapshot1_fits c d _

theorem swBlockReadRun_fits {c : Cmd} (d : Dev) (h : argB c 0 0 = false ∨ argF c 0 1 10 < 64) : ∃ bs,
    bs.length ≤ (arg c 3).toNat ∧ swBlockReadRun c d = done (d.toBuffer c.path (arg64 c 1) bs) [word bs.length] := by
  have hno : ¬(argB c 0 0 = true ∧ 64 ≤ argF c 0 1 10) := by
    rintro ⟨ht, hb⟩
    rcases h with h | h
    · simp [ht] at h
    · omega
  simp only [swBlockReadRun, if_neg hno]
  exact snapshot1_fits c d _

/-- A port command that names a mode of the port's kind. -/
theorem swPortCfgRun_kind {c : Cmd} {d : Dev} (hkind : argF c 0 0 3 < 2 ↔ argF c 0 3 2 < 2)
    (hne : portCfg c (d.eport (argF c 0 0 3)) ≠ d.eport (argF c 0 0 3)) :
    swPortCfgRun c d = if (d.eport (argF c 0 0 3)).en then refuse d .notHalted
      else done (d.eportMod (argF c 0 0 3) fun _ => portCfg c (d.eport (argF c 0 0 3))) [] := by
  simp only [swPortCfgRun]
  rw [if_neg (fun h => h (propext hkind)), if_neg hne]

/-- Settles O39: each command's meaning, and the state that it leaves. -/
theorem switchCommandsRun : Obligations.SwitchCommandsRun := by
  rintro c s _ _ rfl rfl
  refine ⟨fun ha hen hkind hne => exec_done rfl rfl ha ?port,
    fun ha hen hkind hne => exec_refused rfl rfl rfl rfl ha ?portRunning,
    fun ha => ⟨fun hon => exec_done rfl rfl ha (if_pos hon), fun hoff => exec_done rfl rfl ha (if_neg (by simp [hoff]))⟩,
    fun ha => exec_waits rfl rfl ha rfl, fun ha => exec_waits rfl rfl ha rfl,
    fun new ha hp hnew hx hroom => exec_waits rfl rfl ha ?qos, fun new ha hp hnew hx hroom => exec_refused rfl rfl rfl rfl ha ?qosFull,
    fun e ha he => ⟨fun x hx => exec_done rfl rfl ha ?addPresent, fun n hx hn => exec_done rfl rfl ha ?addAbsent⟩,
    fun ha => ⟨fun x hx => exec_done rfl rfl ha ?delPresent, fun hx => exec_refused rfl rfl rfl rfl ha ?delAbsent⟩,
    fun h ha hh => exec_done rfl rfl ha ?search, fun w ha hw hl hc hheld => exec_done_area rfl rfl ha ?next,
    fun ha hw => exec_refused_area rfl rfl rfl ha ?nextClosed, fun ha => exec_later rfl rfl ha rfl,
    fun ha hn => exec_waits rfl rfl ha ?rif, fun ha => exec_done rfl rfl ha rfl,
    fun r ha hr hnh hnew hroom => exec_done rfl rfl ha ?routeAdd, fun ha hnh => exec_refused rfl rfl rfl rfl ha ?routeUnset,
    fun i r ha hi hr => exec_done rfl rfl ha ?routeDel,
    fun ha hp htx => ⟨fun hin hd => exec_done rfl rfl ha ?sa, fun hin hd => exec_refused rfl rfl rfl rfl ha ?saDest,
      fun hout => exec_done rfl rfl ha ?saOut⟩,
    fun ha => ?digests, fun ha hb => ?block, fun ha hp => exec_done rfl rfl ha (if_pos hp)⟩
  case port =>
    show swPortCfgRun c s.dev = _
    rw [swPortCfgRun_kind hkind hne, if_neg (by simp [hen])]
  case portRunning =>
    show swPortCfgRun c s.dev = _
    rw [swPortCfgRun_kind hkind hne, if_pos hen]
  case qos =>
    show swQosCfgRun c s.dev = _
    have hlim : argF c 4 0 14 < argF c 3 16 14 := by simpa [hnew] using hx
    simp only [swQosCfgRun, ← hnew]
    rw [if_neg (by simp [hp]), if_neg (by omega), if_neg (by omega)]
  case qosFull =>
    show swQosCfgRun c s.dev = _
    have hlim : argF c 4 0 14 < argF c 3 16 14 := by simpa [hnew] using hx
    simp only [swQosCfgRun, ← hnew]
    rw [if_neg (by simp [hp]), if_neg (by omega), if_pos hroom]
  case addPresent =>
    subst he
    show swL2AddRun c s.dev = _
    simp only at hx
    simp only [swL2AddRun, hx]
    rfl
  case addAbsent =>
    subst he
    show swL2AddRun c s.dev = _
    simp only at hx
    simp only [swL2AddRun, hx, Dev.l2Insert_put hn]
    rfl
  case delPresent =>
    show swL2DelRun c s.dev = _
    simp only [swL2DelRun, hx]
  case delAbsent =>
    show swL2DelRun c s.dev = _
    simp only [swL2DelRun, hx]
  case search =>
    show swL2SearchRun c s.dev = _
    simp only [swL2SearchRun, hh]
  case next =>
    show swL2NextRun (s.dev.withArea .swL2Next c) s.dev = _
    simp only [swL2NextRun, argF_withArea, arg_withArea, arg64_withArea, withArea_path_eq, hw, hl, hc,
      List.filter_nil, List.filterMap_nil, List.take_nil, List.map_nil, List.flatten_nil, List.nil_append, List.length_nil,
      Nat.zero_le, decide_true, Bool.and_self, if_true, Nat.add_zero, Nat.zero_add]
    rw [Dev.retryHeld_none (by simpa [Dev.walkSet] using hheld)]
    simp [Dev.walkSet, b2n]
  case nextClosed =>
    show swL2NextRun (s.dev.withArea .swL2Next c) s.dev = _
    simp only [swL2NextRun, argF_withArea, hw]
  case rif => exact if_neg (by omega)
  case routeAdd =>
    show swRouteAddRun c s.dev = _
    subst hr
    simp only at hnew hnh
    simp only [swRouteAddRun, hnew]
    rw [if_neg (by simp [Option.isSome_iff_ne_none.mp hnh]), if_neg (by omega)]
  case routeUnset => exact if_pos (by simp [hnh])
  case routeDel =>
    show swRouteDelRun c s.dev = _
    simp only [swRouteDelRun, hi, hr]
  case sa =>
    show swMacsecSaRun c s.dev = _
    simp only [swMacsecSaRun, htx]
    rw [if_neg (by omega), if_neg (by simp [hin]), if_neg (by simp [hd])]
    rfl
  case saDest =>
    show swMacsecSaRun c s.dev = _
    simp only [swMacsecSaRun]
    rw [if_neg (by omega), if_neg (by simp [hin]), if_pos (by rw [hd]; rfl)]
  case saOut =>
    show swMacsecSaRun c s.dev = _
    simp only [swMacsecSaRun, htx]
    rw [if_neg (by omega), if_pos (by simp [hout])]
    rfl
  case digests =>
    obtain ⟨bs, hlen, hrun⟩ := swDigestReadRun_fits (s.dev.withArea .swDigestRead c) s.dev
    have hexec := exec_done_area (i := .swDigestRead c) rfl rfl ha hrun
    exact ⟨bs, by simpa using hlen, by simpa using hexec⟩
  case block =>
    obtain ⟨bs, hlen, hrun⟩ := swBlockReadRun_fits (c := s.dev.withArea .swBlockRead c) s.dev (by simpa using hb)
    have hexec := exec_done_area (i := .swBlockRead c) rfl rfl ha hrun
    exact ⟨bs, by simpa using hlen, by simpa using hexec⟩

/-! ### Events (R292, R294, R300 to R305, R309, R314) -/

/-- Settles O40: each event's meaning, branch by branch. -/
theorem switchEvents : Obligations.SwitchEvents := by
  rintro s _ rfl
  refine ⟨fun p f hup hlen => ?runt, fun p f hup => ?classified, fun p => rfl, fun p v hp hp' hen hn hb => ?linkUp,
    fun p hen hf hm hl => rfl, fun p q => rfl, fun p q => rfl, fun mac vid p n ns hns hnone hn => ?learn,
    fun h hs hheld => ⟨fun q hq => ?deferredCmd, fun hq => ?deferred⟩, ⟨_, rfl, rfl⟩, fun h w hw => ?idle,
    fun f fs q hf hq hl => ?flush, fun b w hb hw => ⟨_, rfl, ?sweep⟩⟩
  case runt =>
    show execEthFrameReceive p f s = _
    refine act_next ?_
    rw [if_pos hup, Dev.classify, if_pos hlen]
  case classified =>
    show execEthFrameReceive p f s = _
    exact act_next (by rw [if_pos hup])
  case linkUp =>
    have hlow : ¬ p.val < 2 := by omega
    show execLinkUp p v s = _
    refine act_next ?_
    rw [if_neg (by simp [hen, hn, hb]; omega)]
    simp only [hlow, if_false]
  case learn =>
    show execLearnNotice s = _
    refine act_next ?_
    have hfind : Dev.l2Find { s.dev with sw := { s.dev.sw with notices := ns } } mac vid = none := hnone
    have hput := Dev.l2Insert_put (d := { s.dev with sw := { s.dev.sw with notices := ns } })
      (e := { mac := mac, vid := vid, mask := BitVec.ofNat 8 (2 ^ p) }) hn
    simp only [hns, hfind, Dev.learn, hput]
    rfl
  case deferredCmd =>
    show execLearnDeferTimeout s = _
    exact act_next (by simp only [hheld, hq])
  case deferred =>
    show execLearnDeferTimeout s = _
    exact act_next (by simp only [hheld, hq])
  case idle =>
    show execWalkIdleClose h s = _
    exact act_next (by simp only [hw])
  case flush =>
    show execFlushDone s = _
    exact act_next (by simp only [hf, hq, hl, List.filterMap_nil, List.foldl_nil, List.filter_nil, List.length_nil]; rfl)
  case sweep =>
    have hne : (w == word (s.dev.digest true b)) = false := by simpa using hw
    simp [Nat.not_le.mpr hb, hne]

end Sys2Proof.Machine

/-! PROOFS. The scheduler and Bellows: their commands and their events (chapter 11). -/
namespace Sys2Proof.Machine

/-! ### Commands (R331, R336, R340, R344, R353) -/

theorem pwrSt_of_ne {n : Nat} (h : n ≠ 0) : pwrSt n = if n = 1 then .doze else .night := by
  unfold pwrSt
  split
  · exact absurd rfl h
  · rfl
  · next h1 => rw [if_neg h1]

theorem pwrSt_ne_run {n : Nat} (h : n ≠ 0) : pwrSt n ≠ .run := by
  rw [pwrSt_of_ne h]
  split <;> decide

/-- Settles O43: each command's meaning, and the state that it leaves. -/
theorem powerCommandsRun : Obligations.PowerCommandsRun := by
  rintro c s _ rfl
  refine ⟨fun ha hf => exec_waits rfl rfl ha (if_neg (by simpa using hf)),
    fun t w ha hst ht hw hwake h10 hmax h2 h600 hact hch => exec_done rfl rfl ha ?set,
    fun ha hst hch => exec_done rfl rfl ha ?setRun,
    fun t ha hst ht hwake h2 h600 hact => exec_refused rfl rfl rfl rfl ha ?setActive,
    fun ha => ⟨fun hg => exec_waits rfl rfl ha (if_neg ?wakeCfg), fun hg hb => exec_refused rfl rfl rfl rfl ha (if_pos ?gpio)⟩,
    fun ha => exec_waits rfl rfl ha rfl, fun ha => ⟨_, _, _, _, _, exec_done rfl rfl ha rfl⟩,
    fun ha => ⟨fun hb => ⟨_, _, exec_done rfl rfl ha (if_neg (by simp [hb]))⟩, fun hb => exec_done rfl rfl ha (if_pos hb)⟩⟩
  case set =>
    show pwrSetRun c s.dev = _
    simp only [pwrSetRun, ← ht, ← hw]
    rw [if_neg (pwrSt_ne_run hst), if_neg (by simp [h10, hmax]), if_neg (by omega), if_neg (by simp [hact]), if_neg (by simp [hch]),
      pwrSt_of_ne hst, if_neg hwake]
  case setRun =>
    show pwrSetRun c s.dev = _
    simp only [pwrSetRun, hst, hch]
    rfl
  case setActive =>
    show pwrSetRun c s.dev = _
    simp only [pwrSetRun, ← ht]
    rw [if_neg (pwrSt_ne_run hst), if_neg (fun h => h.1 hwake), if_neg (by omega), if_pos hact]
  case wakeCfg => rcases hg with h | h <;> simp [h]
  case gpio => simp [hg, hb]

/-! ### Bellows: events (R337, R343, R345, R348, R349) -/

theorem Dev.advanceTo_time {d : Dev} (h : d.tbs.en = true) (t : Nat) : (d.advanceTo t).tbs.time = max d.tbs.time t := by
  have : (d.advanceTo t).tbs.time = d.tbs.time + (t - d.tbs.time) := if_pos h
  omega

theorem Blw.budget_le (b : Blw) : b.budget ≤ b.cfg.cap := by
  unfold Blw.budget
  split
  · exact le_rfl
  · split <;> exact min_le_left _ _

/-- The passing of time changes the times spent in each state alone. -/
@[simp] theorem Dev.advanceTo_blw (d : Dev) (t : Nat) : (d.advanceTo t).blw.postponed = d.blw.postponed
    ∧ (d.advanceTo t).blw.wakeAt = d.blw.wakeAt := ⟨rfl, rfl⟩

@[simp] theorem Dev.setDom_blw (d : Dev) (k : Nat) (st : PState) : (d.setDom k st).blw = d.blw := rfl

theorem Dev.wakeEpoch_some {d : Dev} {w : Nat} (h : d.wakeEpoch = some w) : d.blw.wakeAt = some w := by
  unfold Dev.wakeEpoch at h
  split_ifs at h
  exact h

/-- Settles O44: each event's meaning, branch by branch. -/
theorem powerEvents : Obligations.PowerEvents := by
  rintro s _ rfl
  refine ⟨fun w x hen hre hx => ?window, (s.dev.blw.budget_le), min_le_left _ _, min_le_right _ _, fun hc => ?grace,
    fun hsrc => ⟨fun w => ?charger, fun w => ?battery, fun b => ?failed⟩, fun m k => rfl, fun i ch hch hst hen => ?calibrate,
    fun w hw => ⟨?prepare, ?restore, ?edges, fun hp => ?noEdges⟩⟩
  case window =>
    subst hx
    show execBudgetWindow w s = _
    refine act_next ?_
    rw [if_neg (by simp [hen, hre])]
  case grace =>
    refine ⟨_, rfl, ?_⟩
    simp [hc, Dev.graceClear]
  case charger =>
    show execSmbusReadDone false (some w) s = _
    exact act_next (by simp [hsrc])
  case battery =>
    show execSmbusReadDone true (some w) s = _
    exact act_next (by simp [hsrc])
  case failed =>
    show execSmbusReadDone b none s = _
    exact act_next (by simp [hsrc])
  case calibrate =>
    refine ⟨_, rfl, ?_⟩
    simp only [hch, hst, hen, and_self, if_true]
    exact ⟨rfl, Dev.advanceTo_time hen _⟩
  case prepare =>
    refine ⟨_, rfl, ?_⟩
    simp [hw]
  case restore =>
    refine ⟨_, rfl, ?_⟩
    simp [hw]
  case edges =>
    refine ⟨_, rfl, ?_⟩
    simp only [hw, Bool.true_or, if_true]
    exact ⟨rfl, rfl⟩
  case noEdges =>
    have hnot : decide (100 ≤ s.dev.blw.postponed) = false := by simpa using hp
    refine ⟨_, rfl, ?_⟩
    simp [hw, hnot]

/-! ### The scheduler: events (R326 to R332) -/

@[simp] theorem Dev.trace_ents (d : Dev) (action reason core entry : Nat) (e : Ent) :
    (d.trace action reason core entry e).sch.ents = d.sch.ents := by
  simp only [Dev.trace]
  split
  · simp
  · rfl

theorem Dev.mem_ents {d : Dev} {x : Nat × Ent} : x ∈ d.ents ↔ (x.1, some x.2) ∈ d.sch.ents := by
  simp only [Dev.ents, List.mem_filterMap, Option.map_eq_some_iff]
  constructor
  · rintro ⟨⟨k, e⟩, hk, y, rfl, rfl⟩
    exact hk
  · exact fun h => ⟨_, h, x.2, rfl, rfl⟩

/-- What executes on a core after dispatch has started an event there is that event (R328). -/
theorem Dev.startOn_only {d : Dev} {k core reason : Nat} {e : Ent} (hfree : d.coreFree core = true) {x : Nat × Ent}
    (hx : x ∈ (d.startOn k core reason e).ents) (hc : x.2.core = some core) : x.1 = k := by
  rw [Dev.mem_ents] at hx
  simp only [Dev.startOn, Dev.trace_ents] at hx
  rcases tset_mem hx with hold | ⟨hnew, -⟩
  · have := List.all_eq_true.mp hfree x (Dev.mem_ents.mpr hold)
    simp [hc] at this
  · exact congrArg Prod.fst hnew

/-- Settles O45: each event's meaning, and what a start leaves on its core. -/
theorem schedulerEvents : Obligations.SchedulerEvents := by
  refine ⟨?events, fun d k core reason e hfree x hx hc => Dev.startOn_only hfree hx hc⟩
  rintro s _ rfl
  refine ⟨fun e x p hdom hx h1 h2 hpool => ?offered, fun e hdom => ?noDomain, fun n e he hw => ?expiry, fun m => rfl,
    fun m w h0 h4 => ?latched⟩
  case offered =>
    show execEventAdmit e s = _
    refine act_next ?_
    rw [if_pos hdom, ← hx]
    simp [Dev.offer, hx, h1, h2, Dev.admitAny, hpool]
  case noDomain =>
    show execEventAdmit e s = _
    exact act_next (by rw [if_neg (by simp [hdom])])
  case expiry =>
    show execAffinityWaitExpiry n s = _
    exact act_next (by simp only [he, hw, if_true])
  case latched =>
    show execTrcDataRead m w s = _
    exact act_next (by simp only [h0, h4, or_self, if_false])

end Sys2Proof.Machine

/-! PROOFS. The host and local interfaces: their commands and their events (chapter 12). -/
namespace Sys2Proof.Machine

/-! ### Reads of queues (14 R409, 03 R108) -/

section
variable {α : Type} {kind : ReadKind} {c : Cmd} {d : Dev} {q : Queue α} {enc : QItem α → List Byte} {put : Dev → Queue α → Dev}

/-- A read of an empty queue waits for data. -/
theorem queueRead_waits (op : Op) (hq : q.items = []) (h : (d.reads.filter fun r => r.path == c.path).length < 16) :
    queueRead kind (d.withArea op c) d q enc put = later' { d with reads := d.reads ++
      [{ kind := kind, path := c.path, tag := c.tag, addr := arg64 c 1, len := (arg c 3).toNat, at_ := d.tbs.mono }] } := by
  rw [queueRead, hq]
  exact pendRead_area h

/-- A read of a queue whose one item fits takes it. -/
theorem queueRead_one {i : QItem α} (hq : q.items = [i]) (hfit : (enc i).length ≤ (arg c 3).toNat) :
    queueRead kind c d q enc put =
      done ((put d q.pop.2).toBuffer c.path (arg64 c 1) (enc i)) (readWords (enc i).length (!q.pop.2.items.isEmpty) d.epoch) := by
  simp [queueRead, hq, Queue.takeFit, hfit]

/-- A queue that no pending read asks for stays as it is. -/
theorem Dev.serveQueue_none (h : d.reads = []) : d.serveQueue kind q enc put = d := by
  rw [Dev.serveQueue, h]
  rfl

end

theorem adcRecord_length (b : AdcBlk) (eop : Bool) : (adcRecord (.data b eop)).length = 16 + 2 * b.words.length := by
  simp [adcRecord, leBytes]
  omega

/-- R374: a message from a port with an address queues. -/
theorem isbSendRun_queues {c : Cmd} {d : Dev} (hisb : (d.can (argF c 0 0 2)).isb = true) (haddr : (d.can (argF c 0 0 2)).addr ≠ 254)
    (hlen : (arg c 3).toNat ≤ 1048576) :
    ∃ x : CanTx, isbSendRun c d = later' (d.canMod (argF c 0 0 2) fun k => { k with txq := k.txq ++ [x] })
      ∧ x.isb = true ∧ x.data = fitTo (arg c 3).toNat c.data ∧ x.path = c.path ∧ x.tag = c.tag :=
  ⟨_, (if_neg (by simp [hisb, haddr])).trans (if_neg (by omega)), rfl, rfl, rfl, rfl⟩

/-! ### GPIO (R380) -/

theorem Dev.pin31_false_iff {d : Dev} {w : Word} : d.pin31 w = false ↔ d.blw.cfg.gate = false ∨ wbit w 31 = false := by
  rw [Dev.pin31, Bool.and_eq_false_iff]

/-! ### Commands -/

/-- Settles O46: each command's meaning, and the state that it leaves. -/
theorem interfaceCommandsRun : Obligations.InterfaceCommandsRun := by
  rintro c s _ p rfl rfl
  refine ⟨fun n ha hen hfd hoff hisb h50 h90 hrate h125 h1000 hn => exec_done rfl rfl ha ?canPort,
    fun ha hen => exec_done rfl rfl ha ?canOff,
    fun ha => exec_waits rfl rfl ha rfl,
    fun ha hlen hst hroom => exec_later_area rfl rfl ha ?canSend,
    fun ha hlen hst => exec_refused_area rfl rfl rfl ha ?canBusOff,
    fun ha hq hr => exec_later_area rfl rfl ha ?canRead,
    fun ha hq hr => exec_later_area rfl rfl ha ?isbRead,
    fun ha hq hr => exec_later_area rfl rfl ha ?adcRead,
    fun b ha hq hfit => exec_done_area rfl rfl ha ?adcBlock,
    fun n ha hoff hn hne => exec_done rfl rfl ha ?isbCfg,
    fun ha hisb haddr hlen => ?isbSend,
    fun ha haddr => exec_refused_area rfl rfl rfl ha ?isbNone,
    fun ha => exec_later_area rfl rfl ha ?smbXfer,
    fun ha hpin => exec_done rfl rfl ha ?gpioCfg,
    fun ha => ⟨fun hboth hpin => exec_done rfl rfl ha ?gpioWrite, fun hboth => exec_refused rfl rfl rfl rfl ha ?gpioBoth⟩,
    fun ha => ⟨_, exec_done rfl rfl ha rfl, rfl⟩,
    fun ha hper hoff => exec_waits rfl rfl ha ?adcCfg,
    fun ha => exec_done rfl rfl ha rfl,
    fun ha hi => exec_done rfl rfl ha ?ifStatus⟩
  case canPort =>
    subst hn
    show canPortCfgRun c s.dev = _
    simp [canPortCfgRun, hen, hfd, hoff, hisb, h50, h90, hrate, h125, h1000, Dev.irqIf]
  case canOff => exact if_pos (by simp [hen])
  case canSend =>
    show canSendRun (s.dev.withArea .canSend c) s.dev = _
    simp only [canSendRun, argB_withArea, argF_withArea, arg_withArea, withArea_path_eq, withArea_tag_eq]
    rw [if_neg (by simp [hlen]), if_neg hst, if_neg (by omega)]
  case canBusOff =>
    show canSendRun (s.dev.withArea .canSend c) s.dev = _
    simp only [canSendRun, argB_withArea, argF_withArea]
    rw [if_neg (by simp [hlen]), if_pos hst]
  case canRead =>
    show canReadRun (s.dev.withArea .canRead c) s.dev = _
    simp only [canReadRun, argF_withArea]
    exact queueRead_waits _ hq hr
  case isbRead =>
    show isbReadRun (s.dev.withArea .isbRead c) s.dev = _
    simp only [isbReadRun, argF_withArea]
    exact queueRead_waits _ hq hr
  case adcRead =>
    show adcReadRun (s.dev.withArea .adcRead c) s.dev = _
    exact queueRead_waits _ hq hr
  case adcBlock =>
    have hpop : s.dev.ifc.adcq.pop.2.items = [] := (Queue.pop_cons hq).2
    show adcReadRun (s.dev.withArea .adcRead c) s.dev = _
    rw [adcReadRun, queueRead_one hq (by rw [adcRecord_length]; simpa using hfit), adcRecord_length, hpop,
      withArea_path_eq, arg64_withArea]
    rfl
  case isbCfg =>
    subst hn
    exact (if_neg hne).trans (if_neg (by simp [hoff]))
  case isbSend =>
    obtain ⟨x, hrun, hi, hdata, hpath, htag⟩ := isbSendRun_queues (c := s.dev.withArea .isbSend c) (d := s.dev)
      (by simpa using hisb) (by simpa using haddr) (by simpa using hlen)
    simp only [argF_withArea, arg_withArea, withArea_path_eq, withArea_tag_eq] at hrun hdata hpath htag
    exact ⟨x, exec_later_area rfl rfl ha hrun, hi, hdata, hpath, htag⟩
  case isbNone => exact if_pos (by simp [haddr])
  case smbXfer =>
    show smbXferRun (s.dev.withArea .smbXfer c) s.dev = _
    simp [smbXferRun]
  case gpioCfg => exact if_neg (by simp [Dev.pin31_false_iff.mpr hpin])
  case gpioWrite =>
    refine (if_neg (by simp [hboth])).trans (if_neg ?_)
    have : s.dev.pin31 (arg c 0 ||| arg c 1) = false := Dev.pin31_false_iff.mpr (hpin.imp_right fun h => by
      obtain ⟨h0, h1⟩ := h
      simp [argB, wbit] at h0 h1 ⊢
      simp [h0, h1])
    simp [this]
  case gpioBoth => exact if_pos hboth
  case adcCfg => exact if_neg (by omega)
  case ifStatus =>
    show ifStatusRun c s.dev = _
    simp only [ifStatusRun, hi]
    rfl

/-! ### Events -/

/-- A step of the hardware, from what its meaning makes of the device. -/
theorem act_after {s : State} {f : Dev → Dev} {x : Dev} (h : f s.dev = x) : act s f = .next (s.after x) := act_next (by rw [h])

@[simp] theorem Dev.vector_msixOpen (d : Dev) (v : Nat) : (d.vector v).gen.msixOpen = d.gen.msixOpen := by
  unfold Dev.vector
  split <;> rfl

@[simp] theorem Dev.irq_keeps (d : Dev) (n : Nat) :
    (d.irq n).tbs = d.tbs ∧ (d.irq n).blw = d.blw ∧ (d.irq n).ifc = d.ifc ∧ (d.irq n).reads = d.reads := by
  obtain ⟨htbs, -, -, -, -, -, -, -, -, hblw, hifc, -, -, -, -, -, -, -, -, hreads, -⟩ := d.irqIf_keeps n true
  exact ⟨htbs, hblw, hifc, hreads⟩

/-- A capture leaves Bellows alone. -/
theorem Dev.capture_wakeCap (d : Dev) (n : Nat) (falling : Bool) : (d.capture n falling).blw.wakeCap = d.blw.wakeCap := by
  simp only [Dev.capture]
  split
  · rw [(Dev.irqIf_keeps _ _ _).2.2.2.2.2.2.2.2.2.1]
    rfl
  · rfl

/-- The alarms of a sequence change the alarm counts, the interrupts and the recorder alone. -/
theorem Dev.adcAlarms_keeps (d : Dev) (convs : List (Nat × Nat)) : (d.adcAlarms convs).tbs = d.tbs
    ∧ (d.adcAlarms convs).reads = d.reads ∧ (d.adcAlarms convs).ifc.adcAt = d.ifc.adcAt := by
  refine List.foldlRecOn (motive := fun x : Dev => x.tbs = d.tbs ∧ x.reads = d.reads ∧ x.ifc.adcAt = d.ifc.adcAt) _ _
    ⟨rfl, rfl, rfl⟩ fun x hx ch _ => ?_
  dsimp only
  split
  · exact hx
  · split_ifs <;> simpa only [Dev.log_keeps, Dev.irq_keeps, Dev.adcLimMod] using hx

/-- Settles O47: each event's meaning, branch by branch. -/
theorem interfaceEvents : Obligations.InterfaceEvents := by
  rintro s _ rfl
  refine ⟨fun v hv => ?unmask, fun g w hg hw hw3 => ?linkUp, fun r hr => ?itr, fun r v => rfl,
    fun r v x hi hen hx hst herr h6 h12 hpcie => ?enable, fun r v hi hen => ?disable,
    fun r l f hen hst hw hl h0 hc => ?noDest, fun r ls f q qs hen hst hw hne hl h8 h0 hts hos hc => ?sent,
    fun r w hw => ?txTimeout, fun p f hp hf hr => ?transmit, fun q bs f fs hq hen hst hup hfit => ?deliver, rfl,
    fun p n x hx hen hst hisb => ?canDone, fun p f hen hst hno hisb => ?canNone, fun p f hen hst hyes hisb hreads => ?canRx,
    fun p hen hst => ?busOff, fun p hst => ?recovery, fun p hen hisb haddr => ⟨fun a hnext => ?alternate, fun hnext => ?lost⟩,
    fun m x xs hq => ⟨fun bs => ?smbOk, ?smbNack⟩, fun p hp hedge hwake => ?gpio, fun n f dt hwake => ?capture,
    fun codes hen hre hn hreads => ?adc⟩
  case unmask =>
    refine ⟨_, rfl, ?_⟩
    simp [Dev.msixMask, hv]
  case linkUp =>
    have hbad : ¬(g.val = 0 ∨ w.val = 0 ∨ w.val = 3) := by omega
    refine ⟨_, rfl, ?_⟩
    simp only [if_neg hbad, State.after_dev]
    exact ⟨rfl, rfl, rfl, rfl⟩
  case itr =>
    show execItrExpiry r s = _
    exact act_after (if_pos hr)
  case enable =>
    subst hx
    show execNqEnable r v s = _
    refine act_after ?_
    rw [Dev.nqCtrl, if_neg (by omega)]
    simp only [hen, hst, herr]
    rw [if_neg (by simp), if_neg (by simp), if_neg (by omega)]
    exact if_neg (by simpa [Dev.nqMod] using hpcie)
  case disable =>
    show execNqDisable r v s = _
    refine act_after ?_
    rw [Dev.nqCtrl, if_neg (by omega)]
    exact if_pos (by simp [hen])
  case noDest =>
    show execTxWriteback r [l] false f s = _
    refine act_after ?_
    simp only [hc]
    rw [if_neg (by simp [hen, hst, hw]; omega), if_neg (by simp), if_neg (by simp; omega)]
  case sent =>
    show execTxWriteback r ls false f s = _
    refine act_after ?_
    simp only [hts, hos, Bool.or_self, Bool.false_eq_true, if_false, hc]
    rw [if_neg (by simp [hen, hst, hw, hne]; omega), if_neg (by simp; omega), if_neg (by omega)]
  case txTimeout =>
    show execTxTsTimeout r s = _
    exact act_after (by simp only [hw])
  case transmit =>
    show execEthFrameTransmit p s = _
    refine act_after ?_
    rw [if_neg hp]
    simp only [hf, hr]
  case deliver =>
    refine ⟨_, rfl, ?_⟩
    show execRxFrameDeliver q bs s = _
    refine act_after ?_
    simp only [hq]
    rw [if_neg (by simpa [hen, hst, hup] using hfit)]
  case canDone =>
    show execCanTxComplete p n s = _
    refine act_after ?_
    simp only [hx, hisb]
    rw [if_neg (by simp [hen, hst])]
    rfl
  case canNone =>
    show execCanFrameReceive p f s = _
    refine act_after ?_
    simp only [hno, hisb]
    rw [if_neg (by simp [hen, hst])]
    rfl
  case canRx =>
    show execCanFrameReceive p f s = _
    refine act_after ?_
    simp only [hyes, hisb, if_true]
    rw [if_neg (by simp [hen, hst])]
    exact Dev.serveQueue_none (by simpa [Dev.canMod] using hreads)
  case busOff =>
    show execCanBusOff p s = _
    exact act_after (if_pos ⟨hen, hst⟩)
  case recovery =>
    show execCanBusOffRecovery p s = _
    exact act_after (if_pos hst)
  case alternate =>
    show execIsbClaimLost p s = _
    refine act_after ?_
    simp only [hnext]
    exact if_neg (by simp [hen, hisb, haddr])
  case lost =>
    show execIsbClaimLost p s = _
    refine act_after ?_
    simp only [hnext]
    exact if_neg (by simp [hen, hisb, haddr])
  case smbOk =>
    show execSmbXferDone m (.ok bs) s = _
    exact act_after (by simp only [hq])
  case smbNack =>
    show execSmbXferDone m .nack s = _
    exact act_after (by simp only [hq])
  case gpio =>
    show execGpioEdge p true s = _
    refine act_after ((if_neg fun h => hp h.1).trans ((if_pos (Or.inl hedge)).trans (if_neg ?_)))
    simpa only [Dev.irq_keeps, Bool.not_eq_true] using hwake
  case capture =>
    show execCapEdge n f dt s = _
    refine act_after (if_neg ?_)
    have hoff : (((s.dev.advance dt).capture n f).blw.wakeCap.getLsbD n) = false := by
      rw [Dev.capture_wakeCap]
      exact hwake
    simp only [hoff, Bool.false_and, Bool.false_eq_true, not_false_eq_true]
  case adc =>
    have hrun : (!s.dev.tbs.en || s.dev.tbs.resync || s.dev.ifc.adcN == 0) = false := by simp [hen, hre, hn]
    refine ⟨_, rfl, ?_⟩
    simp only [hrun, Bool.false_eq_true, if_false]
    rw [Dev.serveQueue_none (by simp [Dev.adcAlarms_keeps, hreads])]
    simp only [State.after_dev, Dev.adcAlarms_keeps, Dev.irqIf_keeps, and_true]
    rfl

end Sys2Proof.Machine

/-! PROOFS. Mailboxes, command rings, management frames and the loss of the host: their events (chapters 12, 13 and 14). -/
namespace Sys2Proof.Machine

/-! ### Ends and endpoints (13 R383, R384) -/

theorem Dev.endpoint_of_endOf {d : Dev} {m : Master} {ch : Nat} {b : Bool} (h : d.endOf ch m = some b) : d.endpoint ch b = m := by
  unfold Dev.endOf at h
  split_ifs at h with ha hb
  · exact (Option.some.inj h) ▸ ha
  · exact (Option.some.inj h) ▸ hb

/-- The binding table depends on the two rows in force alone. -/
theorem Dev.endpoint_congr {d x : Dev} (h11 : x.mbx.bind11 = d.mbx.bind11) (h12 : x.mbx.bind12 = d.mbx.bind12) (ch : Nat) (b : Bool) :
    x.endpoint ch b = d.endpoint ch b := by
  simp only [Dev.endpoint, h11, h12]

/-- A doorbell changes one end's DB_IN in the mailbox block. -/
theorem Dev.dbSet_mbx (d : Dev) (ch : Nat) (b : Bool) (v : Word) :
    (d.dbSet ch b v).mbx = (d.mboxMod ch b fun e => { e with dbIn := e.dbIn ||| v }).mbx := by
  simp only [Dev.dbSet, Dev.vector]
  split_ifs <;> rfl

theorem Dev.turnAway_mbx (d : Dev) (m : Master) : (d.turnAway m).mbx = d.mbx := by
  unfold Dev.turnAway
  split <;> rfl

/-! ### A posted message stays posted through what follows its post (R388, R391, R392) -/

/-- An end whose message is posted and not taken, with its timeout. -/
def MEnd.waitsUntil (e : MEnd) (t : Nat) : Prop := e.full = true ∧ e.taken = false ∧ e.dueAt = some t

/-- A change of an end's other fields keeps every posted message. -/
theorem Dev.waitsUntil_mboxMod {d : Dev} {ch : Nat} {b : Bool} {t : Nat} (ch' : Nat) (b' : Bool) {g : MEnd → MEnd}
    (hg : ∀ e : MEnd, e.waitsUntil t → (g e).waitsUntil t) (h : (d.mboxEnd ch b).waitsUntil t) :
    ((d.mboxMod ch' b' g).mboxEnd ch b).waitsUntil t := by
  show (tget {} (tset {} d.mbx.ends (endKey ch' b') (g (d.mboxEnd ch' b'))) (endKey ch b)).waitsUntil t
  by_cases hk : endKey ch b = endKey ch' b'
  · have hsame : d.mboxEnd ch b = d.mboxEnd ch' b' := congrArg d.mend hk
    have hw := hg _ (hsame ▸ h)
    rw [hk, tget_tset_of_ne]
    · exact hw
    · intro he
      rw [he] at hw
      exact absurd hw.1 (by decide)
  · rw [tget_tset_ne hk]
    exact h

theorem Dev.waitsUntil_dbSet {d : Dev} {ch : Nat} {b : Bool} {t : Nat} (ch' : Nat) (b' : Bool) (v : Word)
    (h : (d.mboxEnd ch b).waitsUntil t) : ((d.dbSet ch' b' v).mboxEnd ch b).waitsUntil t := by
  have hmbx : (d.dbSet ch' b' v).mboxEnd ch b = (d.mboxMod ch' b' fun e => { e with dbIn := e.dbIn ||| v }).mboxEnd ch b := by
    simp only [Dev.mboxEnd, Dev.mend, Dev.dbSet_mbx]
  rw [hmbx]
  exact Dev.waitsUntil_mboxMod ch' b' (fun e he => he) h

theorem Dev.waitsUntil_crossCheck {d : Dev} {ch : Nat} {b : Bool} {t : Nat} (old : Dev) (ch' : Nat)
    (h : (d.mboxEnd ch b).waitsUntil t) : ((d.crossCheck old ch').mboxEnd ch b).waitsUntil t := by
  unfold Dev.crossCheck
  split
  · exact Dev.waitsUntil_dbSet _ _ _ (Dev.waitsUntil_dbSet _ _ _
      (Dev.waitsUntil_mboxMod _ _ (fun e he => he) (Dev.waitsUntil_mboxMod _ _ (fun e he => he) h)))
  · exact h

/-- R388: what a post leaves at its end. -/
theorem Dev.mbxPost_waits (d : Dev) (ch : Nat) (b : Bool) (msg : List Word) :
    ((d.mbxPost ch b msg).mboxEnd ch b).waitsUntil (d.tbs.mono + (d.mboxEnd ch b).tmo * msU) := by
  refine Dev.waitsUntil_crossCheck _ _ (Dev.waitsUntil_dbSet _ _ _ ?_)
  show (tget {} (tset {} d.mbx.ends (endKey ch b) _) (endKey ch b)).waitsUntil _
  rw [tget_tset_of_ne]
  · exact ⟨rfl, rfl, rfl⟩
  · intro he
    exact Bool.noConfusion (show true = false from congrArg MEnd.full he)

/-! ### Mailboxes -/

/-- Settles O48: each event's meaning for a bound master, and none for another. -/
theorem mailboxEvents : Obligations.MailboxEvents := by
  refine ⟨?bound, ?unbound⟩
  case bound =>
    rintro s _ m ch b rfl hend
    have hm := Dev.endpoint_of_endOf hend
    refine ⟨fun h hfull => ⟨?post, ?posted⟩, fun h hfull => ?reject, fun on => ?waiting, fun data w hp => ?takeNone,
      fun data w hp hplain => ?takePlain, fun data w a hb hcmd hp hh ha hpool => ?takeCmd, fun v hh hv => ?ack, fun v hh => ?ackNone,
      fun hd => ?free, fun v => ?ring, fun t ht hp hsup hsec => ?withdrawn, fun t ht hp => ?late⟩
    case post =>
      show execMbxPost m ch h s = _
      refine act_after ?_
      simp only [hend]
      exact if_neg (by simp [hfull])
    case posted =>
      rintro u rfl
      exact s.dev.mbxPost_waits ch b _
    case reject =>
      show execMbxPost m ch h s = _
      refine act_after ?_
      simp only [hend]
      exact if_pos hfull
    case waiting =>
      show execMbxWaiting m ch on s = _
      refine act_after ?_
      simp only [hend]
      rfl
    case takeNone =>
      show execMbxTake m ch data w s = _
      refine act_after ?_
      simp only [Dev.mbxTake, hend]
      exact if_pos (by simp [hp])
    case takePlain =>
      show execMbxTake m ch data w s = _
      refine act_after ?_
      simp only [Dev.mbxTake, hend]
      refine (if_neg (by simp [hp])).trans (if_neg ?_)
      rcases hplain with h | h <;> simp [h]
    case takeCmd =>
      subst hb
      subst ha
      show execMbxTake m ch data w s = _
      refine act_after ?_
      simp only [Dev.mbxTake, hend]
      refine (if_neg (by simp [hp])).trans ((if_pos (by simp [hcmd])).trans (if_neg ?_))
      simpa [hh] using Option.isSome_iff_ne_none.mp hpool
    case ack =>
      show execMbxAck m ch v s = _
      refine act_after ?_
      simp only [hend]
      exact (if_pos hh).trans (if_pos hv)
    case ackNone =>
      show execMbxAck m ch v s = _
      refine act_after ?_
      simp only [hend]
      exact if_neg (by simp [hh])
    case free =>
      show execMbxFree m ch s = _
      refine act_after ?_
      simp only [hend]
      exact if_pos hd
    case ring =>
      show execMbxRing m ch v s = _
      refine act_after ?_
      simp only [hend]
    case withdrawn =>
      show execMbxAckTimeout ch b s = _
      refine act_after ?_
      simp only [ht, hp, if_true]
      refine if_neg fun h => ?_
      have hsame : (((s.dev.advanceMono t).mboxMod ch b fun e => { e with full := false, timeout := true, dueAt := none }).dbSet ch b
          4).endpoint ch b = s.dev.endpoint ch b := Dev.endpoint_congr (by rw [Dev.dbSet_mbx]; rfl) (by rw [Dev.dbSet_mbx]; rfl) _ _
      rcases h.1 with h | h
      · exact hsup (hm.symm.trans (hsame.symm.trans h))
      · exact hsec (hm.symm.trans (hsame.symm.trans h))
    case late =>
      show execMbxAckTimeout ch b s = _
      refine act_after ?_
      simp only [ht, hp, Bool.false_eq_true, if_false]
  case unbound =>
    rintro s _ m ch rfl hend
    exact ⟨fun h => show execMbxPost m ch h s = _ from act_after (by simp only [hend]),
      fun on => show execMbxWaiting m ch on s = _ from act_after (by simp only [hend]),
      fun l w => show execMbxTake m ch l w s = _ from act_after (by simp only [Dev.mbxTake, hend]),
      fun v => show execMbxAck m ch v s = _ from act_after (by simp only [hend]),
      show execMbxFree m ch s = _ from act_after (by simp only [hend]),
      fun v => show execMbxRing m ch v s = _ from act_after (by simp only [hend]), s.dev.turnAway_mbx m⟩

/-! ### The host's paths -/

/-- Settles O49: each event's meaning, branch by branch. -/
theorem hostPathEvents : Obligations.HostPathEvents := by
  rintro s _ rfl
  refine ⟨fun bs crc hcrc => ?uart, fun r hr => ?coal, fun r tag f t hf ht hd => ?timeout, fun r v => rfl, fun r v => rfl,
    fun r v x hen hc h10 hmax hx hoff herr hs4 hs12 hc4 hc12 => ?enable, fun r v hbad => ?enableBad,
    fun r v hen hc h10 hmax => ?disable, fun k hen => ?dma, fun n r e k he hk => ⟨fun hd => ?plain, fun x hd hr => ?answered,
      fun x hd hr => ?restarted⟩, fun x hx => ?async, rfl, ?link, fun r ws data w a ha hen hrd hp hh hroom hf ht hpool => ?fetch,
    fun r ws data w tag ht hen hrd hp hh hroom hf hbusy => ?tagBusy, fun f h1 hv hver hlen hh hrep h64 htag => ?mgmt,
    fun f h1 hv hh => ?mgmtDrop, fun f r h1 hv hver hlen hh hrep => ?mgmtAgain, fun p hp => ?expiry⟩
  case uart =>
    show execUartFrame bs crc s = _
    exact act_after (if_pos (Or.inl hcrc))
  case coal =>
    show execCoalExpiry r s = _
    exact act_after (if_pos hr)
  case timeout =>
    refine ⟨_, rfl, ?_⟩
    show execCmdTimeout r tag s = _
    refine act_after ?_
    simp only [hf, ht, hd, Bool.false_eq_true, if_false]
  case enable =>
    subst hx
    show execCrEnable r v s = _
    refine act_after ?_
    rw [Dev.crCtrl, if_neg (by omega)]
    exact (if_neg (by simp [hen])).trans ((if_neg (by simp [hoff, herr])).trans (if_neg (by omega)))
  case enableBad =>
    show execCrEnable r v s = _
    exact act_after (if_pos hbad)
  case disable =>
    show execCrDisable r v s = _
    refine act_after ?_
    rw [Dev.crCtrl, if_neg (by omega)]
    exact if_pos (by simp [hen])
  case dma =>
    show execDmaError (.cr k) s = _
    exact act_after (if_pos hen)
  case plain =>
    show execEventComplete n r s = _
    exact act_after (by simp only [he, hk, hd])
  case answered =>
    subst hr
    show execEventComplete n false s = _
    refine act_after ?_
    simp only [he, hk, hd]
    rfl
  case restarted =>
    subst hr
    show execEventComplete n true s = _
    refine act_after ?_
    simp only [he, hk, hd]
    rfl
  case async =>
    show execAsyncDone s = _
    exact act_after (by simp only [hx])
  case link =>
    rintro u rfl
    exact ⟨rfl, rfl⟩
  case fetch =>
    subst ha
    show execCrFetch r ws data w s = _
    refine act_after ((if_neg ?_).trans ((if_neg ?_).trans ((if_neg ?_).trans ((if_neg ?_).trans (if_neg ?_)))))
    · simp [hen, hrd, hp, hh]
    · simp [hroom]
    · simp only [hf, Bool.false_and, Bool.false_eq_true, not_false_eq_true]
    · simp only [ht, Option.isSome_none, Bool.false_eq_true, not_false_eq_true]
    · simpa using Option.isSome_iff_ne_none.mp hpool
  case tagBusy =>
    subst ht
    show execCrFetch r ws data w s = _
    refine act_after ((if_neg ?_).trans ((if_neg ?_).trans ((if_neg ?_).trans (if_pos hbusy))))
    · simp [hen, hrd, hp, hh]
    · simp [hroom]
    · simp only [hf, Bool.false_and, Bool.false_eq_true, not_false_eq_true]
  case mgmt =>
    show execMgmtFrame f s = _
    refine act_after ?_
    have hpath : (if f.hpf1 = true then Path.mgmt else .site) = .mgmt := if_pos h1
    simp only [hpath, hrep]
    refine (if_neg (by simp [hh])).trans ((if_neg ?_).trans (if_neg (by omega)))
    simp [hv, h1, hver, hlen]
  case mgmtDrop =>
    show execMgmtFrame f s = _
    refine act_after ?_
    simp only [h1, Bool.false_eq_true, if_false]
    exact (if_neg (by simp [hh])).trans (if_pos (by simp [hv]))
  case mgmtAgain =>
    show execMgmtFrame f s = _
    refine act_after ?_
    have hpath : (if f.hpf1 = true then Path.mgmt else .site) = .mgmt := if_pos h1
    simp only [hpath, hrep]
    refine (if_neg (by simp [hh])).trans (if_neg ?_)
    simp [hv, h1, hver, hlen]
  case expiry =>
    show execTxnExpiry p s = _
    exact act_after (if_pos hp)

end Sys2Proof.Machine

/-! PROOFS. The key vault, the life cycle, debug unlock and tamper: their commands and events (chapter 15). -/
namespace Sys2Proof.Machine

/-- A command that its own checks refuse with response words of their own, or with an effect beside the count of the refusal. -/
theorem exec_denied {i : Instr} {op : Op} {c : Cmd} {s : State} {r : Res} {e : Rc} (hi : i.cmd? = some (op, c))
    (hp : bufferOp op = true) (hr : rcAccepted e = false) (ha : s.dev.accepts op c = true)
    (h : runPlain op (s.dev.withArea op c) s.dev = r) (he : r.code = some e) (hw : r.words ≠ [] ∨ refusalWords op = []) :
    exec i s = .next (s.after ((r.st.countOrder c.path 8).answer e c.tag r.words s.dev.epoch)) := by
  obtain ⟨hplain, hcls⟩ := bufferOp_iff.mp hp
  obtain ⟨h1, -, hb⟩ := plainOp_iff.mp hplain
  refine exec_of_command hi hb ?_
  rw [Dev.command_answered ha hcls (Dev.runOp_denied h1 he hr h) he (hw.imp_right .inr), if_neg (by simp [hr]), Dev.replyEpoch_else]
  · rintro rfl; exact absurd hr (by decide)
  · rintro rfl; exact absurd hr (by decide)

/-! ### Key commands (R427 to R430, R435) -/

theorem userSlot_true {k : Nat} (h : 8 ≤ k) : userSlot k = true := decide_eq_true h
theorem userSlot_false {k : Nat} (h : k < 8) : userSlot k = false := decide_eq_false (by omega)

/-- Settles O50: each command's meaning, and the state that it leaves. -/
theorem keyCommandsRun : Obligations.KeyCommandsRun := by
  rintro c s _ k w rfl rfl rfl
  refine ⟨fun v ha hg h8 hat hfull hflaw hv => exec_done rfl rfl ha ?generate,
    fun ha hg hbad => exec_refused rfl rfl rfl rfl ha ?generateUsage,
    fun ha hg h8 hat hfull => exec_refused rfl rfl rfl rfl ha ?generateBusy,
    fun b v hb ha hg h8 hfull hplain hh ht hlen hat hv => exec_done_area rfl rfl ha ?importPlain,
    fun v nonce ha hg hv hfull hexp hw hu h8 hlen hn => exec_done_area rfl rfl ha ?exported,
    fun ha hg hfull hexp => exec_refused_area rfl rfl rfl ha ?noExport,
    fun v ha hg hfull h8 h8w hw hat hkind hu ht hv => exec_done rfl rfl ha ?derived,
    fun ha hg hfull => exec_refused rfl rfl rfl rfl ha ?deriveEmpty,
    fun ha hg hone h8 hfull => ⟨fun hn => exec_done rfl rfl ha ?zeroVol, fun x hx => exec_later rfl rfl ha ?zeroPers⟩,
    fun ha hf => exec_done rfl rfl ha ?info,
    fun p ha hg hfull hp hlen => exec_done_area rfl rfl ha ?pub,
    fun ha hg hfull hp => exec_refused_area rfl rfl rfl ha ?noPub⟩
  case generate =>
    subst hv
    show keyGenerateRun c s.dev = _
    simp only [keyGenerateRun, hg]
    rw [if_neg (by simp [userSlot_true h8, hat]), if_neg (by simp [hfull]), if_neg (by simp [hflaw])]
  case generateUsage =>
    show keyGenerateRun c s.dev = _
    simp only [keyGenerateRun, hg]
    refine if_pos ?_
    rcases hbad with h | h
    · simp [userSlot_false h]
    · simp [h]
  case generateBusy =>
    show keyGenerateRun c s.dev = _
    simp only [keyGenerateRun, hg]
    rw [if_neg (by simp [userSlot_true h8, hat]), if_pos hfull]
  case importPlain =>
    subst hv hb
    show keyImportRun (s.dev.withArea .keyImport c) s.dev = _
    simp only [keyImportRun, hg, argF_withArea, argB_withArea]
    rw [if_neg (by simp [userSlot_true h8, hfull]), if_pos hplain, if_neg (by simp [hh, ht, hlen, hat])]
  case exported =>
    subst hv hn
    show keyExportRun (s.dev.withArea .keyExport c) s.dev = _
    simp only [keyExportRun, hg, argF_withArea, arg_withArea, arg64_withArea, withArea_path_eq]
    rw [if_neg (by simp [hfull]), if_neg (by simp [hexp]), if_neg (by simp [hw]), if_neg (by simpa [userSlot_true h8] using hu),
      if_neg (by omega)]
    rfl
  case noExport =>
    show keyExportRun (s.dev.withArea .keyExport c) s.dev = _
    simp only [keyExportRun, hg, argF_withArea]
    rw [if_neg (by simp [hfull]), if_pos (by simp [hexp])]
  case derived =>
    subst hv
    show keyDeriveRun c s.dev = _
    have hkey : s.dev.derivedKey c = .ok (s.dev.derive (s.dev.kslot (argF c 0 0 6)).key "PQ-USER" (beBytes 4 (arg c 2).toNat)
        (keyLen (argF c 1 18 4)), false) := by
      simp only [Dev.derivedKey, hkind, if_true]
      exact if_neg (by simpa [ht] using hu)
    simp only [keyDeriveRun, hg, hkey, hkind]
    rw [if_neg (by simp [hfull]), if_neg (by simp [userSlot_true h8, userSlot_true h8w, hw, hat])]
    rfl
  case deriveEmpty =>
    show keyDeriveRun c s.dev = _
    simp only [keyDeriveRun, hg]
    exact if_pos (by simp [hfull])
  case zeroVol =>
    show keyZeroizeRun c s.dev = _
    simp only [keyZeroizeRun, hg, hone]
    rw [if_neg (by simp), if_neg (by simp [userSlot_true h8]), if_neg (by simp [hfull])]
    simp [Dev.storedIn, hn]
  case zeroPers =>
    show keyZeroizeRun c s.dev = _
    simp only [keyZeroizeRun, hg, hone]
    rw [if_neg (by simp), if_neg (by simp [userSlot_true h8]), if_neg (by simp [hfull])]
    simp [Dev.storedIn, hx]
  case info =>
    show keyInfoRun c s.dev = _
    have hgate : keyGate true s.dev = none := by simp [keyGate, hf]
    simp only [keyInfoRun, hgate]
  case pub =>
    show keyPublicRun (s.dev.withArea .keyPublic c) s.dev = _
    simp only [keyPublicRun, hg, hp, argF_withArea, arg_withArea, arg64_withArea, withArea_path_eq]
    rw [if_neg (by simp [hfull]), if_neg (by omega)]
  case noPub =>
    show keyPublicRun (s.dev.withArea .keyPublic c) s.dev = _
    simp only [keyPublicRun, hg, hp, argF_withArea]
    exact if_neg (by simp [hfull])

/-! ### The life cycle, debug and tamper (R422 to R424, R432 to R440) -/

/-- Settles O51: each command's meaning, and the state that it leaves. -/
theorem securityCommandsRun : Obligations.SecurityCommandsRun := by
  rintro c s _ rfl
  refine ⟨fun ha hadv htgt hgo hen hconf hst => ⟨_, rfl, exec_done rfl rfl ha ?advance⟩,
    fun ha hbad => exec_refused rfl rfl rfl rfl ha (if_pos ?illegal),
    fun ha => exec_done rfl rfl ha rfl,
    fun x ha hlc hgo hen hadv htok hsig hx => exec_done_area rfl rfl ha ?unlock,
    fun ha hbad => exec_refused_area rfl rfl rfl ha (if_pos ?locked),
    fun ha hf => exec_done rfl rfl ha (if_pos hf),
    fun f ha hf hne => ?testFails,
    fun en ha hen => ⟨fun hok => exec_done rfl rfl ha ?cfg, fun hlc hbad => exec_refused rfl rfl rfl rfl ha ?cfgIllegal⟩,
    fun ha => exec_done rfl rfl ha rfl⟩
  case advance =>
    have hnone : s.dev.storedIn (List.range 64) = [] := by simp [Dev.storedIn, hst, tget]
    show lcAdvanceRun c s.dev = _
    simp only [lcAdvanceRun, hnone]
    rw [if_neg (by simpa [hadv, hgo, hen] using htgt), if_neg (by simp [hconf])]
    rfl
  case illegal =>
    rcases hbad with h | h
    · rw [h]
      simp
    · simp [h]
  case unlock =>
    subst hx
    show dbgUnlockRun (s.dev.withArea .dbgUnlock c) s.dev = _
    simp only [dbgUnlockRun]
    rw [if_neg ?_, if_neg (by simp [hadv]), if_neg (by simp [htok, hsig]), if_neg ?_]
    · rcases hlc with h | h <;> simp [h]
    · rcases hlc with h | h <;> simp [h, hgo, hen]
  case locked =>
    rcases hbad with h | h <;> simp [h]
  case testFails =>
    subst hf
    exact exec_denied rfl rfl rfl ha ((congrArg (selftestRun · s.dev) (Dev.withArea_none _ _ _ rfl)).trans (if_neg hne)) rfl
      (.inl (List.cons_ne_nil _ _))
  case cfg =>
    subst hen
    refine if_neg ?_
    rcases hok with h | h <;> simp [h]
  case cfgIllegal =>
    subst hen
    exact if_pos (by simpa [hlc] using hbad)

/-- Settles O52: each event's meaning, branch by branch. -/
theorem securityEvents : Obligations.SecurityEvents := by
  rintro s _ rfl
  refine ⟨fun hz => ?passes, fun hz => ⟨?fails, by simpa using hz⟩, fun src hw hl hb ho hp hst => ?first, fun src hw hl => ?further,
    fun src hw hl hb => ?backup⟩
  case passes =>
    show execZeroizePersistentDone true s = _
    refine act_after ?_
    simp only [hz]
    rfl
  case fails =>
    show execZeroizePersistentDone false s = _
    refine act_after ?_
    simp only [hz]
    rfl
  case first =>
    show execTamperLatch src s = _
    refine act_after ((if_neg (by simp [hw])).trans ((if_neg (by simp [hl])).trans ((if_neg (by simp [hb, ho, hp])).trans
      ((if_neg hst).trans ?_))))
    have hbit : (0 : BitVec 12) ||| BitVec.ofNat 12 (2 ^ src.val) = BitVec.ofNat 12 (2 ^ src.val) := BitVec.zero_or
    rw [hl, hbit]
    rfl
  case further =>
    have hne : (s.dev.sec.latched == 0) = false := by simpa using hl
    show execTamperLatch src s = _
    refine act_after ?_
    simp only [hw, hne]
    rfl
  case backup =>
    refine ⟨_, rfl, ?_⟩
    simp only [hw, hl, hb]
    exact ⟨rfl, rfl⟩

end Sys2Proof.Machine

/-! PROOFS. The GEN block through interrupts, records and stops, and what a tamper latch leaves (chapters 12 and 15). -/
namespace Sys2Proof.Machine

/-! ### Interrupts, records and stops keep the phase, the tamper alert and the cause of the reset -/

/-- One state of the GEN block follows another by interrupts and register changes that raise causes alone. -/
def Gen.follows (h g : Gen) : Prop :=
  h.tamper = g.tamper ∧ h.phase = g.phase ∧ h.cause = g.cause ∧ ∀ n, g.irqStatus.getLsbD n = true → h.irqStatus.getLsbD n = true

theorem Gen.follows.refl (g : Gen) : g.follows g := ⟨rfl, rfl, rfl, fun _ h => h⟩

theorem Gen.follows.trans {a b c : Gen} (h : a.follows b) (h' : b.follows c) : a.follows c := by
  obtain ⟨t, p, k, i⟩ := h
  obtain ⟨t', p', k', i'⟩ := h'
  exact ⟨t.trans t', p.trans p', k.trans k', fun n hn => i n (i' n hn)⟩

/-- A fold of steps each of which the GEN block follows. -/
theorem foldl_follows {α : Type} {f : Dev → α → Dev} (hf : ∀ d a, (f d a).gen.follows d.gen) (l : List α) (d : Dev) :
    (l.foldl f d).gen.follows d.gen :=
  List.foldlRecOn (motive := fun x : Dev => x.gen.follows d.gen) l f (Gen.follows.refl _) fun x hx a _ => (hf x a).trans hx

theorem Dev.vector_follows (d : Dev) (v : Nat) : (d.vector v).gen.follows d.gen := by
  unfold Dev.vector
  split <;> exact ⟨rfl, rfl, rfl, fun _ h => h⟩

theorem Dev.irq_follows (d : Dev) (n : Nat) : (d.irq n).gen.follows d.gen := by
  unfold Dev.irq
  split
  · exact Gen.follows.refl _
  · have hset : Gen.follows { d.gen with irqStatus := d.gen.irqStatus ||| BitVec.ofNat 12 (2 ^ n) } d.gen :=
      ⟨rfl, rfl, rfl, fun k hk => by simp [hk]⟩
    dsimp only
    split
    · exact (Dev.vector_follows _ _).trans hset
    · exact hset

/-- A cause that arises stands in GEN_IRQ_STATUS. -/
theorem Dev.irq_sets (d : Dev) {n : Nat} (hn : n < 12) : (d.irq n).gen.irqStatus.getLsbD n = true := by
  unfold Dev.irq
  split
  · assumption
  · have hset : (d.gen.irqStatus ||| BitVec.ofNat 12 (2 ^ n)).getLsbD n = true := by
      rw [BitVec.getLsbD_or, BitVec.getLsbD_ofNat]
      simp [hn, Nat.testBit_two_pow_self]
    dsimp only
    split
    · exact (Dev.vector_follows _ _).2.2.2 n hset
    · exact hset

theorem Dev.irqIf_follows (d : Dev) (n : Nat) (b : Bool) : (d.irqIf n b).gen.follows d.gen := by
  cases b
  · exact Gen.follows.refl _
  · exact d.irq_follows n

@[simp] theorem Dev.flush_gen (d : Dev) : d.flush.gen = d.gen := by
  obtain ⟨e, h⟩ := d.flush_only
  rw [h]

theorem Dev.commitRec_follows (d : Dev) (r : Rec) : (d.commitRec r).gen.follows d.gen := by
  unfold Dev.commitRec
  dsimp only
  simp only [apply_ite Dev.gen, Dev.flush_gen, ite_self]
  exact Dev.irqIf_follows _ _ _

theorem Dev.recordRaw_follows (d : Dev) (code : Nat) (slot : Byte) (p : List Byte) : (d.recordRaw code slot p).gen.follows d.gen := by
  unfold Dev.recordRaw
  dsimp only
  split
  · exact Gen.follows.refl _
  · split
    · exact Gen.follows.refl _
    · exact Dev.commitRec_follows _ _

theorem Dev.log_follows (d : Dev) (code : Nat) (p : List Byte) : (d.log code p).gen.follows d.gen := d.recordRaw_follows code 0xFF p

theorem Dev.logStop_follows (d : Dev) (code cause : Nat) (fleet new : Bool) (slots : BitVec 192) :
    (d.logStop code cause fleet new slots).gen.follows d.gen := by
  unfold Dev.logStop
  split
  · exact d.log_follows _ _
  · refine foldl_follows (fun x p => ?_) _ _
    split
    · exact Gen.follows.refl _
    · exact x.log_follows _ _

theorem Dev.revealStop_gen (d : Dev) : d.revealStop.1.gen = d.gen := by
  unfold Dev.revealStop Dev.stopGenSwitch
  dsimp only
  split <;> split <;> rfl

@[simp] theorem Dev.driveStopOut_gen (d : Dev) : d.driveStopOut.gen = d.gen := by
  unfold Dev.driveStopOut
  split <;> rfl

theorem Dev.fleetStop_follows (d : Dev) (cause : Nat) : (d.fleetStop cause).gen.follows d.gen := by
  unfold Dev.fleetStop Dev.stopDemand
  split
  · exact Gen.follows.refl _
  · refine ((Dev.irqIf_follows _ _ _).trans (Dev.logStop_follows _ _ _ _ _ _)).trans ?_
    rw [Dev.driveStopOut_gen]
    dsimp only
    split
    · rw [Dev.revealStop_gen]
      exact Gen.follows.refl _
    · exact Gen.follows.refl _

/-! ### A tamper latch (R436 to R438) -/

/-- A link that goes down changes the switch alone. -/
theorem Dev.portDown_only (d : Dev) (p : Nat) : ∃ w : Sw, d.portDown p = { d with sw := w } := by
  have hdrop : ∀ x : Dev, ∃ w : Sw, x.dropQueues p = { x with sw := w } := fun x =>
    List.foldlRecOn (motive := fun y : Dev => ∃ w : Sw, y = { x with sw := w }) _ _ ⟨_, rfl⟩ fun y hy f _ => by
      obtain ⟨w, rfl⟩ := hy
      exact ⟨_, rfl⟩
  unfold Dev.portDown
  obtain ⟨w, hw⟩ := hdrop (d.eportMod p fun e => { e.laneSet false with link := false, fellBack := false, stopped := 0 })
  dsimp only
  rw [hw]
  split <;> exact ⟨_, rfl⟩

@[simp] theorem Dev.portDown_keeps (d : Dev) (p : Nat) : (d.portDown p).gen = d.gen ∧ (d.portDown p).sec = d.sec := by
  obtain ⟨w, h⟩ := d.portDown_only p
  rw [h]
  exact ⟨rfl, rfl⟩

/-- The end of the response (R438): the alert's interrupt, the stop, the record, the links and the domains. -/
def Dev.tamperAlert (d : Dev) (payload : List Byte) : Dev :=
  (List.range 12).foldl (fun s k => s.setDom k (holdState k))
    ((List.range 8).foldl Dev.portDown (((d.irq 0).fleetStop 10).log 0xCF01 payload))

theorem Dev.tamperAlert_keeps (d : Dev) (payload : List Byte) : (d.tamperAlert payload).sec = d.sec
    ∧ (d.tamperAlert payload).gen.follows (d.irq 0).gen := by
  have hstop : (((d.irq 0).fleetStop 10).log 0xCF01 payload).sec = d.sec
      ∧ (((d.irq 0).fleetStop 10).log 0xCF01 payload).gen.follows (d.irq 0).gen := by
    refine ⟨?_, (Dev.log_follows _ _ _).trans (Dev.fleetStop_follows _ _)⟩
    obtain ⟨g, hg⟩ := d.irq_only 0
    simp [hg]
  have hports := List.foldlRecOn (motive := fun x : Dev => x.sec = d.sec ∧ x.gen.follows (d.irq 0).gen) (List.range 8) Dev.portDown
    hstop fun x hx p _ => by simpa using hx
  exact List.foldlRecOn (motive := fun x : Dev => x.sec = d.sec ∧ x.gen.follows (d.irq 0).gen) _ _ hports fun x hx k _ => hx

/-- The response: the vault is emptied and the hold entered before the alert (R437, R438). -/
theorem Dev.tamperResponse_alert (d : Dev) : ∃ (x : Dev) (payload : List Byte), d.tamperResponse = x.tamperAlert payload
    ∧ x.sec.slots = [] ∧ x.sec.cache = [] ∧ x.gen.tamper = true ∧ x.gen.phase = .tamperHold := by
  refine ⟨_, _, rfl, ?_, rfl, rfl, rfl⟩
  dsimp only
  split <;> simp [Dev.zeroPersistent, Dev.zeroVolatile]

/-! ### A halt of the boot (17 R461, R462) -/

/-- A halt sets the phase and the domains alone. -/
theorem Dev.halt_only (d : Dev) (p : Phase) : ∃ g : Gen, d.halt p = { d with gen := g } ∧ g.phase = p ∧ g.tamper = d.gen.tamper
    ∧ g.cause = d.gen.cause :=
  List.foldlRecOn (motive := fun x : Dev => ∃ g : Gen, x = { d with gen := g } ∧ g.phase = p ∧ g.tamper = d.gen.tamper
    ∧ g.cause = d.gen.cause) _ _ ⟨_, rfl, rfl, rfl, rfl⟩ fun x hx k _ => by
      obtain ⟨g, rfl, hp, ht, hc⟩ := hx
      exact ⟨_, rfl, hp, ht, hc⟩

/-- A sentinel record changes the recorder and the interrupts alone. -/
theorem Dev.sentinel_only (d : Dev) (code : Nat) (payload : List Byte) : ∃ (e : Recorder) (g : Gen),
    d.sentinel code payload = { d with evr := e, gen := g } ∧ g.follows d.gen := by
  unfold Dev.sentinel
  dsimp only
  generalize hx : ({ d with evr := _ } : Dev) = x
  obtain ⟨g, hg⟩ := x.irqIf_only 6 (decide (2 ≤ code / 2 ^ 14))
  have hf := x.irqIf_follows 6 (decide (2 ≤ code / 2 ^ 14))
  rw [hg] at hf ⊢
  subst hx
  exact ⟨_, _, rfl, hf⟩

/-- A halt that leaves a sentinel record. -/
theorem Dev.haltSentinel_keeps (d : Dev) (p : Phase) (code : Nat) (payload : List Byte) :
    ((d.halt p).sentinel code payload).sec = d.sec ∧ ((d.halt p).sentinel code payload).bgl = d.bgl
    ∧ ((d.halt p).sentinel code payload).gen.phase = p ∧ ((d.halt p).sentinel code payload).gen.tamper = d.gen.tamper := by
  obtain ⟨g, hhalt, hp, ht, -⟩ := d.halt_only p
  rw [hhalt]
  obtain ⟨e, g', hsent, ht', hp', -⟩ := Dev.sentinel_only { d with gen := g } code payload
  rw [hsent]
  exact ⟨rfl, rfl, hp'.trans hp, ht'.trans ht⟩

/-- TAMPER_HOLD at start-up is a halt, with the vault emptied and the alert up. -/
theorem Dev.startHold_halt (d : Dev) : ∃ (x : Dev) (payload : List Byte), d.startHold = (x.halt .tamperHold).sentinel 0xCF01 payload
    ∧ x.sec.slots = [] ∧ x.sec.cache = [] ∧ x.gen.tamper = true ∧ x.bgl = d.bgl := ⟨_, _, rfl, rfl, rfl, rfl, rfl⟩

/-- A reset leaves Bugle down: no core is released yet. -/
theorem Dev.atReset_down (d : Dev) (cause : Nat) (b : BootIn) : (d.atReset cause b).bgl.up = false := by
  simp only [Dev.atReset]
  split <;> rfl

theorem Dev.boot_tampered {d : Dev} {cause : Nat} {b : BootIn} (h : (d.atReset cause b).tampered ≠ 0) :
    d.boot cause b = (d.atReset cause b).startHold := by
  have hbad : ((d.atReset cause b).tampered != 0) = true := by simpa using h
  simp only [Dev.boot, hbad, Bool.true_or, if_true]

/-- Settles O53: each step of the response keeps what those before it did; a boot with a source set ends in the hold. -/
theorem tamperZeroizes : Obligations.TamperZeroizes := by
  refine ⟨fun d => ?response, fun d cause b hbad => ?boot⟩
  case response =>
    obtain ⟨x, payload, h, hslots, hcache, htamper, hphase⟩ := d.tamperResponse_alert
    obtain ⟨hsec, ht, hp, -, hi⟩ := x.tamperAlert_keeps payload
    obtain ⟨ht0, hp0, -, -⟩ := x.irq_follows 0
    rw [h, hsec, ht, ht0, hp, hp0]
    exact ⟨hslots, hcache, htamper, hphase, hi 0 (x.irq_sets (by omega))⟩
  case boot =>
    rw [Dev.boot_tampered hbad]
    obtain ⟨x, payload, h, hslots, hcache, htamper, hbgl⟩ := (d.atReset cause b).startHold_halt
    obtain ⟨hsec, hb, hp, ht⟩ := x.haltSentinel_keeps .tamperHold 0xCF01 payload
    rw [h, hsec, hb, hp, ht, hbgl]
    exact ⟨rfl, htamper, hslots, hcache, d.atReset_down cause b⟩

end Sys2Proof.Machine

/-! PROOFS. The event recorder: its commands, its events, and its bounds (chapter 16). -/
namespace Sys2Proof.Machine

/-! ### Configuration (R446, R457) -/

/-- R446: the values that a scope below ALL takes. -/
theorem recCfgRun_done {c : Cmd} {d : Dev}
    (h : argF c 0 16 2 = 2 ∨ argF c 0 0 16 / 2 ^ 14 = 3 ∨ (argF c 1 0 8 ≠ 0 ∧ argF c 1 16 16 ≠ 0)) :
    ∃ x : Dev, recCfgRun c d = done x [] := by
  simp only [recCfgRun]
  by_cases hall : argF c 0 16 2 = 2
  · exact ⟨_, if_pos hall⟩
  by_cases hsafe : argF c 0 0 16 / 2 ^ 14 = 3
  · exact ⟨_, (if_neg hall).trans (if_pos hsafe)⟩
  have hv : ¬(argF c 1 0 8 = 0 ∨ argF c 1 16 16 = 0) := by omega
  by_cases hcode : argF c 0 16 2 = 0
  · exact ⟨_, (if_neg hall).trans ((if_neg hsafe).trans ((if_neg hv).trans (if_pos hcode)))⟩
  · exact ⟨_, (if_neg hall).trans ((if_neg hsafe).trans ((if_neg hv).trans (if_neg hcode)))⟩

/-- R457: a histogram that exists or a tracker, cleared or configured in range. -/
theorem recHistCfgRun_done {c : Cmd} {d : Dev} (hk : argB c 0 0 = true ∨ argF c 0 1 7 < 64)
    (h : argB c 0 30 = true ∨ (argF c 0 16 8 ≤ paramMax (argF c 0 8 8) ∧ (argB c 0 0 = true ∨ argF c 0 24 6 ≠ 0))) :
    ∃ x : Dev, recHistCfgRun c d = done x [] := by
  simp only [recHistCfgRun]
  rw [if_neg (by rcases hk with hk | hk <;> simp [hk])]
  by_cases hclr : argB c 0 30 = true
  · exact ⟨_, if_pos hclr⟩
  obtain ⟨hpar, hbins⟩ := h.resolve_left hclr
  rw [if_neg hclr, if_neg (by rcases hbins with hb | hb <;> simp [hb, hpar])]
  split <;> exact ⟨_, rfl⟩

/-! ### Reading histograms (R457) -/

/-- Whole items never exceed the room that holds them. -/
theorem takeWhole_length (n : Nat) (l : List (List Byte)) : (takeWhole n l).length ≤ n := by
  induction l generalizing n with
  | nil => exact Nat.zero_le n
  | cons b bs ih =>
    rw [takeWhole]
    split
    · next hb =>
      have := ih (n - b.length)
      rw [List.length_append]
      omega
    · exact Nat.zero_le n

/-- A read of histograms: whole entries. -/
theorem recHistReadRun_hists {c : Cmd} {d : Dev} (hext : argB c 0 0 = false) (hk : argF c 0 1 7 < 64) :
    ∃ bs : List Byte, bs.length ≤ (arg c 3).toNat ∧ recHistReadRun c d
      = done (Dev.toBuffer { d with free := d.free + 64 } c.path (arg64 c 1) bs) [word bs.length] := by
  refine ⟨takeWhole (arg c 3).toNat
    ((((List.range 64).drop (argF c 0 1 7)).take (if argF c 0 8 8 = 0 then 64 else argF c 0 8 8)).map d.histBytes),
    takeWhole_length _ _, ?_⟩
  simp only [recHistReadRun, hext, Bool.false_eq_true, if_false]
  rw [if_neg (by omega)]

/-! ### Commands -/

/-- Settles O54: each command's meaning, and the state that it leaves. -/
theorem recorderCommandsRun : Obligations.RecorderCommandsRun := by
  rintro c s _ e rfl rfl
  refine ⟨fun ha => ⟨fun h => ?cfgWaits, fun hall => ?cfgAll, fun hcode hsafe hd hi => ?cfgCode, fun hsev hsafe hd hi => ?cfgSev,
      fun hall hsafe hv => exec_refused rfl rfl rfl rfl ha ?cfgBad⟩,
    fun k ha hk hok => ⟨fun h => ?histWaits, fun hclr hh => ?histClear, fun hclr hh => ?extClear, fun hclr hh hb hp => ?histNew,
      fun hclr hh hp => ?extNew⟩,
    fun bs ha hext hbs => ⟨exec_done_area rfl rfl ha ?extRead, hbs ▸ takeWhole_length _ _⟩,
    fun ha hh hk => ?histRead,
    fun ha => ⟨fun hf => exec_done rfl rfl ha ?flush, fun hf => exec_refused rfl rfl rfl rfl ha (if_pos hf)⟩,
    fun ha hn hc => exec_done rfl rfl ha ?clear,
    fun ha hbusy => exec_refused rfl rfl rfl rfl ha (if_pos (by simpa using hbusy)),
    fun x ha hx hch ht => exec_done rfl rfl ha ?confirm,
    fun x ha hx hbad => ?abandoned⟩
  case cfgWaits =>
    obtain ⟨x, hx⟩ := recCfgRun_done (d := s.dev) h
    exact (exec_waits (i := .recCfg c) rfl rfl ha hx).1
  case cfgAll => exact Dev.runOp_plain (by decide) (by decide) (if_pos hall)
  case cfgCode =>
    refine Dev.runOp_plain (by decide) (by decide) ?_
    exact (if_neg (by omega)).trans ((if_neg hsafe).trans ((if_neg (by omega)).trans (if_pos hcode)))
  case cfgSev =>
    refine Dev.runOp_plain (by decide) (by decide) ?_
    exact (if_neg (by omega)).trans ((if_neg hsafe).trans ((if_neg (by omega)).trans (if_neg (by omega))))
  case cfgBad => exact (if_neg hall).trans ((if_neg hsafe).trans (if_pos hv))
  case histWaits =>
    subst hk
    obtain ⟨x, hx⟩ := recHistCfgRun_done (d := s.dev) hok h
    exact (exec_waits (i := .recHistCfg c) rfl rfl ha hx).1
  case histClear =>
    subst hk
    refine Dev.runOp_plain (by decide) (by decide) ?_
    show recHistCfgRun c s.dev = _
    simp only [recHistCfgRun]
    rw [if_neg (by rcases hok with h | h <;> simp [h]), if_pos hclr, if_neg (by simp [hh])]
  case extClear =>
    subst hk
    refine Dev.runOp_plain (by decide) (by decide) ?_
    show recHistCfgRun c s.dev = _
    simp only [recHistCfgRun]
    rw [if_neg (by simp [hh]), if_pos hclr, if_pos hh]
  case histNew =>
    subst hk
    refine Dev.runOp_plain (by decide) (by decide) ?_
    show recHistCfgRun c s.dev = _
    simp only [recHistCfgRun]
    rw [if_neg (by rcases hok with h | h <;> simp [h]), if_neg (by simp [hclr]), if_neg (by simp [hb, hp]), if_neg (by simp [hh])]
  case extNew =>
    subst hk
    refine Dev.runOp_plain (by decide) (by decide) ?_
    show recHistCfgRun c s.dev = _
    simp only [recHistCfgRun]
    rw [if_neg (by simp [hh]), if_neg (by simp [hclr]), if_neg (by simp [hh, hp]), if_pos hh]
  case extRead =>
    subst hbs
    have hk : argF c 0 1 7 < 128 := Nat.mod_lt _ (by decide)
    show recHistReadRun (s.dev.withArea .recHistRead c) s.dev = _
    simp only [recHistReadRun, argB_withArea, argF_withArea, arg_withArea, arg64_withArea, withArea_path_eq, hext, if_true]
    rw [if_neg (by omega)]
  case histRead =>
    obtain ⟨bs, hlen, hrun⟩ := recHistReadRun_hists (c := s.dev.withArea .recHistRead c) (d := s.dev) (by simpa using hh)
      (by simpa using hk)
    simp only [arg_withArea, arg64_withArea, withArea_path_eq] at hlen hrun
    exact ⟨bs, hlen, exec_done_area rfl rfl ha hrun⟩
  case flush => exact if_neg (by simp [hf])
  case clear => exact if_neg (by simp [hn, hc])
  case confirm =>
    show recConfirmRun c s.dev = _
    simp only [recConfirmRun, hx]
    exact if_pos ⟨hch, ht⟩
  case abandoned =>
    have hrun : recConfirmRun c s.dev = authFail { s.dev with evr := { s.dev.evr with clear := none } } .recClearConfirm := by
      simp only [recConfirmRun, hx]
      refine if_neg ?_
      rintro ⟨hch, ht⟩
      rcases hbad with h | h
      · exact h hch
      · omega
    exact exec_denied (i := .recClearConfirm c) rfl rfl rfl ha
      ((congrArg (recConfirmRun · s.dev) (Dev.withArea_none _ _ _ rfl)).trans hrun) rfl (.inr rfl)

/-! ### The flush timer (R449) -/

/-- CMP26's grid has no remainder: the next instant is the next multiple, after the one that fired last. -/
theorem nextFire_grid {p : Nat} (hp : 0 < p) (t : Nat) (last : Option Nat) : t ≤ nextFire p 0 t last ∧ nextFire p 0 t last % p = 0
    ∧ ∀ l, last = some l → l < nextFire p 0 t last := by
  have key : ∀ u, u ≤ cdiv (u + p) p * p - p ∧ (cdiv (u + p) p * p - p) % p = 0 := by
    intro u
    have hlt := Nat.lt_div_mul_add (a := u + p + p - 1) hp
    refine ⟨by rw [cdiv]; omega, ?_⟩
    rw [← Nat.sub_one_mul]
    exact Nat.mul_mod_left _ _
  cases last with
  | none =>
    obtain ⟨h1, h2⟩ := key t
    simpa [nextFire] using ⟨h1, h2⟩
  | some l =>
    obtain ⟨h1, h2⟩ := key (max t (l + 1))
    simp only [nextFire, Nat.zero_mod, Nat.sub_zero, Nat.add_zero]
    refine ⟨by omega, h2, fun k hk => ?_⟩
    cases hk
    omega

/-! ### Events -/

/-- A flush that may start in STORE_FAIL runs, and leaves the timer's mark. -/
theorem Dev.flushRetry_evr (d : Dev) : d.flushRetry.evr.timerAt = d.evr.timerAt ∧ d.flushRetry.evr.flushing = true := by
  unfold Dev.flushRetry
  split
  · exact ⟨rfl, ‹_›⟩
  · exact ⟨rfl, rfl⟩

theorem Dev.sentinel_retired (d : Dev) (code : Nat) (payload : List Byte) : (d.sentinel code payload).evr.retired = d.evr.retired := by
  simp [Dev.sentinel]

/-- Settles O55: each event's meaning, branch by branch. -/
theorem recorderEvents : Obligations.RecorderEvents := by
  rintro s _ rfl
  refine ⟨fun r => rfl, fun k => rfl, fun hf => ⟨?ok, ?program, fun hb => ?again, fun hb => ?readback, ?timeout⟩, fun hen hre => ?timer,
    fun p hp => ?page, fun m lo hi hm => ?load, fun m hi hm => ?next, fun m lo hi w hm => ⟨?loadAway, ?nextAway⟩, fun x hx => ?expiry,
    fun e hc he => ?cleared⟩
  case ok =>
    show execRecFlushDone .ok s = _
    exact act_after (if_neg (by simp [hf]))
  case program =>
    show execRecFlushDone .program s = _
    exact act_after (if_neg (by simp [hf]))
  case again =>
    show execRecFlushDone .readback s = _
    exact act_after ((if_neg (by simp [hf])).trans (if_neg (by simp [hb])))
  case readback =>
    show execRecFlushDone .readback s = _
    exact act_after ((if_neg (by simp [hf])).trans (if_pos hb))
  case timeout =>
    show execRecFlushDone .timeout s = _
    exact act_after (if_neg (by simp [hf]))
  case timer =>
    obtain ⟨h1, h2, h3⟩ := nextFire_grid (p := tenMin) (by decide) s.dev.tbs.time s.dev.evr.timerAt
    refine ⟨_, _, rfl, ?_, ?_, h1, h2, h3⟩
    · simp [hen, hre, Dev.flushRetry_evr]
    · simp [hen, hre, Dev.flushRetry_evr]
  case page =>
    refine ⟨_, rfl, ?_⟩
    simp only [hp, Bool.false_eq_true, if_false, State.after_dev, Dev.sentinel_retired]
  case load =>
    show execRecCursorLoad m lo hi s = _
    exact act_after (if_pos hm)
  case next =>
    show execRecCursorNext m hi s = _
    exact act_after (if_pos hm)
  case loadAway =>
    show execRecCursorLoad m lo hi s = _
    exact act_after (if_neg (by simp [hm]))
  case nextAway =>
    show execRecCursorNext m w s = _
    exact act_after (if_neg (by simp [hm]))
  case expiry =>
    refine ⟨_, rfl, ?_⟩
    simp only [hx]
    exact ⟨rfl, Dev.advanceMono_mono _ _⟩
  case cleared =>
    subst he
    show execRecClearDone s = _
    exact act_after (if_neg (by simp [hc]))

/-! ### The reading window and the areas (R447, R455) -/

@[simp] theorem Dev.flush_areas (d : Dev) : d.flush.evr.circ = d.evr.circ ∧ d.flush.evr.founding = d.evr.founding := by
  unfold Dev.flush
  split_ifs <;> exact ⟨rfl, rfl⟩

/-- The areas that a commit leaves: one record more, within their sizes. -/
theorem Dev.commitRec_areas (d : Dev) (r : Rec) : (d.commitRec r).evr.circ.length ≤ 16384
    ∧ (d.commitRec r).evr.founding.length ≤ d.evr.founding.length + (if d.evr.total < 1024 then 1 else 0) := by
  unfold Dev.commitRec
  dsimp only
  simp only [apply_ite Dev.evr, apply_ite Recorder.circ, apply_ite Recorder.founding, Dev.flush_areas, Dev.irqIf_keeps, ite_self]
  refine ⟨List.length_take_le _ _, ?_⟩
  split <;> simp

/-- INDEX stands before the oldest circulating record. -/
def Recorder.before (e : Recorder) : Bool := !e.area && !e.circ.isEmpty && rnumAfter e.oldest e.index

theorem Recorder.before_false {e : Recorder} (h : rnumAfter e.oldest e.index = false) : e.before = false := by
  rw [Recorder.before, h, Bool.and_false]

theorem Recorder.before_true {e : Recorder} (ha : e.area = false) (hc : e.circ ≠ []) (h : rnumAfter e.oldest e.index = true) :
    e.before = true := by
  simp [Recorder.before, ha, hc, h]

theorem Dev.loadWindow_here {d : Dev} (h : d.evr.before = false) : d.loadWindow.evr.index = d.evr.index :=
  if_neg fun hb => Bool.false_ne_true (h.symm.trans hb)

theorem Dev.loadWindow_oldest {d : Dev} (h : d.evr.before = true) : d.loadWindow.evr.index = d.evr.oldest
    ∧ d.loadWindow.evr.lost = true :=
  ⟨if_pos h, (congrArg (d.evr.lost || ·) h).trans (Bool.or_true _)⟩

/-- NEXT loads the window after the records that it holds. -/
theorem Dev.cursorWrite_next (d : Dev) (lo : Option Word) {h : Word} (hn : wbit h 1 = true) : ∃ l, d.cursorWrite lo (some h)
    = Dev.loadWindow { d with evr := { d.evr with lost := l, index := (d.evr.index + d.evr.count) % 2 ^ 32 } } := by
  refine ⟨d.evr.lost && !wbit h 2, ?_⟩
  simp [Dev.cursorWrite, hn]

/-- A write of the high word without NEXT loads the window at INDEX in its area. -/
theorem Dev.cursorWrite_area (d : Dev) {h : Word} (hn : wbit h 1 = false) : ∃ l, d.cursorWrite none (some h)
    = Dev.loadWindow { d with evr := { d.evr with lost := l, area := wbit h 0 } } := by
  refine ⟨d.evr.lost && !wbit h 2, ?_⟩
  simp [Dev.cursorWrite, hn]

/-- Settles O56: what a load leaves in the window, and what a commit leaves in the areas. -/
theorem windowFollowsTheCursor : Obligations.WindowFollowsTheCursor := by
  refine ⟨fun d lo hi => ⟨fun h hhi hnext hin => ?next, fun h hhi hnext hlo hne hold harea => ?lost, ?eight, ?count⟩,
    fun d code slot payload hcirc hf ht => ?areas⟩
  case next =>
    subst hhi
    obtain ⟨l, hl⟩ := d.cursorWrite_next lo hnext
    rw [hl]
    exact Dev.loadWindow_here (Recorder.before_false hin)
  case lost =>
    subst hhi hlo
    obtain ⟨l, hl⟩ := d.cursorWrite_area hnext
    rw [hl]
    exact Dev.loadWindow_oldest (Recorder.before_true harea hne hold)
  case eight =>
    show (List.map _ (if d.evr.area = true then _ else _)).length ≤ 8
    rw [List.length_map]
    split <;> exact List.length_take_le _ _
  case count => exact (List.length_map _).symm
  case areas =>
    unfold Dev.recordRaw
    dsimp only
    split
    · exact ⟨hcirc, hf⟩
    split
    · exact ⟨hcirc, hf⟩
    · have hfound : ∀ (x : Dev) (r : Rec), x.evr.founding = d.evr.founding → x.evr.total = d.evr.total →
          (x.commitRec r).evr.founding.length ≤ 1024 := by
        intro x r hx htot
        have := (x.commitRec_areas r).2
        rw [hx, htot] at this
        split_ifs at this <;> omega
      exact ⟨(Dev.commitRec_areas _ _).1, hfound _ _ rfl rfl⟩

end Sys2Proof.Machine

/-! PROOFS. Field update, resets and the boot (chapters 11, 17 and 18). -/
namespace Sys2Proof.Machine

/-! ### A session's commands (17 R468 to R471) -/

/-- A plain command that its own checks accept or refuse, with a code. -/
theorem Dev.runOp_answered {d : Dev} {op : Op} {c : Cmd} {r : Res} (h6 : opGroup op ≠ 6) (h1 : opGroup op ≠ 1)
    (h : runPlain op c d = r) : d.runOp op c = r := by
  obtain ⟨code, words, st⟩ := r
  unfold Dev.runOp
  split
  · exact absurd rfl h1
  · exact absurd rfl h1
  · exact absurd rfl h1
  · exact absurd rfl h1
  · simp [h, Dev.afterOrc, h6]

/-- A command that one of checks 2 to 6 refuses, with the data of its transfer area. -/
theorem Dev.handle_gate_area {d : Dev} {op : Op} {c : Cmd} {n : Nat} {e : Rc} (h : d.gateCheck op (d.withArea op c) = some (n, e)) :
    d.handle op c = ⟨some e, refusalWords op, d.countOrder c.path n⟩ := by
  simp [Dev.handle, h]

/-- The management port is SPIH's: mailbox channels 8 to 11. -/
theorem pathPort_two {p : Path} (h : pathPort p = 2) : ∃ ch : Fin 32, p = .mbx ch ∧ 8 ≤ ch.val ∧ ch.val ≤ 11 := by
  cases p with
  | mbx ch =>
    refine ⟨ch, rfl, ?_⟩
    simp only [pathPort] at h
    split_ifs at h <;> omega
  | ring | mgmt | site | field => cases h

/-- 17 R468, R469: channels 8 to 11, whose buffer is a transfer area, carry no update. -/
theorem bufOk_updBegin {c : Cmd} (hp : pathPort c.path = 2) : bufOk .updBegin c = false := by
  obtain ⟨ch, hc, h8, h11⟩ := pathPort_two hp
  simp [bufOk, hc, opInfo]
  omega

/-- R468: the whole header comes at once from HPF0. -/
theorem updBeginRun_whole {c : Cmd} {d : Dev} (h2 : pathPort c.path ≠ 2) (h4 : pathPort c.path ≠ 4) (hat : attached c.path = false) :
    updBeginRun c d = d.contest c (c.data.take (arg c 3).toNat) :=
  (if_neg (by omega)).trans (if_neg (by simp [hat]))

theorem Dev.contest_ok {d : Dev} {c : Cmd} {b : List Byte} {x : Sess} (h : d.checkHeader c b = .ok x) : d.contest c b
    = later' { d with upd := { d.upd with contend := d.upd.contend ++ [{ path := c.path, tag := c.tag, sess := x }] } } := by
  unfold Dev.contest
  generalize d.checkHeader c b = r at h
  subst h
  rfl

theorem Dev.contest_error {d : Dev} {c : Cmd} {b : List Byte} {e : Rc} (h : d.checkHeader c b = .error e) :
    d.contest c b = refuse d e := by
  unfold Dev.contest
  generalize d.checkHeader c b = r at h
  subst h
  rfl

/-- The codes of checks 2 to 5 are refusals. -/
theorem Dev.checkHeader_error {d : Dev} {c : Cmd} {b : List Byte} {e : Rc} (h : d.checkHeader c b = .error e) : rcAccepted e = false := by
  simp only [Dev.checkHeader] at h
  split_ifs at h <;> cases h <;> rfl

/-- R470: the port holds a session that takes commands. -/
theorem Dev.sessGate_ok {d : Dev} {p : Path} {x : Sess} (hi : d.upd.idlePort ≠ some (pathPort p)) (hs : d.upd.sess = some x)
    (hp : x.port = pathPort p) (hc : x.commit = none) : d.sessGate p = .ok x := by
  simp [Dev.sessGate, hi, hs, hp, hc]

theorem Dev.sessGate_none {d : Dev} {p : Path} (hi : d.upd.idlePort ≠ some (pathPort p)) (hs : d.upd.sess = none) :
    d.sessGate p = .error (.updNoSession, d) := by
  simp [Dev.sessGate, hi, hs]

/-- R467, R469: data of a legal length from a path that carries no attachment. -/
theorem updData_length {c : Cmd} (hat : attached c.path = false) (h4 : 4 ≤ (arg c 3).toNat) (hmax : (arg c 3).toNat ≤ 65536)
    (hmod : (arg c 3).toNat % 4 = 0) : ¬((arg c 3).toNat < 4 ∨ 65536 < (arg c 3).toNat ∨ (arg c 3).toNat % 4 ≠ 0
      ∨ (attached c.path = true ∧ (!attachOk c) = true)) := by
  rintro (h | h | h | ⟨h, -⟩)
  · omega
  · omega
  · exact h hmod
  · exact Bool.false_ne_true (hat.symm.trans h)

/-! ### Banks (R464, R475) -/

@[simp] theorem Upd.bankMod_same (u : Upd) (b : Bool) (g : Bank → Bank) : (u.bankMod b g).bank b = g (u.bank b) := by
  cases b <;> rfl

@[simp] theorem Upd.bankMod_other (u : Upd) (b : Bool) (g : Bank → Bank) : (u.bankMod b g).bank (!b) = u.bank (!b) := by
  cases b <;> rfl

@[simp] theorem Upd.bankMod_running (u : Upd) (b : Bool) (g : Bank → Bank) : (u.bankMod b g).running = u.running := by
  cases b <;> rfl

/-- The device after a confirmation of the running bank. -/
def Dev.confirmed (d : Dev) : Dev :=
  { d with upd := { (d.upd.bankMod d.upd.running fun k => { k with st := .confirmed }) with
    active := d.upd.running, trialOver := false } }

/-- R475: what a confirmation leaves of the banks. -/
theorem Dev.confirmed_banks (d : Dev) : d.confirmed.upd.bank d.upd.running = { d.runBank with st := .confirmed }
    ∧ d.confirmed.upd.bank (!d.upd.running) = d.upd.bank (!d.upd.running) ∧ d.confirmed.runBank.version = d.runBank.version := by
  have hrun : d.confirmed.upd.running = d.upd.running := d.upd.bankMod_running _ _
  have hsame : d.confirmed.upd.bank d.upd.running = { d.runBank with st := .confirmed } := d.upd.bankMod_same _ _
  refine ⟨hsame, d.upd.bankMod_other _ _, ?_⟩
  rw [Dev.runBank, hrun, hsame]

theorem updConfirmRun_done {c : Cmd} {d : Dev} (h : d.onTrial = true) : updConfirmRun c d
    = done (d.confirmed.log 0x1105 (leBytes 1 (b2n d.upd.running) ++ [0, 0, 0] ++ leBytes 4 d.confirmed.runBank.version.toNat)) [] :=
  if_neg (by simp [h])

/-! ### Commands -/

/-- Settles O57: each command's meaning, and the state that it leaves. -/
theorem updateCommandsRun : Obligations.UpdateCommandsRun := by
  rintro c s _ p rfl rfl
  refine ⟨fun x ha h2 h4 hat hx => exec_later_area rfl rfl ha ?begin_, fun e ha h2 h4 hat hx => ?beginBad,
    fun hh hd hr hsec hlen hp => ?beginPath,
    fun x ha hi hs hp hc hat h4 hmax hmod => ⟨fun hofs => exec_done_area rfl rfl ha ?data, fun hofs => ?offset⟩,
    fun ha hi hs => exec_refused_area rfl rfl rfl ha ?noSession,
    fun x ha hi hs hp hc hid => ?commit,
    fun x ha hi hs hp hc hid => exec_done rfl rfl ha ?abort,
    fun ha ht => ?confirm, fun ha ht => exec_refused rfl rfl rfl rfl ha (if_pos (by simp [ht])),
    fun ha => ⟨fun hf => exec_refused rfl rfl rfl rfl ha (if_pos hf),
      fun hf hr => exec_refused rfl rfl rfl rfl ha ((if_neg (by simp [hf])).trans (if_pos (by simp [hr]))),
      fun hf hr => exec_done rfl rfl ha ((if_neg (by simp [hf])).trans (if_neg (by simp [hr])))⟩,
    fun ha hs ht hA hB => exec_done rfl rfl ha ?status,
    fun ha hf hk => ?resetActive, fun x ha hf hx => ?reset⟩
  case begin_ =>
    have hwhole := updBeginRun_whole (c := s.dev.withArea .updBegin c) (d := s.dev) (by simpa using h2) (by simpa using h4)
      (by simpa using hat)
    rw [arg_withArea, Dev.contest_ok hx, withArea_path_eq, withArea_tag_eq] at hwhole
    exact hwhole
  case beginBad =>
    have hwhole := updBeginRun_whole (c := s.dev.withArea .updBegin c) (d := s.dev) (by simpa using h2) (by simpa using h4)
      (by simpa using hat)
    rw [arg_withArea, Dev.contest_error hx] at hwhole
    exact exec_refused_area (i := .updBegin c) rfl rfl (Dev.checkHeader_error hx) ha hwhole
  case beginPath =>
    have hlen' : (s.dev.withArea .updBegin c).words.length = (opInfo .updBegin).reqWords := by
      rw [Dev.withArea_words]
      exact hlen
    have hpath : pathRank c.path ≤ 2 := by
      obtain ⟨ch, hc, h8, h11⟩ := pathPort_two hp
      simp [hc, pathRank, h11]
    have hgate : s.dev.gateCheck .updBegin (s.dev.withArea .updBegin c) = some (5, .noDmaPath) :=
      Dev.gateCheck_buf hr hlen' (by rw [withArea_path_eq]; exact hpath)
        (by rw [Dev.secCheck_ready hr, withArea_path_eq, hsec]; rfl) (bufOk_updBegin (by rwa [withArea_path_eq]))
    refine exec_of_command (i := .updBegin c) rfl (by decide) ?_
    rw [Dev.command_handled hh hd (Dev.handle_gate_area hgate) rfl, Dev.replyEpoch_else (by decide) (by decide)]
  case data =>
    show updDataRun (s.dev.withArea .updData c) s.dev = _
    simp only [updDataRun, withArea_path_eq, arg_withArea, Dev.sessGate_ok hi hs hp hc]
    have hlen := updData_length (c := s.dev.withArea .updData c) (by simpa using hat) (by simpa using h4) (by simpa using hmax)
      (by simpa using hmod)
    simp only [withArea_path_eq, arg_withArea] at hlen
    rw [if_neg hlen, if_neg (by simp [hofs])]
  case offset =>
    refine exec_denied (i := .updData c) rfl rfl rfl ha (r := ⟨some .updOffset, [word x.accepted], s.dev⟩) ?_ rfl
      (.inl (List.cons_ne_nil _ _))
    show updDataRun (s.dev.withArea .updData c) s.dev = _
    simp only [updDataRun, withArea_path_eq, arg_withArea, Dev.sessGate_ok hi hs hp hc]
    have hlen := updData_length (c := s.dev.withArea .updData c) (by simpa using hat) (by simpa using h4) (by simpa using hmax)
      (by simpa using hmod)
    simp only [withArea_path_eq, arg_withArea] at hlen
    rw [if_neg hlen, if_pos hofs]
  case noSession =>
    show updDataRun (s.dev.withArea .updData c) s.dev = _
    simp only [updDataRun, withArea_path_eq, Dev.sessGate_none hi hs]
    rfl
  case commit =>
    have hrun : updCommitRun c s.dev = ⟨some .acceptedAsync, [], { s.dev with upd := { s.dev.upd with
        sess := some { x with commit := some (c.path, c.tag) } } }⟩ := by
      simp only [updCommitRun, Dev.sessGate_ok hi hs hp hc]
      exact if_neg (by simp [hid])
    refine exec_of_command (i := .updCommit c) rfl (by decide) ?_
    rw [Dev.command_answered ha (by decide) (Dev.runOp_answered (by decide) (by decide)
      ((congrArg (updCommitRun · s.dev) (Dev.withArea_none _ _ _ rfl)).trans hrun)) rfl (.inr (.inl rfl)),
      if_pos (show rcAccepted .acceptedAsync = true from rfl)]
    rfl
  case abort =>
    show updAbortRun c s.dev = _
    simp only [updAbortRun, Dev.sessGate_ok hi hs hp hc, Dev.closeSession, hs]
    exact if_neg (by simp [hid])
  case confirm =>
    obtain ⟨hbank, hother, hver⟩ := s.dev.confirmed_banks
    have hrun := updConfirmRun_done (c := c) ht
    rw [hver] at hrun
    exact ⟨_, hbank, rfl, hother, exec_done rfl rfl ha hrun⟩
  case status =>
    show updStatusRun c s.dev = _
    simp [updStatusRun, hs, ht, hA, hB, Dev.lockHolder, Dev.trialLeft, b2n]
    rfl
  case resetActive =>
    have hcmd := Dev.command_refused ha (Dev.runOp_refuse (by decide) rfl
      (show runPlain .bootReset (s.dev.withArea .bootReset c) s.dev = refuse s.dev .pwrFleetActive from if_pos hf)) rfl
    show execBootReset c s = _
    refine act_after ?_
    rw [hcmd, Dev.bootDue, if_neg]
    show ¬s.dev.upd.bootKind.isSome = true
    simp [hk]
  case reset =>
    have hcmd := Dev.command_done ha (by decide) (Dev.runOp_plain (by decide) (by decide)
      (show runPlain .bootReset (s.dev.withArea .bootReset c) s.dev
        = done { s.dev with upd := { s.dev.upd with bootKind := some (argF c 0 0 2) } } [] from
          (if_neg (by simp [hf])).trans (by rw [argF_withArea])))
    subst hx
    show execBootReset c s = _
    refine act_after ?_
    rw [hcmd]
    exact if_pos rfl

end Sys2Proof.Machine

/-! PROOFS. Resets, the watchdog, trials, power and heat, and what a boot leaves (chapters 11, 17 and 18). -/
namespace Sys2Proof.Machine

/-! ### The scheduler's halt through dispatch (11 R341) -/

@[simp] theorem Dev.trace_halted (d : Dev) (action reason core entry : Nat) (e : Ent) :
    (d.trace action reason core entry e).sch.halted = d.sch.halted ∧ (d.trace action reason core entry e).blw = d.blw := by
  simp only [Dev.trace]
  split
  · simp
  · exact ⟨rfl, rfl⟩

theorem Dev.startOn_halted (d : Dev) (k core reason : Nat) (e : Ent) : (d.startOn k core reason e).sch.halted = d.sch.halted
    ∧ (d.startOn k core reason e).blw = d.blw := by
  simp only [Dev.startOn, Dev.trace_halted]
  exact ⟨rfl, rfl⟩

theorem Dev.dispatchOne_halted {d x : Dev} (h : d.dispatchOne = some x) : x.sch.halted = d.sch.halted ∧ x.blw = d.blw := by
  obtain ⟨c, -, hc⟩ := List.exists_of_findSome?_eq_some h
  obtain ⟨p, -, rfl⟩ := Option.map_eq_some_iff.mp hc
  exact d.startOn_halted _ _ _ _

theorem Dev.dispatchN_halted (n : Nat) (d : Dev) : (Dev.dispatchN n d).sch.halted = d.sch.halted ∧ (Dev.dispatchN n d).blw = d.blw := by
  induction n generalizing d with
  | zero => exact ⟨rfl, rfl⟩
  | succ n ih =>
    rw [Dev.dispatchN]
    split
    · next x hx =>
      obtain ⟨h1, h2⟩ := ih x
      obtain ⟨h3, h4⟩ := Dev.dispatchOne_halted hx
      exact ⟨h1.trans h3, h2.trans h4⟩
    · exact ⟨rfl, rfl⟩

/-- Dispatch neither halts nor resumes, and leaves Bellows alone. -/
theorem Dev.dispatch_halted (d : Dev) : d.dispatch.sch.halted = d.sch.halted ∧ d.dispatch.blw = d.blw := by
  have hmark : ∀ x : Dev, x.markWaits.sch.halted = x.sch.halted ∧ x.markWaits.blw = x.blw := fun x =>
    List.foldlRecOn (motive := fun y : Dev => y.sch.halted = x.sch.halted ∧ y.blw = x.blw) _ _ ⟨rfl, rfl⟩ fun y hy c _ => by
      split
      · exact hy
      · exact hy
  obtain ⟨h1, h2⟩ := hmark (Dev.dispatchN 17 d)
  obtain ⟨h3, h4⟩ := Dev.dispatchN_halted 17 d
  exact ⟨h1.trans h3, h2.trans h4⟩

/-! ### Events -/

/-- The power-fail flush runs as such (16 R450). -/
theorem Dev.pfwFlush_evr (d : Dev) : d.pfwFlush.evr.pfwFlush = true ∧ d.pfwFlush.evr.flushing = true
    ∧ d.pfwFlush.blw = d.blw ∧ d.pfwFlush.sch = d.sch := by
  refine ⟨rfl, d.flushRetry_evr.2, ?_⟩
  unfold Dev.pfwFlush Dev.flushRetry
  split <;> exact ⟨rfl, rfl⟩

/-- A session that closes: the lock is released, with a record (17 R470). -/
theorem Dev.closeSession_some {d : Dev} {x : Sess} (h : d.upd.sess = some x) (why : Nat) : d.closeSession why
    = Dev.log { d with upd := { d.upd with sess := none } } 0x5103 (leBytes 1 x.port ++ leBytes 1 why) := by
  simp only [Dev.closeSession, h]

/-- Settles O58: each event's meaning, branch by branch. -/
theorem bootEvents : Obligations.BootEvents := by
  rintro s _ rfl
  refine ⟨fun b => rfl, fun b hb => ?debug, rfl, fun x hx => ?watchdog, fun b hb => ?watchdogReset, fun x ht ho hx => ?trial,
    fun b ho hm => ?trialReset, ?pfw, fun hp => ?resume, fun hp => ?stays, fun x hx => ?loss, fun mv hb hmv hday => ?vbat,
    fun t x htr hoff ht hx => ?trip, fun htr hoff => ?powerOff, fun t b hoff ht => ?recover,
    fun r x a hs hc => ⟨fun hg hp => ?commit, fun hg => ?toHash⟩, fun x hs hc => ?idle⟩
  case debug =>
    show execDebugReset b s = _
    exact act_after (if_pos hb)
  case watchdog =>
    subst hx
    rfl
  case watchdogReset =>
    show execWatchdogReset b s = _
    exact act_after (if_pos hb)
  case trial =>
    subst hx
    show execTrialExpiry s = _
    exact act_after (if_pos (by simp [ht, ho]))
  case trialReset =>
    show execTrialReset b s = _
    refine act_after ((if_pos ho).trans ?_)
    simp only [hm, Bool.false_eq_true, if_false]
  case pfw =>
    refine ⟨_, rfl, ?_⟩
    simp [Dev.blwIrq, Dev.pfwFlush_evr]
  case resume =>
    refine ⟨_, rfl, ?_⟩
    simp [hp, Dev.blwIrq, Dev.dispatch_halted]
  case stays =>
    show execPfwDeassert false s = _
    exact act_after (if_neg (by simp))
  case loss =>
    subst hx
    rfl
  case vbat =>
    show execVbatLow mv s = _
    exact act_after ((if_neg (by simp [hb, hmv])).trans (if_pos hday))
  case trip =>
    subst hx
    show execThermalTrip t s = _
    exact act_after (if_neg (by simp [htr, hoff, ht]))
  case powerOff =>
    refine ⟨_, rfl, ?_⟩
    simp [htr, hoff]
  case recover =>
    show execThermalRecover t b s = _
    exact act_after (if_pos (by simp [hoff, ht]))
  case commit =>
    show execUpdCommitDone r s = _
    refine act_after ?_
    simp only [hs, hc]
    refine (if_pos hg).trans ?_
    rw [if_neg hp]
  case toHash =>
    show execUpdCommitDone r s = _
    refine act_after ?_
    simp only [hs, hc]
    exact if_neg (by simp [hg])
  case idle =>
    have hclose := Dev.closeSession_some (d := s.dev.advanceMono (x.at_ + 120 * secU)) hs 1
    refine ⟨_, rfl, ?_⟩
    simp [hs, hc, hclose]

/-! ### A boot that serves (17 R461, R462) -/

/-- Records of a boot change the recorder and the interrupts alone. -/
theorem Dev.logAll_keeps (d : Dev) (l : List LogItem) : (d.logAll l).gen.follows d.gen ∧ (d.logAll l).bgl = d.bgl
    ∧ (d.logAll l).upd = d.upd :=
  List.foldlRecOn (motive := fun y : Dev => y.gen.follows d.gen ∧ y.bgl = d.bgl ∧ y.upd = d.upd) _ _ ⟨Gen.follows.refl _, rfl, rfl⟩
    fun y hy k _ => by
      obtain ⟨hg, hb, hu⟩ := hy
      exact ⟨(y.log_follows _ _).trans hg, by simpa using hb, by simpa using hu⟩

@[simp] theorem Dev.bindTable_keeps (d : Dev) (crcOk : Bool) : (d.bindTable crcOk).1.gen = d.gen ∧ (d.bindTable crcOk).1.bgl = d.bgl
    ∧ (d.bindTable crcOk).1.upd = d.upd := by
  unfold Dev.bindTable
  split <;> exact ⟨rfl, rfl, rfl⟩

@[simp] theorem Dev.setDoms_keeps (d : Dev) : d.setDoms.gen.cause = d.gen.cause ∧ d.setDoms.bgl = d.bgl ∧ d.setDoms.upd = d.upd :=
  List.foldlRecOn (motive := fun y : Dev => y.gen.cause = d.gen.cause ∧ y.bgl = d.bgl ∧ y.upd = d.upd) _ _ ⟨rfl, rfl, rfl⟩
    fun _ hy _ _ => hy

@[simp] theorem Dev.restoreArp_keeps (d : Dev) : d.restoreArp.gen = d.gen ∧ d.restoreArp.bgl = d.bgl ∧ d.restoreArp.upd = d.upd := by
  unfold Dev.restoreArp
  split <;> exact ⟨rfl, rfl, rfl⟩

@[simp] theorem Dev.loadPersistent_keeps (d : Dev) : d.loadPersistent.gen = d.gen ∧ d.loadPersistent.bgl = d.bgl
    ∧ d.loadPersistent.upd = d.upd :=
  List.foldlRecOn (motive := fun y : Dev => y.gen = d.gen ∧ y.bgl = d.bgl ∧ y.upd = d.upd) _ _ ⟨rfl, rfl, rfl⟩ fun y hy k _ => by
    split
    · split
      · exact hy
      · exact hy
    · exact hy

@[simp] theorem Dev.setCaps_keeps (d : Dev) : d.setCaps.gen = d.gen ∧ d.setCaps.bgl = d.bgl ∧ d.setCaps.upd = d.upd :=
  List.foldlRecOn (motive := fun y : Dev => y.gen = d.gen ∧ y.bgl = d.bgl ∧ y.upd = d.upd) _ _ ⟨rfl, rfl, rfl⟩ fun _ hy _ _ => hy

@[simp] theorem Upd.eraseGen_running (u : Upd) (g : Nat) (l : List Bank) : (u.eraseGen g l).running = u.running := by
  unfold Upd.eraseGen
  split <;> rfl

/-- The settings generation is opened in the update block alone, and the bank that runs stays. -/
@[simp] theorem Dev.openGen_keeps (d : Dev) : d.openGen.1.gen = d.gen ∧ d.openGen.1.bgl = d.bgl
    ∧ d.openGen.1.upd.running = d.upd.running := by
  refine ⟨rfl, rfl, ?_⟩
  refine List.foldlRecOn (motive := fun u : Upd => u.running = d.upd.running) _ _ ?_ fun u hu g _ => by simpa using hu
  split
  · rfl
  · simp

/-- R461: what the last steps of a boot leave for a verified bank. -/
theorem Dev.serve_keeps (d : Dev) (k crcOk : Bool) (l : List LogItem) : (d.serve k crcOk l).gen.phase = .ready
    ∧ (d.serve k crcOk l).gen.cause = d.gen.cause ∧ (d.serve k crcOk l).upd.running = k ∧ (d.serve k crcOk l).bgl.up = true
    ∧ (d.serve k crcOk l).bgl.stops = d.bgl.stops := by
  have hbugle : ∀ x : Dev, x.startBugle.gen = x.gen ∧ x.startBugle.upd = x.upd ∧ x.startBugle.bgl.up = true
      ∧ x.startBugle.bgl.stops = x.bgl.stops := fun x => ⟨by simp [Dev.startBugle], rfl, rfl, rfl⟩
  unfold Dev.serve
  dsimp only
  obtain ⟨⟨-, hp, hc, -⟩, hb, hu⟩ := Dev.logAll_keeps (Dev.startBugle _) (l ++ _ ++ _)
  rw [hp, hc, hb, hu]
  simp [hbugle]

/-- R461: the checks of steps 4 to 6 find nothing, and a bank is chosen. -/
theorem Dev.bootOn_serves {d : Dev} {cause : Nat} {b : BootIn} {k : Bool} {u : Upd} {l : List LogItem} (hfail : b.failedTests = 0)
    (hkind : d.upd.bootKind = none) (hbank : Upd.bootBank { d.upd with
      bankA := d.upd.bankA.read b.bankA, bankB := d.upd.bankB.read b.bankB, bootKind := none, lostSess := false } cause d.evr.opTime b
        = (some k, u, l))
    (items : List LogItem) : d.bootOn cause b items = (Dev.startVault { d with
      upd := u, evr := { d.evr with pfwGap := 0, pfwDone := false } }).serve k b.bindingCrcOk (items ++ d.upd.lostItems ++ l) := by
  unfold Dev.bootOn
  rw [if_neg (by simp [hfail])]
  dsimp only
  rw [hbank, hkind]

@[simp] theorem Dev.putSlot_keeps (d : Dev) (k : Nat) (v : KSlot) : (d.putSlot k v).gen = d.gen ∧ (d.putSlot k v).bgl = d.bgl :=
  ⟨rfl, rfl⟩

theorem Dev.deriveFixed_keeps (d : Dev) : d.deriveFixed.gen = d.gen ∧ d.deriveFixed.bgl = d.bgl := by
  simp [Dev.deriveFixed]

/-- The vault's start changes the vault, and which root Bugle's chains take. -/
theorem Dev.startVault_keeps (d : Dev) : d.startVault.gen = d.gen ∧ d.startVault.bgl.stops = d.bgl.stops := by
  unfold Dev.startVault
  dsimp only
  split
  · exact ⟨rfl, rfl⟩
  · simp [Dev.deriveFixed_keeps]

theorem Dev.advanceLc_keeps (d : Dev) : d.advanceLc.1.gen = d.gen ∧ d.advanceLc.1.bgl = d.bgl ∧ d.advanceLc.1.upd = d.upd
    ∧ d.advanceLc.1.evr = d.evr := by
  unfold Dev.advanceLc
  dsimp only
  split <;> exact ⟨rfl, rfl, rfl, rfl⟩

/-- A reset sets its cause, and no stop is in force. -/
theorem Dev.atReset_keeps (d : Dev) (cause : Nat) (b : BootIn) : (d.atReset cause b).gen.cause = cause
    ∧ (d.atReset cause b).bgl.stops = [] := by
  refine ⟨rfl, ?_⟩
  simp only [Dev.atReset]
  split <;> rfl

/-- R461: no source reads set, and the fuses are in order. -/
theorem Dev.boot_clean {d : Dev} {cause : Nat} {b : BootIn} (ht : (d.atReset cause b).tampered = 0)
    (hl : (d.atReset cause b).sec.latched = 0) (hf : b.fuseOk = true) : d.boot cause b
      = (d.atReset cause b).advanceLc.1.bootOn cause b
          ((d.atReset cause b).resetItems cause ++ [] ++ (d.atReset cause b).advanceLc.2) := by
  unfold Dev.boot
  dsimp only
  rw [if_neg (by simp [ht, hl]), if_neg (by simp [hf]), if_neg (by simp [hl])]

/-- Settles O59: the checks find nothing, and what follows them keeps what each step sets. -/
theorem bootReachesReady : Obligations.BootReachesReady := by
  rintro d _ cause b k u l rfl htamper hlatch hfuse hfail hkind hbank
  obtain ⟨hgen, hbgl, hupd, hevr⟩ := (d.atReset cause b).advanceLc_keeps
  obtain ⟨hcause, hstops⟩ := d.atReset_keeps cause b
  rw [Dev.boot_clean htamper hlatch hfuse,
    Dev.bootOn_serves hfail (by rw [hupd, hkind]) (by rw [hupd, hevr]; exact hbank)]
  obtain ⟨hp, hc, hr, hu, hs⟩ := Dev.serve_keeps (Dev.startVault _) k b.bindingCrcOk _
  refine ⟨hp, hc.trans ?_, hr, hu, hs.trans ?_⟩
  · rw [(Dev.startVault_keeps _).1]
    exact (congrArg Gen.cause hgen).trans hcause
  · rw [(Dev.startVault_keeps _).2]
    exact (congrArg Bgl.stops hbgl).trans hstops

/-! ### What a reset keeps (R458) -/

/-- Settles O60: the fields that a reset copies, and the records that lie in flash. -/
theorem resetKeepsWhatItMust : Obligations.ResetKeepsWhatItMust := by
  intro d
  have hcirc : ∀ r, r ∈ d.lose.evr.circ ↔ r ∈ d.evr.circ ∧ r.page.isSome = true := fun r => List.mem_filter
  exact ⟨rfl, rfl, rfl, rfl, rfl, rfl, rfl, rfl, rfl, rfl, fun r hr => (hcirc r).mp hr, fun r hr hp => (hcirc r).mpr ⟨hr, hp⟩⟩

end Sys2Proof.Machine

/-! PROOFS. Transaction, mailbox and general commands (chapters 01, 13 and 14). -/
namespace Sys2Proof.Machine

/-! ### A transaction command once its checks pass -/

/-- A command of class NONE that fails without words of its own, whatever state it leaves. -/
theorem Dev.command_failed {d : Dev} {op : Op} {c : Cmd} {st : Dev} {e : Rc} (ha : d.accepts op c = true)
    (hcls : (opInfo op).cls = .none) (hr : d.runOp op (d.withArea op c) = ⟨some e, [], st⟩) (he : rcAccepted e = false) :
    d.command op c = (st.countOrder c.path 8).answer e c.tag (refusalWords op) (d.replyEpoch op c e) := by
  obtain ⟨h1, h2⟩ := Dev.accepts_take ha
  have hn : d.runNow op (d.withArea op c) = ⟨some e, refusalWords op, st⟩ := by
    simp [Dev.runNow, hcls, hr, he]
  simp [Dev.command, h1, h2, hn, he]

section
variable {i : Instr} {op : Op} {c : Cmd} {s : State} {r : Res} {e : Rc}

/-- A transaction command names no buffer and applies at once: the answer of its meaning is the answer of the command. -/
theorem exec_txn (hi : i.cmd? = some (op, c)) (h1 : opGroup op = 1) (hbuf : (opInfo op).buf = .none)
    (hcls : (opInfo op).cls ≠ .epoch) (ha : s.dev.accepts op c = true) (hr : s.dev.runOp op c = r) (he : r.code = some e)
    (hw : r.words ≠ [] ∨ rcAccepted e = true ∨ refusalWords op = []) :
    exec i s = .next (s.after ((if rcAccepted e then r.st.countAccepted c.path else r.st.countOrder c.path 8).answer e c.tag
      r.words (s.dev.replyEpoch op c e))) := by
  refine exec_of_command hi (by rintro rfl; cases h1) (Dev.command_answered ha hcls ?_ he hw)
  rwa [Dev.withArea_none _ _ _ hbuf]

/-- A transaction command that succeeds. -/
theorem exec_txn_done {st : Dev} {ws : List Word} (hi : i.cmd? = some (op, c)) (h1 : opGroup op = 1)
    (hbuf : (opInfo op).buf = .none) (hcls : (opInfo op).cls ≠ .epoch) (ha : s.dev.accepts op c = true)
    (hr : s.dev.runOp op c = done st ws) : exec i s = .next (s.replied c st ws) := by
  refine exec_of_command hi (by rintro rfl; cases h1) (Dev.command_done ha hcls ?_)
  rwa [Dev.withArea_none _ _ _ hbuf]

/-- A transaction command that its own checks refuse. -/
theorem exec_txn_refused (hi : i.cmd? = some (op, c)) (h1 : opGroup op = 1) (hbuf : (opInfo op).buf = .none)
    (ha : s.dev.accepts op c = true) (hr : s.dev.runOp op c = refuse s.dev e) (he : rcAccepted e = false) :
    exec i s = .next (s.turnedDown op c 8 e) := by
  refine exec_of_command hi (by rintro rfl; cases h1) (Dev.command_refused ha ?_ he)
  rwa [Dev.withArea_none _ _ _ hbuf]

/-- A transaction command that fails and leaves the port in another state. -/
theorem exec_txn_failed {st : Dev} (hi : i.cmd? = some (op, c)) (h1 : opGroup op = 1) (hbuf : (opInfo op).buf = .none)
    (hcls : (opInfo op).cls = .none) (ha : s.dev.accepts op c = true) (hr : s.dev.runOp op c = ⟨some e, [], st⟩)
    (he : rcAccepted e = false) :
    exec i s = .next (s.after ((st.countOrder c.path 8).answer e c.tag (refusalWords op) (s.dev.replyEpoch op c e))) := by
  refine exec_of_command hi (by rintro rfl; cases h1) (Dev.command_failed ha hcls ?_ he)
  rwa [Dev.withArea_none _ _ _ hbuf]

end

/-! ### The port's transaction (R40, R44) -/

section
variable {d : Dev} {p : Nat}

theorem Dev.txnClosed_opened (h : (d.tport p).st = .opened) : d.txnClosed p = none := by
  simp [Dev.txnClosed, h]

theorem Dev.txnClosed_none (h : (d.tport p).st = .none) : d.txnClosed p = some (refuse d .txnNone) := by
  simp [Dev.txnClosed, h]

theorem Dev.txnClosed_expired (h : (d.tport p).st = .expired) :
    d.txnClosed p = some ⟨some .txnExpired, [], d.tportMod p fun t => { t with st := .none }⟩ := by
  simp [Dev.txnClosed, h]

end

section
variable {c : Cmd} {d : Dev} {p : Nat}

theorem txnBeginRun_done (hp : p = pathPort c.path) (h5 : p < 5) (h : (d.tport p).st ≠ .opened) : txnBeginRun c d
    = done (Dev.tportMod { d with txn := { d.txn with count := (d.txn.count + 1) % 65536 } } p fun _ =>
        { st := .opened, beganAt := d.tbs.mono, id := (d.txn.count + 1) % 65536 }) [word ((d.txn.count + 1) % 65536)] := by
  subst hp
  exact (if_neg (by omega)).trans (if_neg h)

theorem txnBeginRun_open (h5 : pathPort c.path < 5) (h : (d.tport (pathPort c.path)).st = .opened) :
    txnBeginRun c d = refuse d .txnOpen :=
  (if_neg (by omega)).trans (if_pos h)

theorem txnRollbackRun_closed {r : Res} (h : d.txnClosed (pathPort c.path) = some r) : txnRollbackRun c d = r := by
  simp only [txnRollbackRun, h]

theorem txnRollbackRun_open (h : d.txnClosed (pathPort c.path) = none) :
    txnRollbackRun c d = done (d.rollback (pathPort c.path)) [word (d.tport (pathPort c.path)).staged.length] := by
  simp only [txnRollbackRun, h]

/-! ### Commit (R42, R45, R415) -/

/-- No staged command that another transaction locks: the lock test of R415 finds none. -/
theorem find_locked_none {l : List Staged} (h : (l.any fun y => d.locked y.op y.cmd) = false) :
    (((List.range l.length).zip l).find? fun x => d.locked x.2.op x.2.cmd) = none := by
  rw [List.find?_eq_none]
  intro x hx
  exact Bool.eq_false_iff.mp (by simpa using List.any_eq_false.mp h x.2 (List.of_mem_zip hx).2)

/-- The transaction of the port as TXN_COMMIT files it. -/
def commOf (c : Cmd) (d : Dev) (t : TPort) : Comm :=
  { port := pathPort c.path, id := t.id, staged := t.staged, target := d.gen.epochFull + (arg c 0 - d.epoch).toNat
    beganAt := t.beganAt, path := c.path, tag := c.tag, grants := (holdPending t.id (applyOrder t.staged) d d).2 }

/-- R42: the state in which a commit leaves the port: its intervals pending, nothing staged. -/
def Dev.committing (d : Dev) (p : Nat) : Dev :=
  (holdPending (d.tport p).id (applyOrder (d.tport p).staged) d d).1.tportMod p fun t => { t with st := .none, staged := [] }

theorem txnCommitRun_ok {x : Dev × List (Nat × Staged × Option Rc × List Word)} {t : TPort} {u : Dev}
    (ht : d.tport (pathPort c.path) = t) (hst : t.st = .opened) (h2 : 2 ≤ (arg c 0 - d.epoch).toNat)
    (h600 : (arg c 0 - d.epoch).toNat ≤ 600) (hl : (t.staged.any fun y => d.locked y.op y.cmd) = false)
    (hx : d.txnTests [] t.staged (d.gen.epochFull + (arg c 0 - d.epoch).toNat) = .ok x) (hu : u = d.committing (pathPort c.path)) :
    txnCommitRun c d = ⟨some .acceptedAsync, [commitWord t.staged.length 0 false, epoch32 (commOf c d t).target],
      { u with txn := { u.txn with committed := u.txn.committed ++ [commOf c d t] } }⟩ := by
  subst ht hu
  unfold txnCommitRun
  simp only [Dev.txnClosed_opened hst, find_locked_none hl]
  rw [if_neg (by omega)]
  generalize d.txnTests [] _ _ = r at hx ⊢
  subst hx
  rfl

theorem txnCommitRun_range (hst : (d.tport (pathPort c.path)).st = .opened)
    (h : (arg c 0 - d.epoch).toNat < 2 ∨ 600 < (arg c 0 - d.epoch).toNat) :
    txnCommitRun c d = ⟨some .txnEpochRange, [commitWord (d.tport (pathPort c.path)).staged.length 0 false, 0], d⟩ := by
  unfold txnCommitRun
  simp only [Dev.txnClosed_opened hst]
  exact if_pos h

/-! ### Status -/

theorem txnStatusRun_opened (h : (d.tport (argF c 0 0 3)).st = .opened) : txnStatusRun c d
    = done d [word (1 + 4 * (d.tport (argF c 0 0 3)).staged.length), 0,
      sat32 ((d.tbs.mono - (d.tport (argF c 0 0 3)).beganAt) / msU), word (d.tport (argF c 0 0 3)).id] := by
  simp only [txnStatusRun, h]

theorem txnStatusRun_none (h : (d.tport (argF c 0 0 3)).st = .none)
    (hc : (d.txn.committed.filter fun k => k.port == argF c 0 0 3) = []) : txnStatusRun c d = done d [0, 0, 0, 0] := by
  simp only [txnStatusRun, h, hc, List.getLast?_nil]

end

/-! ### Path counts (13 R406) -/

section
variable {c : Cmd} {d : Dev} {k : Nat} (hk : k = if argB c 0 8 then 32 + argF c 0 0 5 else argF c 0 0 5)
  (hr : argB c 0 8 = true → argF c 0 0 5 < 16)
include hk hr

theorem cmdPathRun_counts (h9 : argB c 0 9 = false) : cmdPathRun c d = done (d.pathCntMod k fun q => { q with peak := 0 })
    [sat32 (d.pathCnt k).accepted, sat32 (d.pathCnt k).reject, sat32 (d.pathCnt k).timeout, sat32 (d.pathCnt k).late,
      sat32 (d.pathCnt k).crossed, sat32 (d.pathCnt k).cmdTmo, word (d.pathCnt k).peak, 0] := by
  subst hk
  exact (if_neg (by simpa using hr)).trans (if_neg (by simp [h9]))

theorem cmdPathRun_orders (h9 : argB c 0 9 = true) :
    cmdPathRun c d = done d ((List.range 8).map fun i => sat32 (tget 0 (d.pathCnt k).orders (i + 1))) := by
  subst hk
  exact (if_neg (by simpa using hr)).trans (if_pos h9)

end

/-! ### The commands -/

/-- Settles O15: each command's meaning, and the state that it leaves. -/
theorem transactionCommandsRun : Obligations.TransactionCommandsRun := by
  rintro c s _ p t rfl rfl rfl
  refine ⟨fun ha => exec_done rfl rfl ha rfl, fun ha => exec_done rfl rfl ha rfl,
    fun ha h5 hst => exec_txn_done rfl rfl rfl (by decide) ha (txnBeginRun_done rfl h5 hst),
    fun ha h5 hst => exec_txn_refused rfl rfl rfl ha (txnBeginRun_open h5 hst) rfl,
    fun ha hst => exec_txn_done rfl rfl rfl (by decide) ha (txnRollbackRun_open (Dev.txnClosed_opened hst)),
    fun ha hst => exec_txn_refused rfl rfl rfl ha (txnRollbackRun_closed (Dev.txnClosed_none hst)) rfl,
    fun ha hst => exec_txn_failed (i := .txnRollback c) rfl rfl rfl rfl ha
      (txnRollbackRun_closed (Dev.txnClosed_expired hst)) rfl,
    fun x ha hst h2 h600 hl hx => ?commit, fun ha hst h => ?range,
    fun ha hst => exec_txn_done rfl rfl rfl (by decide) ha (txnStatusRun_opened hst),
    fun ha hst hc => exec_txn_done rfl rfl rfl (by decide) ha (txnStatusRun_none hst hc),
    fun ha => exec_done rfl rfl ha rfl,
    fun k ha hk hr => ⟨fun h9 => exec_done rfl rfl ha (cmdPathRun_counts hk hr h9), fun h9 => exec_done rfl rfl ha (cmdPathRun_orders hk hr h9)⟩⟩
  case commit =>
    exact ⟨commOf c s.dev (s.dev.tport (pathPort c.path)), rfl, rfl, rfl, rfl, rfl, rfl, _, rfl,
      exec_txn (i := .txnCommit c) rfl rfl rfl (by decide) ha (txnCommitRun_ok rfl hst h2 h600 hl hx rfl) rfl (.inr (.inl rfl))⟩
  case range =>
    exact exec_txn (i := .txnCommit c) rfl rfl rfl (by decide) ha (txnCommitRun_range hst h) rfl (.inl (List.cons_ne_nil _ _))

end Sys2Proof.Machine

/-! PROOFS. The timebase (chapter 02). -/
namespace Sys2Proof.Machine

/-! ### Validity and the error bound (R62, R63) -/

section
variable {d : Dev}

/-- A change of TIME_VALID or HOLDOVER is a TIME cause; of the timebase it changes those two flags alone. -/
@[simp] theorem Dev.refreshTime_tbs (d : Dev) :
    d.refreshTime.tbs = { d.tbs with timeValid := d.timeValid, holdover := d.holdover } := by
  rw [Dev.refreshTime, (Dev.irqIf_keeps _ _ _).1]

theorem Dev.sinceSync_advance (h : d.tbs.syncAt ≤ d.tbs.mono) (n : Nat) : (d.advance n).sinceSync = d.sinceSync + n := by
  change d.tbs.mono + n - d.tbs.syncAt = d.tbs.mono - d.tbs.syncAt + n
  omega

/-- Time that passes on XO32K counts as spent on it. -/
theorem Dev.on32Time_advance (hs : d.tbs.syncAt ≤ d.tbs.mono) (h32 : d.tbs.at32 ≤ d.tbs.mono) (n : Nat) :
    (d.advance n).on32Time = d.on32Time + if d.tbs.on32k then n else 0 := by
  change d.tbs.spent32 + (if d.tbs.on32k then d.tbs.mono + n - max d.tbs.at32 d.tbs.syncAt else 0)
    = d.tbs.spent32 + (if d.tbs.on32k then d.tbs.mono - max d.tbs.at32 d.tbs.syncAt else 0) + _
  split <;> omega

/-- The error bound as it stands n later. -/
theorem Dev.errExact_after (hs : d.tbs.syncAt ≤ d.tbs.mono) (h32 : d.tbs.at32 ≤ d.tbs.mono) (n : Nat) :
    (d.advance n).errExact = d.tbs.unc * 10 ^ 9 * nsU
      + d.tbs.driftPpb * (d.sinceSync + n - (d.on32Time + if d.tbs.on32k then n else 0))
      + d.tbs.drift32Ppb * (d.on32Time + if d.tbs.on32k then n else 0) := by
  rw [Dev.errExact, Dev.sinceSync_advance hs, Dev.on32Time_advance hs h32]
  rfl

theorem Dev.errExact_le_advance (hs : d.tbs.syncAt ≤ d.tbs.mono) (h32 : d.tbs.at32 ≤ d.tbs.mono) (n : Nat) :
    d.errExact ≤ (d.advance n).errExact := by
  rw [Dev.errExact_after hs h32, Dev.errExact]
  refine Nat.add_le_add (Nat.add_le_add_left (Nat.mul_le_mul_left _ ?_) _) (Nat.mul_le_mul_left _ (Nat.le_add_right _ _))
  split <;> omega

/-- R62: the bound grows by the drift in force, once the time on XO32K lies within the time since the write. -/
theorem Dev.errExact_advance (hs : d.tbs.syncAt ≤ d.tbs.mono) (h32 : d.tbs.at32 ≤ d.tbs.mono)
    (ho : d.on32Time ≤ d.sinceSync) (n : Nat) : (d.advance n).errExact = d.errExact + d.drift * n := by
  rw [Dev.errExact_after hs h32, Dev.errExact, Dev.drift]
  cases d.tbs.on32k with
  | true => rw [if_pos rfl, if_pos rfl, Nat.add_sub_add_right, Nat.mul_add, Nat.add_assoc _ _ (_ * n)]
  | false =>
    rw [if_neg Bool.false_ne_true, if_neg Bool.false_ne_true, Nat.add_zero, Nat.sub_add_comm ho, Nat.mul_add]
    omega

theorem Dev.timeValid_iff : d.timeValid = true ↔ d.tbs.syncSeen = true ∧ d.tbs.needSync = false
    ∧ d.errExact ≤ d.tbs.limitUs * 1000 * (10 ^ 9 * nsU) := by
  simp [Dev.timeValid, and_assoc]

theorem Dev.timeValid_of_advance (hs : d.tbs.syncAt ≤ d.tbs.mono) (h32 : d.tbs.at32 ≤ d.tbs.mono) {n : Nat}
    (h : (d.advance n).timeValid = true) : d.timeValid = true := by
  obtain ⟨hseen, hneed, herr⟩ := Dev.timeValid_iff.mp h
  exact Dev.timeValid_iff.mpr ⟨hseen, hneed, (Dev.errExact_le_advance hs h32 n).trans herr⟩

/-- The instant of TIME_VALID_LOSS: the bound exceeds LIMIT_US there. -/
theorem Dev.timeValid_lost (hs : d.tbs.syncAt ≤ d.tbs.mono) (h32 : d.tbs.at32 ≤ d.tbs.mono)
    (ho : d.on32Time ≤ d.sinceSync) (hd : 0 < d.drift) :
    (d.advanceMono (d.tbs.mono + (d.tbs.limitUs * 1000 * (10 ^ 9 * nsU) - d.errExact) / d.drift + 1)).timeValid = false := by
  rw [Dev.advanceMono, Nat.add_assoc, Nat.add_sub_cancel_left, ← Bool.not_eq_true, Dev.timeValid_iff]
  rintro ⟨-, -, herr⟩
  rw [Dev.errExact_advance hs h32 ho] at herr
  change _ ≤ d.tbs.limitUs * 1000 * (10 ^ 9 * nsU) at herr
  have hdiv := Nat.lt_mul_div_succ (d.tbs.limitUs * 1000 * (10 ^ 9 * nsU) - d.errExact) hd
  omega

end

/-- Settles O19: the bound grows with the time since the write and with the time on XO32K, and the limit stays. -/
theorem errorBoundGrows : Obligations.ErrorBoundGrows := fun _ n hs h32 =>
  ⟨Dev.errExact_le_advance hs h32 n, Dev.timeValid_of_advance hs h32⟩

/-! ### Launch gates (R68, R69) -/

section
variable {g : Lg} {now : Nat}

/-- R69: the configuration that arming accepts. -/
theorem Lg.bad_eq_false : g.bad = false ↔ 10 ≤ g.width ∧ 1000 ≤ g.period ∧ (g.periodic = true → g.width + 10 ≤ g.period) := by
  simp [Lg.bad, and_assoc]

/-- Arming leaves the configuration as it is. -/
theorem Lg.arm_config : (g.arm now).width = g.width ∧ (g.arm now).period = g.period ∧ (g.arm now).periodic = g.periodic := by
  unfold Lg.arm
  split_ifs <;> exact ⟨rfl, rfl, rfl⟩

/-- A rising multiple of the period reaches every instant. -/
theorem Lg.le_from (h : 0 < g.period) (t : Nat) : t ≤ g.from t := by
  have hp : 0 < g.period * nsU := Nat.mul_pos h (by decide)
  have hc : t - g.start ≤ cdiv (t - g.start) (g.period * nsU) * (g.period * nsU) := by
    rw [cdiv, Nat.mul_comm]
    have := Nat.lt_mul_div_succ (t - g.start + g.period * nsU - 1) hp
    rw [Nat.mul_add] at this
    omega
  rw [Lg.from]
  omega

/-- R68: an armed gate's first instant lies at least 1 µs ahead. -/
theorem Lg.arm_next (hun : g.armed = false) (hp : 0 < g.period) (h : (g.arm now).armed = true) : now + usU ≤ (g.arm now).next := by
  unfold Lg.arm at h ⊢
  split_ifs at h ⊢ with hs
  · exact hs
  · exact Lg.le_from hp _
  · exact absurd (hun.symm.trans h) Bool.false_ne_true

/-- A gate that an ARM has reached shows it: armed, or late. -/
theorem Lg.arm_ne_default : g.arm now ≠ {} := by
  unfold Lg.arm
  split_ifs <;> exact fun h => by simpa using congrArg (fun g : Lg => g.armed || g.late) h

end

section
variable {d : Dev} {n : Nat} {v : Word}

/-- R69: ARM of a disarmed gate with the PERIODIC and POLARITY of the write. -/
theorem Dev.lgCtrl_arm {g : Lg} (hun : (d.lgate n).armed = false) (h0 : wbit v 0 = true) (h1 : wbit v 1 = false)
    (hg : g = { d.lgate n with periodic := wbit v 2, polarity := wbit v 3 }) : d.lgCtrl n v
    = if g.bad then d.lgErr n
      else (d.lgateMod n fun _ => g.arm d.tbs.time).irqIf 4 ((g.arm d.tbs.time).late && !(d.lgate n).late) := by
  subst hg
  simp [Dev.lgCtrl, hun, h0, h1]

/-- R68: DISARM of a gate whose PERIODIC and POLARITY the write keeps. -/
theorem Dev.lgCtrl_disarm (h1 : wbit v 1 = true) (hper : (d.lgate n).periodic = wbit v 2) (hpol : (d.lgate n).polarity = wbit v 3) :
    d.lgCtrl n v = (d.lgateMod n fun g => { g with armed := false, pulseEnd := min g.pulseEnd d.tbs.mono }).lgateMod n
      fun g => { g with periodic := wbit v 2, polarity := wbit v 3 } := by
  simp [Dev.lgCtrl, h1, hper, hpol]

/-- A gate that CFG_ERR marks stays disarmed. -/
theorem Dev.lgErr_armed (hun : (d.lgate n).armed = false) : ((d.lgErr n).lgate n).armed = false := by
  have hne : ({ d.lgate n with cfgErr := true } : Lg) ≠ {} := fun h => by simpa using congrArg Lg.cfgErr h
  rw [Dev.lgErr, Dev.lgate, (Dev.irqIf_keeps _ _ _).1]
  exact (congrArg Lg.armed (tget_tset_of_ne d.tbs.lg n hne)).trans hun

/-- The gate that an ARM leaves. -/
theorem Dev.lgate_armed {g : Lg} (b : Bool) : ((d.lgateMod n fun _ => g.arm d.tbs.time).irqIf 4 b).lgate n = g.arm d.tbs.time := by
  rw [Dev.lgate, (Dev.irqIf_keeps _ _ _).1]
  exact tget_tset_of_ne d.tbs.lg n Lg.arm_ne_default

end

/-- Settles O21: a configuration that R69 bars leaves the gate disarmed; another one arms it at an instant ahead. -/
theorem armedGatesAreSound : Obligations.ArmedGatesAreSound := by
  intro d n v hun h0 h1 harmed
  rw [Dev.lgCtrl_arm hun h0 h1 rfl] at harmed ⊢
  split_ifs at harmed ⊢ with hbad
  · exact absurd ((Dev.lgErr_armed hun).symm.trans harmed) Bool.false_ne_true
  · rw [Dev.lgate_armed] at harmed ⊢
    obtain ⟨hw, hp, hper⟩ := Lg.bad_eq_false.mp (Bool.eq_false_iff.mpr hbad)
    obtain ⟨ew, ep, eper⟩ := Lg.arm_config (g := { d.lgate n with periodic := wbit v 2, polarity := wbit v 3 }) (now := d.tbs.time)
    rw [ew, ep, eper]
    exact ⟨hw, hp, hper, Lg.arm_next hun (by omega) harmed⟩

/-! ### Registers that steer (R52, R53, R55, R61, R498) -/

section
variable {d : Dev} {m : Master} {v : Word}

theorem Dev.startResync_tbs (d : Dev) : d.startResync.tbs = { d.tbs with
    resync := true, resumeAt := max (d.gen.epochFull + 1) (cdiv (d.tbs.time + 2 * msU) epU)
    rechecked := false, frozen := false, cutoff := false } := by
  rw [Dev.startResync, (Dev.irqIf_keeps _ _ _).1]

/-- R498: the timebase starts from the held time, without a valid time. -/
theorem Dev.startTimebase_tbs (h : d.tbs.en = false) : d.startTimebase.tbs = { d.tbs with
    en := true, resync := true, resumeAt := max (d.gen.epochFull + 1) (cdiv (d.tbs.time + 2 * msU) epU)
    rechecked := false, frozen := false, cutoff := false, needSync := true, timeValid := false
    holdover := d.holdover } := by
  rw [Dev.startTimebase, if_neg (by simp [h]), Dev.refreshTime_tbs]
  simp only [Dev.timeValid, Dev.holdover, Dev.sinceSync, Dev.startResync_tbs, Bool.not_true, Bool.and_false, Bool.false_and]
  rfl

/-- R53: a reserved STEER, or another REFSEL while the timebase runs. -/
theorem Dev.tbsCtrl_reject (hr : d.reaches m = true) (h : wbits v 2 2 = 3 ∨ (d.tbs.en = true ∧ wbit v 1 ≠ d.tbs.refsel)) :
    d.tbsCtrl m v = d.cfgReject :=
  (if_neg (by simp [hr])).trans (if_pos h)

/-- The device as a write of TBS_CTRL leaves a stopped timebase, but for EN. -/
def Dev.steered (d : Dev) (v : Word) : Dev :=
  { d with
    tbs := { d.tbs with
      refsel := wbit v 1, incr := if wbit v 1 = d.tbs.refsel then d.tbs.incr else nominalIncr (wbit v 1)
      steer := wbits v 2 2, steerNext := none }
    ref := { d.ref with steered := d.ref.steered && wbits v 2 2 == d.tbs.steer } }

theorem Dev.tbsCtrl_stopped (hr : d.reaches m = true) (hen : d.tbs.en = false) (hst : wbits v 2 2 ≠ 3) :
    d.tbsCtrl m v = if wbit v 0 then (d.steered v).startTimebase else d.steered v := by
  have hsame (h : wbit v 1 = d.tbs.refsel) : d.tbs.refsel = wbit v 1 := h.symm
  unfold Dev.tbsCtrl
  simp only [hr, hen, hst, Dev.steered, Bool.not_true, Bool.false_eq_true, if_false, false_and, or_false]
  split_ifs with hsel <;> simp_all

/-- R53: STEER of a running timebase waits for the boundary. -/
theorem Dev.tbsCtrl_running (hr : d.reaches m = true) (hen : d.tbs.en = true) (h0 : wbit v 0 = true)
    (h1 : wbit v 1 = d.tbs.refsel) (hst : wbits v 2 2 ≠ 3) (hne : wbits v 2 2 ≠ d.tbs.steer) :
    d.tbsCtrl m v = { d with tbs := { d.tbs with steerNext := some (wbits v 2 2, d.applyEpoch) } } := by
  simp [Dev.tbsCtrl, hr, hen, h0, h1, hst, hne, Dev.startTimebase]

/-! The agent's writes. -/

theorem Dev.setIncr_agent {n : Nat} (hr : d.reaches m = true) (ha : d.isAgent m = true) : d.setIncr m n
    = if nominalIncr d.tbs.refsel < 5000 * ((n % 2 ^ 40 - nominalIncr d.tbs.refsel) + (nominalIncr d.tbs.refsel - n % 2 ^ 40))
      then { d with tbs := { d.tbs with incrReject := true } } else { d with tbs := { d.tbs with incr := n % 2 ^ 40 } } :=
  (if_neg (by simp [hr])).trans (if_neg (by simp [ha]))

/-- R53: a steering write by another master. -/
theorem Dev.steering_refused (hr : d.reaches m = true) (ha : d.isAgent m = false) (n : Nat) (i : Int) (w : Word) :
    d.setIncr m n = d.adjRefuse 4 ∧ d.adjust m i = d.adjRefuse 4 ∧ d.syncWrite m w = d.adjRefuse 4 :=
  ⟨(if_neg (by simp [hr])).trans (if_pos (by simp [ha])), (if_neg (by simp [hr])).trans (if_pos (by simp [ha])),
    (if_neg (by simp [hr])).trans (if_neg (by simp [ha]))⟩

/-- R61: the refusal of a step and its record. -/
def Dev.stepRefused (d : Dev) (r : Nat) (i : Int) : Dev :=
  (d.adjRefuse r).log 0x4201 (leBytes 1 r ++ List.replicate 7 0 ++ leBytes 8 (low 64 i))

/-- R55, R56, R61: a step by the agent while the timebase runs. -/
theorem Dev.adjust_running {i : Int} (hr : d.reaches m = true) (ha : d.isAgent m = true) (hen : d.tbs.en = true) :
    d.adjust m i = if d.goActive && decide (999 < i.natAbs) then d.stepRefused 1 i
      else if d.goActive && d.tbs.stepped then d.stepRefused 2 i
      else if i < 0 ∧ ((d.tbs.time : Int) + i * nsU + (if d.tbs.on32k then d.tbs.incr32 else d.tbs.incr) < 0
        ∨ (d.tbs.time : Int) + i * nsU + (if d.tbs.on32k then d.tbs.incr32 else d.tbs.incr) + 60 * secU
          < (d.gen.epochFull + 1) * epU) then d.adjRefuse 3
      else (d.learnXo (-i)).applyStep i :=
  (if_neg (by simp [hr])).trans <| (if_neg (by simp [ha])).trans <| if_neg (by simp [hen])

theorem Dev.syncWrite_agent (hr : d.reaches m = true) (ha : d.isAgent m = true) : d.syncWrite m v = d.sync (wbits v 0 24) :=
  (if_neg (by simp [hr])).trans (if_pos ha)

end

/-! The instructions that write these registers. -/

section
variable (s : State) (m : Master)

theorem exec_tbsEn (v : Word) : exec (.tbsEn m v) s = .next (s.after (s.dev.tbsCtrl m v)) := rfl
theorem exec_tbsRefsel (v : Word) : exec (.tbsRefsel m v) s = .next (s.after (s.dev.tbsCtrl m v)) := rfl
theorem exec_tbsSteer (v : Word) : exec (.tbsSteer m v) s = .next (s.after (s.dev.tbsCtrl m v)) := rfl
theorem exec_tbsIncrWrite (v : BitVec 64) : exec (.tbsIncrWrite m v) s = .next (s.after (s.dev.setIncr m v.toNat)) := rfl
theorem exec_tbsAdjWrite (v : BitVec 64) : exec (.tbsAdjWrite m v) s = .next (s.after (s.dev.adjust m v.toInt)) := rfl
theorem exec_tbsSyncWrite (v : Word) : exec (.tbsSyncWrite m v) s = .next (s.after (s.dev.syncWrite m v)) := rfl

end

/-- Settles O18: each write's branch. -/
theorem steeringWrites : Obligations.SteeringWrites := by
  rintro s _ m rfl hr
  refine ⟨fun v hen h0 h1 hst => ⟨_, exec_tbsEn s m v, ?start⟩, fun v hen h0 h1 hst => ⟨_, exec_tbsRefsel s m v, ?refsel⟩,
    fun v h => ?reject, fun v hen h0 h1 hst hne => ?steer, fun v ha => ⟨fun h => ?incr, fun h => ?incrFar⟩,
    fun v x ha hen h0 h999 hgo hx => ?step, fun v ha hen hgo hbig => ?big, fun v ha hen hgo hsmall hs => ?second,
    fun v ha => ⟨_, exec_tbsSyncWrite s m v, ?sync⟩, fun v w ha => ?other⟩
  case start =>
    simp only [State.after_dev]
    rw [Dev.tbsCtrl_stopped hr hen hst, if_pos h0, Dev.startTimebase_tbs (d := s.dev.steered v) hen]
    exact ⟨rfl, rfl, rfl, rfl, rfl, rfl⟩
  case refsel =>
    simp only [State.after_dev]
    rw [Dev.tbsCtrl_stopped hr hen hst, if_neg (by simp [h0])]
    exact ⟨rfl, if_neg (by simp [h1]), hen⟩
  case reject =>
    rw [exec_tbsEn, exec_tbsRefsel, exec_tbsSteer, Dev.tbsCtrl_reject hr h]
    exact ⟨rfl, rfl, rfl⟩
  case steer => rw [exec_tbsSteer, Dev.tbsCtrl_running hr hen h0 h1 hst hne]
  case incr => rw [exec_tbsIncrWrite, Dev.setIncr_agent hr ha, if_neg (by omega)]
  case incrFar => rw [exec_tbsIncrWrite, Dev.setIncr_agent hr ha, if_pos h]
  case step =>
    have hbig : ¬999 < v.toInt.natAbs := by omega
    have hsecond : ¬(s.dev.goActive && s.dev.tbs.stepped) = true := by rcases hgo with h | h <;> simp [h]
    rw [exec_tbsAdjWrite, Dev.adjust_running hr ha hen, if_neg (by simp [hbig]), if_neg hsecond, if_neg (by omega), hx]
  case big =>
    rw [exec_tbsAdjWrite, Dev.adjust_running hr ha hen, if_pos (by simp [hgo, hbig])]
    rfl
  case second =>
    rw [exec_tbsAdjWrite, Dev.adjust_running hr ha hen, if_neg (by simp [hgo, hsmall]), if_pos (by simp [hgo, hs])]
    rfl
  case sync =>
    simp only [State.after_dev]
    rw [Dev.syncWrite_agent hr ha, Dev.sync, Dev.refreshTime_tbs]
    simp [Dev.holdover, Dev.sinceSync, show msU ≠ 0 by decide]
  case other =>
    obtain ⟨hi, hj, hk⟩ := Dev.steering_refused hr ha v.toNat v.toInt w
    exact ⟨by rw [exec_tbsIncrWrite, hi], by rw [exec_tbsAdjWrite, hj], by rw [exec_tbsSyncWrite, hk]⟩

/-! ### Reads that latch, PPS and clocks (R24, R54, R63, R66, R71) -/

section
variable {d : Dev} {m : Master} {w : Fin 5}

theorem words128_word {v w : Nat} (h : w ≠ 4) : words128 v w = [word (v / 2 ^ (32 * w))] := if_neg h

/-- A word other than the first comes from the latch. -/
theorem Dev.tbsTimeRead_latched (h0 : w.val ≠ 0) (h4 : w.val ≠ 4) :
    d.tbsTimeRead m w = d.readOut [word (tget 0 d.tbs.timeLatch (masterKey m) / 2 ^ (32 * w.val))] := by
  simp only [Dev.tbsTimeRead, h0, h4, or_self, if_false, words128_word h4]

theorem Dev.tbsPpsiRead_latched {n : Fin 2} (h0 : w.val ≠ 0) (h4 : w.val ≠ 4) :
    d.tbsPpsiRead m n w = d.readOut [word (tget 0 d.tbs.ppsLatch (2 * masterKey m + n.val) / 2 ^ (32 * w.val))] := by
  simp only [Dev.tbsPpsiRead, h0, h4, or_self, if_false, words128_word h4]

theorem Dev.capDataRead_latched {n : Fin 16} (h0 : w.val ≠ 0) (h4 : w.val ≠ 4) :
    d.capDataRead m n w = d.readOut [word (tget 0 (d.capt n).latch (masterKey m) / 2 ^ (32 * w.val))] := by
  simp only [Dev.capDataRead, h0, h4, or_self, if_false, words128_word h4]

end

/-- R66: the next instant of an enabled output. -/
theorem execPpsOutPulse_fires {s : State} {n : Fin 2} {k : Nat} (hen : s.dev.tbs.en = true)
    (hk : k = max (tget 0 s.dev.tbs.ppsDue n.val) (s.dev.tbs.time / secU))
    (ht : s.dev.tbs.time ≤ k * secU + (s.dev.ppsAt n k).offset * nsU) (hp : (s.dev.ppsAt n k).enable = true) {x : Dev}
    (hx : x = s.dev.advanceTo (k * secU + (s.dev.ppsAt n k).offset * nsU)) :
    exec (.ppsOutPulse n) s = .next (s.after { x with tbs := { x.tbs with
      ppsDue := tset 0 x.tbs.ppsDue n.val (k + 1)
      ppsPulses := if (s.dev.ppsAt n k).gate && !x.timeValid then x.tbs.ppsPulses else tmod 0 x.tbs.ppsPulses n.val (· + 1) } }) := by
  subst hx
  show execPpsOutPulse n s = _
  refine act_after ?_
  simp only [← hk, ht, hp, hen, if_true, Bool.and_self]

@[simp] theorem Dev.setClock_blw (d : Dev) (on : Bool) : (d.setClock on).blw = d.blw := by
  unfold Dev.setClock
  split_ifs <;> rfl

/-- Settles O20: each event's branch. -/
theorem timebaseEvents : Obligations.TimebaseEvents := by
  rintro s _ rfl
  refine ⟨fun m n v g hr hun h0 h1 hg hbad => ?arm, fun m n v g hr hun h0 h1 hg hbad => ?armBad,
    fun m n v hr h1 hper hpol => ?disarm, fun hseen hm => ⟨_, rfl, ?holdover, ?holdoverAt⟩,
    fun hv hd h32 hs ho => ⟨_, rfl, ?loss⟩, fun m => rfl,
    fun m w h0 h4 => ?timeWord, fun m n w h0 h4 => ?ppsWord, fun m n w h0 h4 => ?capWord, fun m n => ⟨_, rfl, rfl⟩, fun m => rfl, fun m => rfl,
    fun n k hen hk ht hp => ⟨_, execPpsOutPulse_fires hen hk ht hp rfl, ?pulseAt, rfl, fun hg => ?pulses⟩, fun n dt => rfl,
    fun n => rfl, fun hok hnight => ?refLoss, fun hnight => ?refBack, fun p hp => ?oscBad, fun p hp => ?oscGood, rfl,
    fun n hen => ?timer⟩
  case arm =>
    show execLgArm m n v s = _
    refine act_after ((if_pos hr).trans ((Dev.lgCtrl_arm hun h0 h1 hg).trans (if_neg ?_)))
    simp [hbad]
  case armBad =>
    show execLgArm m n v s = _
    exact act_after ((if_pos hr).trans ((Dev.lgCtrl_arm hun h0 h1 hg).trans (if_pos hbad)))
  case disarm =>
    exact ⟨_, show execLgDisarm m n v s = _ from act_after ((if_pos hr).trans (Dev.lgCtrl_disarm h1 hper hpol)), rfl⟩
  case holdover =>
    simp only [State.after_dev, hseen, if_true, Dev.refreshTime_tbs]
    rw [Dev.holdover, Dev.sinceSync, Dev.advanceMono_mono, max_eq_right hm]
    change (s.dev.tbs.syncSeen && decide (s.dev.tbs.syncAt + 1500 * msU - s.dev.tbs.syncAt ≥ 1500 * msU)) = true
    simp [hseen]
  case holdoverAt =>
    simp only [State.after_dev, hseen, if_true, Dev.refreshTime_tbs]
    exact (Dev.advanceMono_mono _ _).trans (max_eq_right hm)
  case loss =>
    simp only [State.after_dev, hv, hd, decide_true, Bool.and_self, if_true, Dev.refreshTime_tbs]
    exact Dev.timeValid_lost hs h32 ho hd
  case timeWord =>
    show execTbsTimeRead m w s = _
    exact act_after (Dev.tbsTimeRead_latched h0 h4)
  case ppsWord =>
    show execTbsPpsiRead m n w s = _
    exact act_after (Dev.tbsPpsiRead_latched h0 h4)
  case capWord =>
    show execCapDataRead m n w s = _
    exact act_after (Dev.capDataRead_latched h0 h4)
  case pulseAt => exact (Dev.advanceTo_time hen _).trans (max_eq_right ht)
  case pulses => exact if_neg (by simp [hg])
  case refLoss =>
    show execRefclkLoss s = _
    exact act_after ((if_pos hok).trans (congrArg Dev.refreshTime (if_neg (by simpa using hnight))))
  case refBack =>
    have hoff : (s.dev.tbs.on32k && s.dev.blw.st == PwrSt.night) = false := by
      rw [beq_false_of_ne hnight, Bool.and_false]
    show execRefclkReturn s = _
    exact act_after (by simp only [hoff])
  case oscBad =>
    show execOscCheck p s = _
    exact act_after (if_pos hp)
  case oscGood =>
    show execOscCheck p s = _
    exact act_after (if_neg (by omega))
  case timer =>
    show execFirmwareTimer n s = _
    exact act_after (if_pos hen)

end Sys2Proof.Machine

/-! PROOFS. Epochs: the steps around a boundary, its shadows, slots and ticks (chapter 01). -/
namespace Sys2Proof.Machine

/-! ### Shadows (R39) -/

section
variable {d : Dev} (op : Op) (c : Cmd)

theorem Dev.shadowed_before (h : d.tbs.cutoff = false) : d.shadowed op c = { d with shadow := d.shadow ++ [(op, c)] } :=
  if_neg (by simp [h])

theorem Dev.shadowed_after (h : d.tbs.cutoff = true) : d.shadowed op c = { d with shadowNext := d.shadowNext ++ [(op, c)] } :=
  if_pos h

end

/-- Settles O17: the boundary folds over the shadow, and a write goes to its end or, after the cut-off, to the next shadow. -/
theorem shadowsApplyInOrder : Obligations.ShadowsApplyInOrder := by
  rintro d _ rfl
  refine ⟨rfl, fun op c h => ?before, fun op c h => ?after_, fun x hx hr => ?apply_⟩
  case before =>
    rw [Dev.shadowed_before op c h]
    exact ⟨rfl, rfl⟩
  case after_ =>
    rw [Dev.shadowed_after op c h]
    exact ⟨rfl, rfl⟩
  case apply_ => exact (if_neg hx).trans (if_pos (by rw [hr]; rfl))

/-! ### The steps of an epoch (R25) -/

/-- What decides whether the fleet's services run: the phase and the supplies. -/
theorem Dev.fleetUp_congr {x y : Dev} (hp : x.gen.phase = y.gen.phase) (ho : x.blw.off = y.blw.off)
    (hb : x.blw.backup = y.blw.backup) : x.fleetUp = y.fleetUp := by
  rw [Dev.fleetUp, Dev.fleetUp, hp, ho, hb]

@[simp] theorem Dev.refreshTime_keeps (d : Dev) :
    d.refreshTime.bgl = d.bgl ∧ d.refreshTime.blw = d.blw ∧ d.refreshTime.gen.phase = d.gen.phase := by
  obtain ⟨-, hphase, -⟩ := Dev.irqIf_follows { d with tbs := { d.tbs with timeValid := d.timeValid, holdover := d.holdover } } 3
    (d.timeValid != d.tbs.timeValid || d.holdover != d.tbs.holdover)
  exact ⟨by simp [Dev.refreshTime], by simp [Dev.refreshTime], hphase⟩

theorem Dev.refreshTime_fleetUp (d : Dev) : d.refreshTime.fleetUp = d.fleetUp := by
  obtain ⟨-, hblw, hphase⟩ := d.refreshTime_keeps
  exact Dev.fleetUp_congr hphase (congrArg Blw.off hblw) (congrArg Blw.backup hblw)

section
variable {s : State}

/-- R25 step 2 with the fleet and Bugle up, and no NIGHT. -/
theorem exec_beaconFreeze_up {e : Nat} {x y z : Dev} (hen : s.dev.tbs.en = true) (hf : s.dev.tbs.frozen = false)
    (he : e = s.dev.nextBoundary) (hx : x = (s.dev.advanceTo (e * epU - msU)).refreshTime) (hup : x.fleetUp = true)
    (hy : y = x.pwrRecheck e) (hb : y.bgl.up = true) (hn : y.blw.st ≠ .night) (hz : z = y.sampling e)
    (hzup : z.fleetUp = true) (hzn : z.blw.st ≠ .night) : exec .beaconFreeze s = .next (s.after { z.freezeBeacon e with
      tbs := { (z.freezeBeacon e).tbs with frozen := true } }) := by
  subst he hx hy hz
  show execBeaconFreeze s = _
  refine act_after ((if_neg (by simp [hen, hf])).trans ?_)
  have hn' := bne_iff_ne.mpr hn
  have hzn' := bne_iff_ne.mpr hzn
  simp only [Dev.beforeBoundary, hup, hb, hn', hzup, hzn', if_true, Bool.and_self]

/-- The device after a step 2 without a sampling or a beacon. -/
def Dev.unsampled (d : Dev) : Dev :=
  { d with
    bgl := { d.bgl with beacons := (none :: d.bgl.beacons).take 4, bitmap := 0, token := [] }
    rad := { d.rad with beacon := [], nightNext := false }
    tbs := { d.tbs with frozen := true } }

/-- R25 step 2 with Bugle and the fleet down. -/
theorem exec_beaconFreeze_down (hen : s.dev.tbs.en = true) (hf : s.dev.tbs.frozen = false) (hb : s.dev.bgl.up = false)
    (hup : s.dev.fleetUp = false) : exec .beaconFreeze s
      = .next (s.after (s.dev.advanceTo (s.dev.nextBoundary * epU - msU)).refreshTime.unsampled) := by
  show execBeaconFreeze s = _
  refine act_after ((if_neg (by simp [hen, hf])).trans ?_)
  change _ = ((s.dev.beforeBoundary msU).refreshTime).unsampled
  generalize hx : (s.dev.beforeBoundary msU).refreshTime = x
  have hxup : x.fleetUp = false := by
    rw [← hx, Dev.refreshTime_fleetUp]
    exact hup
  have hxb : x.bgl.up = false := by
    rw [← hx, (Dev.refreshTime_keeps _).1]
    exact hb
  rw [Dev.fleetUp] at hxup
  simp only [Dev.fleetUp, Dev.unsampled, hxup, hxb, Bool.false_and, Bool.false_eq_true, if_false]

end

/-- Settles O16: each step's branch. -/
theorem epochEvents : Obligations.EpochEvents := by
  rintro s _ rfl hen
  refine ⟨fun x h hx => ?recheck, fun x h hx => ?cutoff,
    fun e x y z hf he hx hup hy hb hn hz hzup hzn => ⟨_, rfl, exec_beaconFreeze_up hen hf he hx hup hy hb hn hz hzup hzn⟩,
    fun hf hb hup => ⟨_, exec_beaconFreeze_down hen hf hb hup, rfl, rfl, rfl, rfl, ?beacons⟩,
    fun mon b x hb hx hup => ?boundaryDown, fun mon b x hb hx hup => ?boundary,
    fun k x hre hk h40 hx => ⟨_, rfl, fun hup => ?slot, fun hup => ?slotDown⟩,
    fun x hre hw hs hx => ⟨fun hup => ?window, fun hup => ?windowDown⟩, fun u j x y hc hbk hre hj h100 hx hy hup => ?tick⟩
  case beacons =>
    show (none :: (s.dev.advanceTo (s.dev.nextBoundary * epU - msU)).refreshTime.bgl.beacons).take 4 = _
    simp
  case recheck =>
    show execTxnRecheck s = _
    subst hx
    exact act_after (if_neg (by simp [hen, h]))
  case cutoff =>
    show execEpochCutoff s = _
    subst hx
    exact act_after (if_neg (by simp [hen, h]))
  case boundaryDown =>
    show execEpochBoundary mon s = _
    subst hb hx
    exact act_after ((if_neg (by simp [hen])).trans (if_neg (by simp [hup])))
  case boundary =>
    show execEpochBoundary mon s = _
    subst hb hx
    exact act_after ((if_neg (by simp [hen])).trans (if_pos hup))
  case slot =>
    show execSlotStart s = _
    subst hx hk
    exact act_after ((if_neg (by simp [hen, hre, Nat.not_le.mpr h40])).trans (if_pos hup))
  case slotDown =>
    show execSlotStart s = _
    subst hx hk
    exact act_after ((if_neg (by simp [hen, hre, Nat.not_le.mpr h40])).trans (if_neg (Bool.eq_false_iff.mp hup)))
  case window =>
    show execStopWindowEnd s = _
    subst hx
    exact act_after ((if_neg (by simp [hen, hre, hw, hs])).trans (if_pos hup))
  case windowDown =>
    show execStopWindowEnd s = _
    subst hx
    exact act_after ((if_neg (by simp [hen, hre, hw, hs])).trans (if_neg (Bool.eq_false_iff.mp hup)))
  case tick =>
    show execProfileTick u s = _
    subst hy hx hj
    refine act_after ?_
    simp only [hc, hbk, List.isEmpty_nil, if_true, Option.isSome_none, Bool.false_eq_true, if_false]
    exact (if_neg (by simp [hen, hre, Nat.not_le.mpr h100])).trans (if_pos hup)

end Sys2Proof.Machine

/-! PROOFS. The GEN block: rate monitors, memory errors, the ledger and the common queues' registers (chapter 01). -/
namespace Sys2Proof.Machine

/-- A change of a rate monitor is its change at the present row. -/
theorem Dev.rateMonMod_congr {d : Dev} {k : Nat} {f g : RateMon → RateMon} (h : f (d.rateMon k) = g (d.rateMon k)) :
    d.rateMonMod k f = d.rateMonMod k g := by
  rw [Dev.rateMonMod, Dev.rateMonMod, tmod_congr h]

section
variable {s : State}

/-- R12, R30: an uncorrectable error in a region whose loss stops the fleet. -/
theorem exec_memoryUe_stops {k : Fin 10} {a : Word} {x : Dev}
    (hx : x = (Dev.irqIf { s.dev with gen := { s.dev.gen with ue := true, ueRegion := k.val, void := true } } 0
      (!s.dev.gen.ue)).log 0x8002 (leBytes 1 k.val ++ [0, 0, 0] ++ leBytes 4 a.toNat))
    (h : k.val = 0 ∨ k.val = 5 ∨ k.val = 7) : exec (.memoryUe k a) s = .next (s.after
      ((Dev.endTokens { x with orc := { x.orc with ueHit := x.orc.ueHit || k.val == 7 } }).fleetStop 7)) := by
  subst hx
  show execMemoryUe k a s = _
  exact act_after (if_pos h)

/-- R13: in another region the owning service restarts. -/
theorem exec_memoryUe_restarts {k : Fin 10} {a : Word} {x : Dev}
    (hx : x = (Dev.irqIf { s.dev with gen := { s.dev.gen with ue := true, ueRegion := k.val, void := true } } 0
      (!s.dev.gen.ue)).log 0x8002 (leBytes 1 k.val ++ [0, 0, 0] ++ leBytes 4 a.toNat))
    (h : ¬(k.val = 0 ∨ k.val = 5 ∨ k.val = 7)) : exec (.memoryUe k a) s = .next (s.after
      { x with gen := { x.gen with restarts := tinc x.gen.restarts k.val } }) := by
  subst hx
  show execMemoryUe k a s = _
  exact act_after (if_neg h)

/-- R31: a sweep over whole pools. -/
theorem exec_ledgerCheck_whole {f : Vector Nat 8} (h : s.dev.ledgerBad f = none) :
    exec (.ledgerCheck f) s = .next (s.after { s.dev with gen := { s.dev.gen with
      sums := s.dev.ledgerSums f, sumGens := (s.dev.bgl.goGen, s.dev.bgl.stopGen), sweeps := s.dev.gen.sweeps + 1 } }) := by
  show execLedgerCheck f s = _
  refine act_after ?_
  simp only [h]

/-- R32: the first sweep that finds a pool that is not whole. -/
theorem exec_ledgerCheck_fault {f : Vector Nat 8} {p : Nat} {x : Dev} (h : s.dev.ledgerBad f = some p)
    (hf : s.dev.gen.ledgerFault = false)
    (hx : x = Dev.irq { s.dev with gen := { s.dev.gen with sums := s.dev.ledgerSums f
                                                           sumGens := (s.dev.bgl.goGen, s.dev.bgl.stopGen)
                                                           ledgerFault := true, ledgerPool := p } } 0) :
    exec (.ledgerCheck f) s = .next (s.after (((x.log 0xC003 (leBytes 1 p ++ [0, 0, 0] ++ leBytes 4 (x.gen.sums.getD p 0)
      ++ leBytes 4 (poolTotal p))).endTokens).fleetStop 6)) := by
  subst hx
  show execLedgerCheck f s = _
  refine act_after ?_
  simp only [h]
  exact if_neg (by simp [hf])

end

/-- Settles O13: each event's branch. -/
theorem genBlockEvents : Obligations.GenBlockEvents := by
  rintro s _ rfl
  refine ⟨fun k r v hv hrun => ?window, fun k r hrun => ?stopped, fun m k v hr h31 => ?restart, fun k n => rfl,
    fun k a x hx => ⟨exec_memoryUe_stops hx, exec_memoryUe_restarts hx⟩, fun f h => exec_ledgerCheck_whole h,
    fun f p x h hf hx => exec_ledgerCheck_fault h hf hx, fun m v hr => ⟨?trcWm, ?trcDrop, ?trcClr⟩,
    fun m r v hr => ⟨?ringWm, ?ringDrop⟩⟩
  case window =>
    subst hv
    show execRateMonitorWindow k r s = _
    exact act_after (Dev.rateMonMod_congr (if_pos hrun))
  case stopped =>
    show execRateMonitorWindow k r s = _
    exact act_after (Dev.rateMonMod_congr (if_neg hrun))
  case restart =>
    show execGenRateminRestart m k v s = _
    exact act_after ((if_neg (by simp [hr])).trans (if_pos h31))
  case trcWm =>
    show execQwmWrite m .trc v s = _
    exact act_after (if_pos hr)
  case trcDrop =>
    show execQctlDropPacket m .trc s = _
    exact act_after (if_pos hr)
  case trcClr =>
    show execQctlClrCount m .trc s = _
    exact act_after (if_pos hr)
  case ringWm =>
    show execQwmWrite m (.cr r) v s = _
    exact act_after (if_pos hr)
  case ringDrop =>
    exact ⟨_, show execQctlDropPacket m (.cr r) s = _ from act_after (if_pos hr), rfl⟩

end Sys2Proof.Machine

/-! PROOFS. The events of sample lanes, channels and acquisition (chapter 03). -/
namespace Sys2Proof.Machine

/-! ### What the channels' bookkeeping leaves alone -/

@[simp] theorem Dev.chanMod_lanes (d : Dev) (k : Nat) (f : Chan → Chan) : (d.chanMod k f).gnss.lanes = d.gnss.lanes := rfl

@[simp] theorem Dev.acqPush_lanes (d : Dev) (q : AcqReq) : (d.acqPush q).gnss.lanes = d.gnss.lanes := by
  unfold Dev.acqPush
  split_ifs <;> rfl

@[simp] theorem Dev.coastOver_lanes (d : Dev) (k : Nat) : (d.coastOver k).gnss.lanes = d.gnss.lanes := by
  unfold Dev.coastOver
  dsimp only
  split_ifs
  · exact Dev.acqPush_lanes _ _
  · rfl

@[simp] theorem Dev.governor_keeps (d : Dev) : d.governor.gnss.surge = d.gnss.surge ∧ d.governor.tbs = d.tbs := ⟨rfl, rfl⟩

theorem Dev.chanMod_congr {d : Dev} {k : Nat} {f g : Chan → Chan} (h : f (d.chan k) = g (d.chan k)) :
    d.chanMod k f = d.chanMod k g := by
  rw [Dev.chanMod, Dev.chanMod, tmod_congr h]

theorem Dev.laneMod_congr {d : Dev} {k : Nat} {f g : Lane → Lane} (h : f (d.lane k) = g (d.lane k)) :
    d.laneMod k f = d.laneMod k g := by
  rw [Dev.laneMod, Dev.laneMod, tmod_congr h]

/-! ### Lanes -/

section
variable {s : State} {k : Fin 8}

/-- R95: a HI crossing ends in the surge, whatever became of the block. -/
theorem exec_sampleBlock_surge (hen : (s.dev.lane k).en = true) (hc : (s.dev.lane k).clkLost = false)
    (h : ((s.dev.lane k).fifo.push () true).2 = true) : ∃ x : Dev, exec (.sampleBlock k) s
      = .next (s.after (Dev.setVdom { x with gnss := { x.gnss with surge := true, vGnss := 880 } } 8 880)) := by
  refine ⟨_, show execSampleBlock k s = _ from act_after ((if_neg (by simp [hen, hc])).trans (if_pos h))⟩

/-- R79: a growth is a slip unless it is NUM or one beside it. -/
theorem slip_iff (n g : Nat) : (decide (g + 1 < n) || decide (n + 1 < g)) = !(decide (n ≤ g + 1) && decide (g ≤ n + 1)) := by
  rw [Bool.not_and, ← decide_not, ← decide_not]
  simp only [Nat.not_le]

/-- R109: the channels of a lost lane coast; no lane's row changes but its own. -/
theorem exec_laneClockLost_lanes (hen : (s.dev.lane k).en = true) (hc : (s.dev.lane k).clkLost = false) :
    ∃ t, exec (.laneClockLost k) s = .next t
      ∧ t.dev.gnss.lanes = tmod {} s.dev.gnss.lanes k fun l => { l with clkLost := true } := by
  refine ⟨_, show execLaneClockLost k s = _ from act_after (if_pos (by simp [hen, hc])), ?_⟩
  refine List.foldlRecOn (motive := fun y : Dev => y.gnss.lanes = _) _ _ (by simp) fun y hy x _ => ?_
  split_ifs
  · exact hy
  · exact hy

/-- R109: the channels of a lane that returns go on. -/
theorem exec_laneClockReturn_lanes (hc : (s.dev.lane k).clkLost = true) :
    ∃ t, exec (.laneClockReturn k) s = .next t
      ∧ t.dev.gnss.lanes = tmod {} s.dev.gnss.lanes k fun l => { l with clkLost := false } := by
  refine ⟨_, show execLaneClockReturn k s = _ from act_after (if_pos hc), ?_⟩
  refine List.foldlRecOn (motive := fun y : Dev => y.gnss.lanes = _) _ _ (by simp) fun y hy x _ => ?_
  split_ifs
  · exact (Dev.coastOver_lanes _ _).trans hy
  · exact hy

end

/-! ### The events -/

/-- Settles O23: each event's branch. -/
theorem gnssEvents : Obligations.GnssEvents := by
  rintro s _ rfl
  refine ⟨fun k r hr => ?timeout, fun k hen hc h => ?sample, fun hs hl => ?hold, fun k g hen hco => ?latch,
    fun k => exec_laneClockLost_lanes, fun k => exec_laneClockReturn_lanes, fun k hst hc => ?coast, fun k hst => ?dump,
    fun cn0 dop q qs hq hst hm => ?found, fun k hst hq hl => ?retry⟩
  case timeout =>
    refine ⟨_, show execReadTimeout k s = _ from act_after (by simp only [hr]; rfl), rfl, rfl, ?_⟩
    exact Dev.advanceMono_mono _ _
  case sample =>
    obtain ⟨x, hx⟩ := exec_sampleBlock_surge hen hc h
    exact ⟨_, hx, rfl, rfl⟩
  case hold =>
    refine ⟨_, show execSurgeHoldEnd s = _ from act_after (if_pos (by simp [hs, hl])), rfl, ?_⟩
    exact Dev.advanceMono_mono _ _
  case latch =>
    show execCoherentLatch k g s = _
    refine act_after (Dev.laneMod_congr ?_)
    simp only [hen, hco, Bool.and_self, if_true, slip_iff]
  case coast =>
    show execCoastLimit k s = _
    exact act_after (if_pos ⟨hst, hc⟩)
  case dump =>
    show execCorrelatorDump k s = _
    exact act_after (if_pos hst)
  case found =>
    show execAcqComplete true cn0 dop s = _
    refine act_after ?_
    simp only [hq]
    have hch : Dev.chan { s.dev with gnss := { s.dev.gnss with acqQ := qs } } q.ch = s.dev.chan q.ch := rfl
    refine Dev.chanMod_congr ?_
    rw [hch]
    simp [hm, hst]
  case retry =>
    exact ⟨_, rfl, show execAcqRetry k s = _ from act_after ((if_pos ⟨hst, hq⟩).trans (if_pos hl))⟩

end Sys2Proof.Machine

/-! PROOFS. Register writes without a row of their own, and the SPIH transfers (chapters 00 and 12). -/
namespace Sys2Proof.Machine

/-! ### Register writes (00 R9, R497) -/

section
variable {d : Dev} {m : Master} {a : Nat} {v : Word}

/-- A write by a master of BAR0 to an offset outside the mailboxes goes to its block. -/
theorem Dev.regWrite_block (h4 : a % 4 = 0) (ho : d.blw.off = false) (hb : d.blw.backup = false) (hm : m ≠ .hpf1)
    (hc : chanOf a = none) (hr : d.reaches m = true) : d.regWrite m a v
    = if a < 0x10000 then d.genWrite a v
      else if 0x30000 ≤ a ∧ a < 0x30400 then d.crWrite ((a - 0x30000) / 0x40) (a % 0x40) v
      else if 0x40000 ≤ a ∧ a < 0x50000 then d.tbsWrite m (a - 0x40000) v
      else if a = 0x50008 then d.cursorWrite (some v) none
      else if a = 0x5000C then d.cursorWrite none (some v)
      else if a = 0x70010 then d.blwInput v
      else if 0x80000 ≤ a ∧ a < 0x80040 then d.trcWrite (a - 0x80000) v
      else if 0xF0000 ≤ a ∧ a < 0xF0300 then d.msixWrite ((a - 0xF0000) / 16) (a / 4 % 4) v
      else d := by
  unfold Dev.regWrite
  rw [if_neg (by simp [h4, ho, hb]), if_neg hm, hc]
  exact if_neg (by simp [hr])

/-- TBS_HOLD's low word (02 R62). -/
theorem Dev.regWrite_hold (ho : d.blw.off = false) (hb : d.blw.backup = false) (hm : m ≠ .hpf1) (hr : d.reaches m = true) :
    d.regWrite m 0x4003C v = d.holdWrite v := by
  rw [Dev.regWrite_block rfl ho hb hm rfl hr, if_neg (by decide), if_neg (by decide), if_pos (by decide)]
  rfl

/-- A write to a mailbox channel by a master that is no endpoint. -/
theorem Dev.regWrite_stranger {ch : Nat} (h4 : a % 4 = 0) (ho : d.blw.off = false) (hb : d.blw.backup = false) (hm : m ≠ .hpf1)
    (hc : chanOf a = some ch) (he : d.endOf ch m = none) : d.regWrite m a v = d.turnAway m := by
  unfold Dev.regWrite
  rw [if_neg (by simp [h4, ho, hb]), if_neg hm, hc]
  simp only [he]

end

theorem exec_registerWrite (m : Master) (off : BitVec 20) (v : Word) (s : State) :
    exec (.registerWrite m off v) s = .next (s.after (s.dev.regWrite m off.toNat v)) := rfl

/-! ### SPIH (12 R367, R368) -/

/-- A transfer whose CRC is right. -/
theorem Dev.spiWrite_good (d : Dev) (a : Nat) (data : List Byte) : d.spiWrite a data true
    = if data.length < 4 ∨ 64 < data.length ∨ data.length % 4 ≠ 0 ∨ a % 4 ≠ 0 ∨ a < 0x11000 ∨ 0x11800 < a + data.length
      then d.turnAway .spih else Dev.spiWords a (packWords data) d := rfl

section
variable {s : State} (ho : s.dev.blw.off = false) (hb : s.dev.blw.backup = false)
include ho hb

theorem exec_spihWrite (a : BitVec 24) (data : List Byte) (crc : Byte) : exec (.spihWrite a data crc) s
    = .next (s.after ((s.dev.spiBegin.spiOut [s.dev.spiStatus]).spiWrite a.toNat data
        (crc8 (0x02 :: beBytes 3 a.toNat ++ data) == crc.toNat))) := by
  show execSpihWrite a data crc s = _
  exact act_after (if_neg (by simp [ho, hb]))

/-- A read of one word. -/
theorem exec_spihRead_word {a : BitVec 24} {r : Word × Dev} (h : spiReads a.toNat = true)
    (hr : r = s.dev.spiBegin.regRead .spih a.toNat) : exec (.spihRead a 4) s
    = .next (s.after ((r.2.spiOut (s.dev.spiStatus :: 0xA5 :: leBytes 4 r.1.toNat ++
      [BitVec.ofNat 8 (crc8 (0x0B :: beBytes 3 a.toNat ++ leBytes 4 r.1.toNat))])).readOut [r.1])) := by
  show execSpihRead a 4 s = _
  refine act_after ((if_neg (by simp [ho, hb])).trans ?_)
  have hf : Dev.spiFetch (((4 : Fin 65).val + 3) / 4) a.toNat s.dev.spiBegin = ([r.1], r.2) := by
    rw [show ((4 : Fin 65).val + 3) / 4 = 0 + 1 from rfl, Dev.spiFetch, if_pos h, ← hr]
    rfl
  simp only [hf]
  rfl

end

/-- Settles O14: each write's block, and each transfer's branch. -/
theorem registerAccesses : Obligations.RegisterAccesses := by
  rintro s _ rfl ho hb
  refine ⟨fun m v hr hm => ⟨?status, ?mask⟩, fun m v hr hm => ⟨?ro, ?undefined⟩, fun m v hr hm => ?input,
    fun m v hr hm hl => ?hold, fun m v hm he => ?stranger, fun a data crc hcrc => ?badCrc, fun a data crc hcrc hout => ?outside,
    fun a data crc hcrc h4 h64 hmod ha hlo hhi => ?inside, fun a r h hr => exec_spihRead_word ho hb h hr, ?spihStatus⟩
  case status => rw [exec_registerWrite, Dev.regWrite_block rfl ho hb hm rfl hr]; rfl
  case mask => rw [exec_registerWrite, Dev.regWrite_block rfl ho hb hm rfl hr]; rfl
  case ro => rw [exec_registerWrite, Dev.regWrite_block rfl ho hb hm rfl hr]; rfl
  case undefined => rw [exec_registerWrite, Dev.regWrite_block rfl ho hb hm rfl hr]; rfl
  case input => rw [exec_registerWrite, Dev.regWrite_block rfl ho hb hm rfl hr]; rfl
  case hold =>
    rw [exec_registerWrite, show (0x4003C : BitVec 20).toNat = 0x4003C from rfl, Dev.regWrite_hold ho hb hm hr, Dev.holdWrite,
      if_pos hl]
  case stranger => rw [exec_registerWrite, Dev.regWrite_stranger rfl ho hb hm rfl he]
  case badCrc =>
    rw [exec_spihWrite ho hb, beq_false_of_ne hcrc]
    rfl
  case outside =>
    rw [exec_spihWrite ho hb, beq_iff_eq.mpr hcrc, Dev.spiWrite_good, if_pos (by omega)]
    rfl
  case inside =>
    rw [exec_spihWrite ho hb, beq_iff_eq.mpr hcrc, Dev.spiWrite_good, if_neg (by omega)]
  case spihStatus =>
    show execSpihStatus s = _
    exact act_after (if_neg (by simp [ho, hb]))

end Sys2Proof.Machine
